-- ==== Sys2Proof/Word.lean ====
section
/-! DEFINITION. Word.lean: the smallest unit the RG8 exchanges on its ports and on its field loop. -/

namespace Sys2Proof

/-- One byte as a port or the field loop carries it (8 data bits: R170, R183). -/
abbrev Byte := BitVec 8

end Sys2Proof
end

