-- ==== Sys2Proof/Syntax.lean ====
section
/-! DEFINITION. Syntax.lean: the names the commands use (ports, zones, channels, straps) and `Instr`,
the commands of the part: one constructor for each row of spec/opcode_table.json.

A request row (SET_POINT, WRITE_ZONE and so on) is the step in which PI TAKES the frame at the head of a port's
request queue and its owner carries it out (R171, R102). The request's own operands (zone, channel, value,
presence set and fields) are the payload bytes of that frame (R181), which the command FRAME brought in, so the row's
command names the port alone. -/

namespace Sys2Proof

/-- A zone Z0..Z7. -/
abbrev ZoneId := Fin 8

/-- An object O0..O31. -/
abbrev ObjId := Fin 32

/-- A master port P0..P2. -/
abbrev PortId := Fin 3

/-- A channel kind: one actuated quantity of a zone (Terms, "channel"). -/
inductive ChanKind where
  | light | shade | heat | moist
  deriving DecidableEq, Repr

/-- The role a port is strapped to be (R173). -/
inductive Role where
  | none | climate | lighting | conservation
  deriving DecidableEq, Repr

/-- The rate the two rate strap pins select (R170). -/
inductive RateStrap where
  | r19200 | r57600 | r115200 | r230400
  deriving DecidableEq, Repr

/-- The strap pins as they stand at a reset: two rate pins for the part, two role pins for each port (R170, R173). -/
structure Straps where
  rate  : RateStrap
  roles : Vector Role 3
  deriving DecidableEq, Repr

/-- The commands: one constructor per row of spec/opcode_table.json, in the table's order. -/
inductive Instr where
  /-- POWER_ON. `kept` is `some n` when the backup domain kept its supply and the clock ran on for `n` seconds
  while the part was off, `none` when the backup domain was lost (R184). -/
  | powerOn (straps : Straps) (kept : Option Nat)
  /-- RESET_PIN. The straps are read at each reset (R173). -/
  | resetPin (straps : Straps)
  /-- FRAME. Bytes arrive on port `p`, none of them more than 20 ms after the one before it. -/
  | frame (p : PortId) (bytes : List Byte)
  /-- INTER_BYTE_GAP. 20 ms have passed on port `p` since the last byte. -/
  | interByteGap (p : PortId)
  /-- RESPONSE_SENT. The last byte of the response on the line of port `p` has gone. -/
  | responseSent (p : PortId)
  /-- ATTENTION_PULSE_END. The 50 µs pulse on the attention line of port `p` ends. -/
  | attentionPulseEnd (p : PortId)
  /-- BAD_CMD. -/
  | badCmd (p : PortId)
  /-- SET_POINT. -/
  | setPoint (p : PortId)
  /-- LINK. -/
  | link (p : PortId)
  /-- LINK_TIMEOUT. The 2 s of running time after the last LINK of port `p` have run out. -/
  | linkTimeout (p : PortId)
  /-- TAKE_TENURE. -/
  | takeTenure (p : PortId)
  /-- RELEASE_TENURE. -/
  | releaseTenure (p : PortId)
  /-- TENURE_LAPSE. TA takes the lapse of one channel. -/
  | tenureLapse (z : ZoneId) (ch : ChanKind)
  /-- CLEAR_CONDITIONS. -/
  | clearConditions (p : PortId)
  /-- WRITE_ZONE. -/
  | writeZone (p : PortId)
  /-- WRITE_ENVELOPE. -/
  | writeEnvelope (p : PortId)
  /-- WRITE_OBJECT. -/
  | writeObject (p : PortId)
  /-- READ_OBJECT. -/
  | readObject (p : PortId)
  /-- READ_ZONE. -/
  | readZone (p : PortId)
  /-- READ_NODE. -/
  | readNode (p : PortId)
  /-- READ_PORT. -/
  | readPort (p : PortId)
  /-- READ_SYSTEM. -/
  | readSystem (p : PortId)
  /-- SUBSCRIBE_ON. -/
  | subscribeOn (p : PortId)
  /-- SUBSCRIBE_OFF. -/
  | subscribeOff (p : PortId)
  /-- DRAIN. -/
  | drain (p : PortId)
  /-- SCAN. -/
  | scan (p : PortId)
  /-- SET_WATCH_ON. -/
  | setWatchOn (p : PortId)
  /-- SET_WATCH_OFF. -/
  | setWatchOff (p : PortId)
  /-- MARK. -/
  | mark (p : PortId)
  /-- SET_ATTENTION. -/
  | setAttention (p : PortId)
  /-- ACK_ATTENTION. -/
  | ackAttention (p : PortId)
  /-- SUPERVISE_ON. -/
  | superviseOn (p : PortId)
  /-- SUPERVISE_OFF. -/
  | superviseOff (p : PortId)
  /-- SET_CLOCK. -/
  | setClock (p : PortId)
  /-- SAVE. -/
  | save (p : PortId)
  /-- WRITE_AUTHORITY. -/
  | writeAuthority (p : PortId)
  /-- WRITE_NODE. -/
  | writeNode (p : PortId)
  /-- RESET_DOSE. -/
  | resetDose (p : PortId)
  /-- SET_PERIOD. -/
  | setPeriod (p : PortId)
  /-- SET_HOLD. -/
  | setHold (p : PortId)
  /-- CLOCK_SECOND. One second of the 32.768 kHz crystal. -/
  | clockSecond
  /-- MINUTE_MARK. DI takes a minute mark the clock has reached. -/
  | minuteMark
  /-- FIVE_MINUTE_MARK. ZE takes a five-minute mark the clock has reached. -/
  | fiveMinuteMark
  /-- STORE_WRITE_END. The section being written ends after 0.4 s; `verified` is what reading it back showed. -/
  | storeWriteEnd (verified : Bool)
  /-- SENSOR_POLL_DUE. The next due time of the sensor node at loop address `addr` is reached. -/
  | sensorPollDue (addr : Nat)
  /-- STATUS_DUE. The status due time of the actuator node at loop address `addr` is reached. -/
  | statusDue (addr : Nat)
  /-- ACTUATOR_RETRY. The retry time of the SILENT actuator node at loop address `addr` is reached. -/
  | actuatorRetry (addr : Nat)
  /-- LOOP_TRANSACTION_START. The loop arbiter begins a transaction. -/
  | loopTransactionStart
  /-- LOOP_REPLY. A frame arrives on the field loop. -/
  | loopReply (bytes : List Byte)
  /-- LOOP_REPLY_TIMEOUT. The 30 ms window of the transaction under way closes. -/
  | loopReplyTimeout
  deriving DecidableEq, Repr

end Sys2Proof
end

