-- ==== Sys2Proof/WellFormed.lean ====
section
/-! DEFINITION. WellFormed.lean: what a command must satisfy to stand for something that can reach the part. -/

namespace Sys2Proof

/-- A loop address of a node: 1..32 (R145). -/
abbrev validAddress (addr : Nat) : Prop := 1 ≤ addr ∧ addr ≤ 32

/-- A command that can reach the part. A burst of bytes on a port or on the loop has at least one byte, and a timer of
the loop belongs to one of the 32 addresses (R145). Every other operand is a name of a closed type, whose values are all
well-formed. -/
def Instr.WellFormed : Instr → Bool
  | .frame _ bytes => !bytes.isEmpty
  | .loopReply bytes => !bytes.isEmpty
  | .sensorPollDue addr => decide (validAddress addr)
  | .statusDue addr => decide (validAddress addr)
  | .actuatorRetry addr => decide (validAddress addr)
  | .powerOn _ _ | .resetPin _ | .interByteGap _ | .responseSent _ | .attentionPulseEnd _ | .badCmd _ | .setPoint _
  | .link _ | .linkTimeout _ | .takeTenure _ | .releaseTenure _ | .tenureLapse _ _ | .clearConditions _ | .writeZone _
  | .writeEnvelope _ | .writeObject _ | .readObject _ | .readZone _ | .readNode _ | .readPort _ | .readSystem _
  | .subscribeOn _ | .subscribeOff _ | .drain _ | .scan _ | .setWatchOn _ | .setWatchOff _ | .mark _ | .setAttention _
  | .ackAttention _ | .superviseOn _ | .superviseOff _ | .setClock _ | .save _ | .writeAuthority _ | .writeNode _
  | .resetDose _ | .setPeriod _ | .setHold _ | .clockSecond | .minuteMark | .fiveMinuteMark | .storeWriteEnd _
  | .loopTransactionStart | .loopReplyTimeout => true

end Sys2Proof
end

