-- ==== Sys2Proof/Decode.lean ====
section
/-! DEFINITION. Decode.lean: the command a table word spells. The rows of spec/opcode_table.json give no bits
("fields": []), so no word spells one. The request frames of the ports (R170, R172, R180, R181) and the frames
of the field loop (R183), which are bytes and not table words, are decoded in Machine/Wire.lean, Machine/Operands.lean
and Machine/Receiver.lean. -/

namespace Sys2Proof

/-- No row of the table has bits, so no word spells a command. -/
def decodeTableWord (_nbits _w : Nat) : Option Instr := none

end Sys2Proof
end

