-- ==== Sys2Proof/Config.lean ====
section
/-! DEFINITION. Config.lean: what the reference leaves open and a run cannot know. -/

namespace Sys2Proof

/-- The milliseconds still to run to a linked set's expiry (R105, R180), as far as the seconds of the crystal do not
fix them. FREE VALUE: it has no body, so nothing can be proved of it. The argument is the number of values drawn so far
(`State.draws`). See notes/assumptions/4.md. -/
opaque Config.linkMillis : Nat → Nat

/-- What READ_OBJECT sends for a contribution to the zone's ceilings that its two bytes cannot carry (R13 item 5, R180): a face
ceiling up to 5000 at a small weighting is more than 65535 at the sensor. FREE VALUE: it has no body, so nothing can be proved of it.
The argument is the contribution. See notes/assumptions/34.md. -/
opaque Config.wideCeiling : Nat → Nat

end Sys2Proof
end

