-- ==== Sys2Proof/Machine/State.lean ====
section
/-! DEFINITION. State.lean: every piece of state the reference gives the RG8, block by block, as plain data, the two
reason types of a step, and the part right after a reset.

Temperatures and relative humidities (and what is computed from them) are `Int`, in 0.01 °C and 0.01 %RH; light, dose,
times and counts are `Nat`. Sets that the wire carries as bits (conditions, attention bits, zone sets, rights) are bit
vectors, numbered as R180 numbers them. -/

namespace Sys2Proof.Machine

open Sys2Proof

/-! ## Names -/

/-- A loop address, less one: addresses run 1..32 (R145). -/
abbrev NodeId := Fin 32

/-- A gallery time: day 0..65535 and second of day 0..86399 (Conventions, Time). -/
structure GTime where
  day : Nat
  sec : Nat
  deriving DecidableEq, Repr

/-- The rights of the authority table (R174). -/
inductive Right where
  | observe | climate | light | envelope
  deriving DecidableEq, Repr

/-- The sixteen conditions, in the order of the table of section 5.5. -/
inductive Condition where
  | clampHeat | clampMoist | clampLight | clampShade | refusedRh | swingSpent | recovery | tableLimit
  | rhSaturated | daylightOver | daylightHeld | blindStep | overrideCap | ceilingFollow | conflict | actLimited
  deriving DecidableEq, Repr

/-- The nine attention bits, in the order of the table of R176. -/
inductive AttnBit where
  | watermark | watchMatch | tenureGained | tenureLost | zoneCondition | excursion | node | storeFault | clockLost
  deriving DecidableEq, Repr

/-- A set of conditions: bit n is the n-th condition of section 5.5 (R180). -/
abbrev CondSet := BitVec 16
/-- A set of attention bits: bit n is the n-th row of R176 (R180). -/
abbrev AttnSet := BitVec 9
/-- A set of zones: bit n is Zn (R180). -/
abbrev ZoneSet := BitVec 8
/-- A set of rights: OBSERVE bit 0, CLIMATE 1, LIGHT 2, ENVELOPE 3 (R180). -/
abbrev RightSet := BitVec 4

/-- The status of a response (R172). -/
inductive Status where
  | done | clamped | waiting | badCmd | badArg | noRight | standby | noChannel | notTenured | conflict | rhPredict
  | linkBroken | linkRefused | portFull | notSubscribed | role
  deriving DecidableEq, Repr

/-! ## ET, the envelope table -/

/-- The zone record (R1). -/
structure ZoneRec where
  use         : Bool
  climateNode : Option NodeId
  lightNode   : Option NodeId
  lightAct    : Option NodeId
  shadeAct    : Option NodeId
  heatAct     : Option NodeId
  moistAct    : Option NodeId
  eFull       : Nat
  tc          : Nat
  g           : Nat
  filterCode  : Nat
  staleLimit  : Nat
  lightGrace  : Nat
  climateDec  : Nat
  lightDec    : Nat
  raw         : Bool
  deriving DecidableEq, Repr

/-- The defaults of R1. -/
def ZoneRec.default : ZoneRec :=
  { use := false, climateNode := none, lightNode := none, lightAct := none, shadeAct := none, heatAct := none,
    moistAct := none, eFull := 300, tc := 100, g := 1000, filterCode := 3, staleLimit := 4, lightGrace := 60,
    climateDec := 0, lightDec := 0, raw := false }

/-- The zone envelope (R2). -/
structure Envelope where
  tLo     : Int
  tHi     : Int
  rhLo    : Int
  rhHi    : Int
  tSwing  : Int
  rhSwing : Int
  lux     : Nat
  uv      : Nat
  deriving DecidableEq, Repr

/-- The defaults of R2. -/
def Envelope.default : Envelope :=
  { tLo := 1800, tHi := 2400, rhLo := 4500, rhHi := 5500, tSwing := 150, rhSwing := 500, lux := 200, uv := 75 }

/-- The effective envelope of a zone (R14). `lux` is the envelope ceiling of R15. -/
structure EffEnvelope where
  tLo     : Int
  tHi     : Int
  rhLo    : Int
  rhHi    : Int
  tSwing  : Int
  rhSwing : Int
  lux     : Nat
  uv      : Nat
  deriving DecidableEq, Repr

/-- The configuration of an object: the seven fixed fields (R3), the three optional fields and the label (R4). -/
structure ObjConf where
  use        : Bool
  zone       : ZoneId
  w          : Nat
  allowance  : Nat
  slack      : Nat
  restricted : Nat
  exhausted  : Nat
  rhBand     : Option (Int × Int)
  rhSwing    : Option Int
  luxCeil    : Option Nat
  label      : List Byte
  deriving DecidableEq, Repr

/-- The defaults of R3 and R4. -/
def ObjConf.default : ObjConf :=
  { use := false, zone := 0, w := 1000, allowance := 150000, slack := 10, restricted := 50, exhausted := 0,
    rhBand := none, rhSwing := none, luxCeil := none, label := [] }

/-! ## ZE, the zone estimator -/

/-- A slot of the swing ring that holds extremes (R24). -/
structure Slot where
  tMin  : Int
  tMax  : Int
  rhMin : Int
  rhMax : Int
  deriving DecidableEq, Repr

/-- The status of the daylight estimate (R20, R32). -/
inductive D0Status where
  | known | held | unknown
  deriving DecidableEq, Repr

/-- What ZE holds for a zone (R20). The ring lists its slots oldest first; `none` is an empty slot. -/
structure Estimate where
  filt         : Option (Int × Int)
  seeded       : Bool
  raw          : Option (Int × Int)
  ring         : List (Option Slot)
  eMeas        : Option Nat
  saturated    : Bool
  uv           : Option Nat
  d            : Option Nat
  d0           : Option Nat
  d0Status     : D0Status
  climateCount : Nat
  lightCount   : Nat
  mark         : Bool
  rateClimate  : Bool
  rateLight    : Bool
  deriving DecidableEq, Repr

/-- The after-reset column of R20. -/
def Estimate.default : Estimate :=
  { filt := none, seeded := false, raw := none, ring := [], eMeas := none, saturated := false, uv := none, d := none,
    d0 := none, d0Status := .unknown, climateCount := 0, lightCount := 0, mark := false, rateClimate := false,
    rateLight := false }

/-! ## DI, the dose integrator -/

/-- The pace states (R62, R69). -/
inductive Pace where
  | onPace | ahead | exhausted
  deriving DecidableEq, Repr

/-- The dose account of an object without its pace state (R62): what the DOSE section keeps of it. -/
structure Account where
  consumed : Nat
  frac     : Nat
  previous : Nat
  deriving DecidableEq, Repr

/-- An object: its configuration (ET) and its dose account and pace state (DI). -/
structure Object where
  cfg  : ObjConf
  acct : Account
  pace : Pace
  deriving DecidableEq, Repr

/-! ## EM, the excursion monitor -/

/-- The six excursion kinds (R126). -/
inductive ExcKind where
  | tBand | rhBand | tSwing | rhSwing | lux | uv
  deriving DecidableEq, Repr

/-- The side of an excursion (R133). -/
inductive Side where
  | low | high
  deriving DecidableEq, Repr

/-- An open excursion (R133). -/
structure Excursion where
  start    : GTime
  side     : Side
  peak     : Nat
  peakTime : GTime
  deriving DecidableEq, Repr

/-- The reasons of a close (R135). -/
inductive CloseReason where
  | returned | conflict | zoneOff
  deriving DecidableEq, Repr

/-- A running LUX pending time (R126, R129). -/
structure LuxPending where
  start    : GTime
  peak     : Nat
  peakTime : GTime
  deriving DecidableEq, Repr

/-- The one over-sample that a UV count of 1 stands for (R131). -/
structure UvSample where
  time   : GTime
  amount : Nat
  deriving DecidableEq, Repr

/-- The detection records of a zone (R126). `uvCount` is 0 when `uvFirst` is absent and 1 when it is present. -/
structure Detection where
  exc        : Vector (Option Excursion) 6
  luxPending : Option LuxPending
  uvFirst    : Option UvSample
  deriving DecidableEq, Repr

/-- The after-reset column of R126. -/
def Detection.default : Detection := { exc := Vector.replicate 6 none, luxPending := none, uvFirst := none }

/-- The override record of a zone (R126, R137). -/
structure Override where
  light    : Option Nat
  shadeLux : Option Nat
  shadeUv  : Option Nat
  deriving DecidableEq, Repr

/-- No override part held. -/
def Override.empty : Override := { light := none, shadeLux := none, shadeUv := none }

/-! ## AU, TA and LC: the channels of a zone -/

/-- A channel: AU's granted value (R86), LC's pending, sent and applied values with the replaced marker (R150), and TA's
tenure record (R112). An unknown applied value is `none`. -/
structure Channel where
  granted      : Option Int
  pending      : Option Int
  sent         : Option Int
  replaced     : Bool
  applied      : Option Int
  holder       : Option PortId
  waiters      : List PortId
  lastActivity : GTime
  deriving DecidableEq, Repr

/-- A channel with no value and no holder, last active at `t`. -/
def Channel.fresh (t : GTime) : Channel :=
  { granted := none, pending := none, sent := none, replaced := false, applied := none, holder := none, waiters := [],
    lastActivity := t }

/-! ## Zones -/

/-- All that the blocks hold for one zone. -/
structure Zone where
  cfg      : ZoneRec
  env      : Envelope
  eff      : EffEnvelope
  conflict : Bool
  est      : Estimate
  horizon  : GTime
  ceiling  : Nat
  cause    : CondSet
  sticky   : CondSet
  det      : Detection
  ovr      : Override
  chans    : Vector Channel 4
  deriving DecidableEq, Repr

/-! ## LC, the loop controller -/

/-- The node kinds (R145). -/
inductive NodeKind where
  | none | climateSensor | lightSensor | lightAct | shadeAct | heatAct | moistAct
  deriving DecidableEq, Repr

/-- The node states of sensors (R148) and of actuators (R152). -/
inductive NodeState where
  | absent | fresh | late | stale | ready | silent
  deriving DecidableEq, Repr

/-- A node table entry (R145) with what LC holds about the node: state, miss count (R148), attempt count (R152), next due
time of a sensor or status due time of an actuator (R148, R153), whether that READ or STATUS is in the waiting set of
R154, and the retry time of a SILENT actuator (R152). -/
structure Node where
  kind     : NodeKind
  code     : Nat
  state    : NodeState
  misses   : Nat
  attempts : Nat
  due      : Option GTime
  waiting  : Bool
  retry    : Option GTime
  deriving DecidableEq, Repr

/-- A node table entry of kind NONE, as it is when CONFIG was rejected (R145). -/
def Node.empty : Node :=
  { kind := .none, code := 0, state := .absent, misses := 0, attempts := 0, due := none, waiting := false, retry := none }

/-- The operations of the field loop (R143). -/
inductive LoopOp where
  | read | status | command
  deriving DecidableEq, Repr

/-- The transaction under way (R143). An abandoned one only holds the loop until its window closes (R147, R156). -/
structure Transaction where
  node      : NodeId
  op        : LoopOp
  value     : Int
  abandoned : Bool
  deriving DecidableEq, Repr

/-! ## OQ, the observation queue -/

/-- The reasons of a tenure change (R123). -/
inductive TenureReason where
  | take | release | preempt | lapse | right
  deriving DecidableEq, Repr

/-- The records of R160, each with the contents R160 and R182 give it. The EXT flag of a CLIMATE_SAMPLE is the presence of
`raw`; `mark` and `rate` are the header flags MARK and RATE_CHANGED. -/
inductive Record where
  | climateSample (zone : ZoneId) (time : GTime) (t rh : Int) (raw : Option (Int × Int)) (mark rate : Bool)
  | lightSample (zone : ZoneId) (time : GTime) (e uv : Nat) (saturated mark rate : Bool)
  | grant (time : GTime) (port : Option PortId) (zone : ZoneId) (ch : ChanKind) (requested : Option Int) (granted : Int)
      (clamped : Bool)
  | refusal (time : GTime) (port : PortId) (chan : Option (ZoneId × ChanKind)) (requested : Option Int) (code : Status)
  | excursionOpen (zone : ZoneId) (kind : ExcKind) (side : Side) (start : GTime)
  | excursionClose (time : GTime) (zone : ZoneId) (kind : ExcKind) (exc : Excursion) (reason : CloseReason)
  | tenure (time : GTime) (zone : ZoneId) (ch : ChanKind) (before after : Option PortId) (reason : TenureReason)
  | pace (time : GTime) (obj : ObjId) (zone : ZoneId) (before after : Pace) (consumed : Nat)
  | rollover (time : GTime) (obj : ObjId) (zone : ZoneId) (consumed : Nat)
  | clock (before after : GTime)
  | start (time : GTime) (configLoaded doseLoaded clockLost byPin : Bool)
  | store (time : GTime) (config dose : Bool) (written : Bool)
  | node (time : GTime) (node : NodeId) (before after : NodeState)
  deriving DecidableEq, Repr

/-- The fields a field test can name (R167). -/
inductive TestField where
  | t | rh | e | uv | peak
  deriving DecidableEq, Repr

/-- A field test: a field, ≤ or ≥, and a signed value (R167). -/
structure FieldTest where
  field  : TestField
  atMost : Bool
  value  : Int
  deriving DecidableEq, Repr

/-- A selection (R167). Bit k − 1 of `kinds` is record kind k of R182; an empty set selects all. -/
structure Selection where
  kinds : BitVec 16
  zones : ZoneSet
  test  : Option FieldTest
  deriving DecidableEq, Repr

/-- What OQ holds for a subscribed port (R159). `cursor` counts the held records the port has passed, so that the
cursor is at end when it equals the number of records held. -/
structure Subscription where
  cursor    : Nat
  watermark : Nat
  lost      : Nat
  watch     : Option Selection
  deriving DecidableEq, Repr

/-! ## PI, the port interface -/

/-- A received request frame (R180). -/
structure Frame where
  tag     : Byte
  cmd     : Byte
  payload : List Byte
  deriving DecidableEq, Repr

/-- A response that the port has not sent whole (R171, R180). -/
structure Response where
  tag     : Byte
  status  : Status
  payload : List Byte
  deriving DecidableEq, Repr

/-- The receiver of a port (R170): idle, or in a frame with the bytes taken since the start byte. -/
inductive Receiver where
  | idle
  | inFrame (bytes : List Byte)
  deriving DecidableEq, Repr

/-- A held SET_POINT of a linked set, as it was sent (R100). -/
structure Member where
  tag   : Byte
  ch    : ChanKind
  value : Int
  deriving DecidableEq, Repr

/-- An open link record (R100). `expiry` is the second of running time (`State.crystal`) in which the set times out. -/
structure LinkRecord where
  remaining : Nat
  zone      : Option ZoneId
  members   : List Member
  expiry    : Nat
  deriving DecidableEq, Repr

/-- A port's refusal record (R175). -/
structure RefusalRecord where
  cmd  : Byte
  zone : Option ZoneId
  ch   : Option ChanKind
  code : Status
  time : GTime
  deriving DecidableEq, Repr

/-- The line mode of a port (R176). -/
inductive LineMode where
  | level | pulse
  deriving DecidableEq, Repr

/-- A master port: its straps and role (R173), its column of the authority table (R174), receiver (R170), request queue and
unsent responses (R171; the first is the one on the line), link record (R100), refusal record and counters (R175),
attention sets, line mode and the pulse being driven (R176), and its subscription to the observation queue (R159). -/
structure Port where
  strap     : Role
  role      : Role
  rights    : Vector RightSet 8
  rx        : Receiver
  queue     : List Frame
  tx        : List Response
  link      : Option LinkRecord
  refusal   : Option RefusalRecord
  taken     : Nat
  discards  : Nat
  portFull  : Nat
  refusals  : Nat
  attn      : AttnSet
  enable    : AttnSet
  zoneSet   : ZoneSet
  condSet   : CondSet
  mode      : LineMode
  pulse     : Bool
  sub       : Option Subscription
  deriving DecidableEq, Repr

/-! ## RS, the retention store -/

/-- The CONFIG section (R186). -/
structure ConfigImage where
  zones   : Vector ZoneRec 8
  envs    : Vector Envelope 8
  objects : Vector ObjConf 32
  nodes   : Vector (NodeKind × Nat) 32
  rights  : Vector (Vector RightSet 8) 3
  periodN : Nat
  holds   : Vector Nat 4
  deriving DecidableEq, Repr

/-- The DOSE section (R77, R186). -/
structure DoseImage where
  accounts    : Vector Account 32
  periodStart : Nat
  checkpoint  : GTime
  ceilings    : Vector Nat 8
  deriving DecidableEq, Repr

/-- The section the writer is writing, with the content taken when it began (R186). A full save in its CONFIG part goes on
to DOSE; in its DOSE part it remembers whether CONFIG verified (R187). -/
inductive Writing where
  | saveConfig (image : ConfigImage)
  | saveDose (image : DoseImage) (configVerified : Bool)
  | checkpoint (image : DoseImage)
  deriving DecidableEq, Repr

/-- The retention store and its writer (R186, R187). A section is `none` while its stored checksum does not match its
content; it is so from the moment the writer begins it until it has verified. -/
structure Store where
  config         : Option ConfigImage
  dose           : Option DoseImage
  writing        : Option Writing
  pendingSave    : Bool
  pendingCheck   : Bool
  lastConfig     : Option Bool
  lastDose       : Option Bool
  deriving DecidableEq, Repr

/-! ## The whole part -/

/-- The state of the part, and the queue of commands that wait (the model's own). -/
structure State where
  /-- STANDBY is `false`, SUPERVISED is `true` (R190). -/
  supervised  : Bool
  /-- The gallery clock (R184). -/
  clock       : GTime
  /-- The clock-lost flag (R184). -/
  clockLost   : Bool
  /-- Seconds of running time of the clock's crystal, which SET_CLOCK does not move (R105). -/
  crystal     : Nat
  /-- Minute marks the clock has reached and DI has not taken yet, oldest first (R78, R184). -/
  minuteMarks : List GTime
  /-- Five-minute marks the clock has reached and ZE has not taken yet, oldest first (R26, R184). -/
  fiveMarks   : List GTime
  /-- The rate strap as read at the last reset (R170). -/
  rate        : RateStrap
  ports       : Vector Port 3
  zones       : Vector Zone 8
  objects     : Vector Object 32
  /-- The accounting period's length N and start day (R62, R73). -/
  periodN     : Nat
  periodStart : Nat
  /-- The hold times of LIGHT, SHADE, HEAT and MOIST (R119). -/
  holds       : Vector Nat 4
  nodes       : Vector Node 32
  /-- The transaction under way on the field loop (R143). -/
  txn         : Option Transaction
  /-- The command list, oldest first (R150). -/
  commands    : List (ZoneId × ChanKind)
  /-- The records held, oldest first (R159). -/
  records     : List Record
  /-- The sample-drop count (R159). -/
  sampleDrops : Nat
  store       : Store
  /-- Commands that wait, first in, first out. The MODEL's own. -/
  pending     : List Instr
  /-- How many free values have been drawn. The MODEL's own. -/
  draws       : Nat
  deriving DecidableEq, Repr

/-- Why the part stops with a fault. It never does: every request is answered and every event that cannot arise in a state
changes nothing, so no reason exists. -/
inductive Fault where
  deriving DecidableEq, Repr

/-- Why a step is refused. -/
inductive Refusal where
  /-- Raised by an arm of `exec` whose command has no meaning yet. Safe: the model stops where the part goes on. No arm of this
  model answers it. -/
  | notModelled (mnemonic : String)
  deriving DecidableEq, Repr

/-! ## The part right after reset -/

/-- The effective envelope of a zone in which no ON object hangs (R14). -/
def Envelope.alone (e : Envelope) : EffEnvelope :=
  { tLo := e.tLo, tHi := e.tHi, rhLo := e.rhLo, rhHi := e.rhHi, tSwing := e.tSwing, rhSwing := e.rhSwing, lux := e.lux,
    uv := e.uv }

/-- A zone as start-up leaves it at gallery time `t` with CONFIG rejected and no default holder (R19, R20, R86, R90, R126,
R150). -/
def Zone.fresh (t : GTime) : Zone :=
  { cfg := .default, env := .default, eff := Envelope.default.alone, conflict := false, est := .default, horizon := t,
    ceiling := 200, cause := 0, sticky := 0, det := .default, ovr := .empty, chans := Vector.replicate 4 (.fresh t) }

/-- An object as start-up leaves it with CONFIG and DOSE rejected: consumed at its allowance, so EXHAUSTED (R68). -/
def Object.fresh : Object :=
  { cfg := .default, acct := { consumed := 150000, frac := 0, previous := 0 }, pace := .exhausted }

/-- A port as a reset leaves it (R159, R170, R171, R175, R176), with its roles and rights. -/
def Port.fresh (strap role : Role) (rights : Vector RightSet 8) : Port :=
  { strap, role, rights, rx := .idle, queue := [], tx := [], link := none, refusal := none, taken := 0, discards := 0,
    portFull := 0, refusals := 0, attn := 0, enable := 0, zoneSet := 0, condSet := 0, mode := .level, pulse := false,
    sub := none }

/-- The store and its writer after a reset, with the sections the store holds (R186). -/
def Store.fresh (config : Option ConfigImage) (dose : Option DoseImage) : Store :=
  { config, dose, writing := none, pendingSave := false, pendingCheck := false, lastConfig := none, lastDose := none }

/-- The hold times' defaults: LIGHT 600, SHADE 600, HEAT 0, MOIST 0 (R119). -/
def defaultHolds : Vector Nat 4 := #v[600, 600, 0, 0]

/-- The gallery time at which the clock restarts when neither the backup domain nor DOSE is good (R189 step 4). -/
def GTime.zero : GTime := { day := 0, sec := 0 }

/-- The part right after its first power-on: start-up (R189) with the backup domain lost and both sections of the store
invalid. The reference does not say what straps a part has or what its store holds when it is new; the choices here are
notes/assumptions/1.md (strap pins at 0, store sections invalid, backup domain lost). Every other value is the one the
reference states for reset: the model's own queue of commands is empty and no free value has been drawn. -/
def State.reset : State :=
  { supervised  := false
    clock       := .zero
    clockLost   := true
    crystal     := 0
    minuteMarks := []
    fiveMarks   := []
    rate        := .r19200
    ports       :=
      #v[{ Port.fresh .none .conservation (Vector.replicate 8 0xF#4) with
             attn := 0x100#9
             sub  := some { cursor := 0, watermark := 2048, lost := 0, watch := none } },
         { Port.fresh .none .none (Vector.replicate 8 0x1#4) with attn := 0x100#9 },
         { Port.fresh .none .none (Vector.replicate 8 0x1#4) with attn := 0x100#9 }]
    zones       := Vector.replicate 8 (.fresh .zero)
    objects     := Vector.replicate 32 .fresh
    periodN     := 365
    periodStart := 0
    holds       := defaultHolds
    nodes       := Vector.replicate 32 .empty
    txn         := none
    commands    := []
    records     := [.start .zero false false true false]
    sampleDrops := 0
    store       := .fresh none none
    pending     := []
    draws       := 0 }

end Sys2Proof.Machine
end

