-- ==== Sys2Proof/Machine/Wire.lean ====
section
/-! DEFINITION. Wire.lean: the layouts of R180 to R183, byte by byte: numbers, items, records, frames and their
checks. -/

namespace Sys2Proof.Machine

open Sys2Proof

/-! ## Numbering of names -/

/-- The number of a channel: LIGHT 0, SHADE 1, HEAT 2, MOIST 3 (R180). -/
def chanIdx : ChanKind → Fin 4
  | .light => 0
  | .shade => 1
  | .heat => 2
  | .moist => 3

/-- The channel a byte names (R180). -/
def chanOf? (b : Byte) : Option ChanKind :=
  match b.toNat with
  | 0 => some .light
  | 1 => some .shade
  | 2 => some .heat
  | 3 => some .moist
  | _ => none

/-- The zone a byte names (R180). -/
def zoneOf? (b : Byte) : Option ZoneId :=
  if h : b.toNat < 8 then some ⟨b.toNat, h⟩ else none

/-- The object a byte names (R180). -/
def objOf? (b : Byte) : Option ObjId :=
  if h : b.toNat < 32 then some ⟨b.toNat, h⟩ else none

/-- The port a byte names (R180). -/
def portOf? (b : Byte) : Option PortId :=
  if h : b.toNat < 3 then some ⟨b.toNat, h⟩ else none

/-- The node at a loop address 1..32 (R145). -/
def nodeOf? (addr : Nat) : Option NodeId :=
  if h : 1 ≤ addr ∧ addr ≤ 32 then some ⟨addr - 1, by omega⟩ else none

/-- The loop address of a node (R145). -/
def nodeAddr (n : NodeId) : Nat := n.val + 1

/-- The number of a status (R172). -/
def statusCode : Status → Nat
  | .done => 0
  | .clamped => 1
  | .waiting => 2
  | .badCmd => 16
  | .badArg => 17
  | .noRight => 18
  | .standby => 19
  | .noChannel => 20
  | .notTenured => 21
  | .conflict => 22
  | .rhPredict => 23
  | .linkBroken => 24
  | .linkRefused => 25
  | .portFull => 26
  | .notSubscribed => 27
  | .role => 28

/-- A code of 16 or above is a refusal (R172). -/
def isRefusal (st : Status) : Bool := 16 ≤ statusCode st

/-- The number of a role (R180). -/
def roleCode : Role → Nat
  | .none => 0
  | .climate => 1
  | .lighting => 2
  | .conservation => 3

/-- The number of a rate strap (R180). -/
def rateCode : RateStrap → Nat
  | .r19200 => 0
  | .r57600 => 1
  | .r115200 => 2
  | .r230400 => 3

/-- The number of a node kind (R180). -/
def kindCode : NodeKind → Nat
  | .none => 0
  | .climateSensor => 1
  | .lightSensor => 2
  | .lightAct => 3
  | .shadeAct => 4
  | .heatAct => 5
  | .moistAct => 6

/-- The node kind a byte names (R180). -/
def kindOf? (b : Byte) : Option NodeKind :=
  match b.toNat with
  | 0 => some .none
  | 1 => some .climateSensor
  | 2 => some .lightSensor
  | 3 => some .lightAct
  | 4 => some .shadeAct
  | 5 => some .heatAct
  | 6 => some .moistAct
  | _ => none

/-- The number of a node state (R180). -/
def nodeStateCode : NodeState → Nat
  | .absent => 0
  | .fresh => 1
  | .late => 2
  | .stale => 3
  | .ready => 4
  | .silent => 5

/-- The number of an excursion kind (R180). -/
def excIdx : ExcKind → Fin 6
  | .tBand => 0
  | .rhBand => 1
  | .tSwing => 2
  | .rhSwing => 3
  | .lux => 4
  | .uv => 5

/-- The number of a close reason (R180). -/
def closeCode : CloseReason → Nat
  | .returned => 0
  | .conflict => 1
  | .zoneOff => 2

/-- The number of a pace state (R180). -/
def paceCode : Pace → Nat
  | .onPace => 0
  | .ahead => 1
  | .exhausted => 2

/-- The number of a tenure reason (R180). -/
def reasonCode : TenureReason → Nat
  | .take => 0
  | .release => 1
  | .preempt => 2
  | .lapse => 3
  | .right => 4

/-- The number of a daylight status (R180). -/
def d0Code : D0Status → Nat
  | .known => 0
  | .held => 1
  | .unknown => 2

/-- The number of a line mode (R180). -/
def modeCode : LineMode → Nat
  | .level => 0
  | .pulse => 1

/-! ## Numbers -/

/-- One byte. -/
def u1 (n : Nat) : Byte := BitVec.ofNat 8 n

/-- Two bytes, high byte first (R180). -/
def u2 (n : Nat) : List Byte := [u1 (n / 0x100), u1 n]

/-- Three bytes, high byte first. -/
def u3 (n : Nat) : List Byte := [u1 (n / 0x10000), u1 (n / 0x100), u1 n]

/-- Four bytes, high byte first. -/
def u4 (n : Nat) : List Byte := [u1 (n / 0x1000000), u1 (n / 0x10000), u1 (n / 0x100), u1 n]

/-- Two bytes signed, high byte first. -/
def s2 (v : Int) : List Byte := u2 (v % 0x10000).toNat

/-- Two bytes signed, absent as 0x8000 (R180). -/
def s2opt : Option Int → List Byte
  | some v => s2 v
  | none => u2 0x8000

/-- Two bytes unsigned, absent as 0xFFFF (R180). -/
def u2opt : Option Nat → List Byte
  | some n => u2 n
  | none => u2 0xFFFF

/-- Two bytes unsigned of a quantity held as an `Int` that is never negative, absent as 0xFFFF (R180). -/
def rh2opt : Option Int → List Byte
  | some v => s2 v
  | none => u2 0xFFFF

/-- A yes/no item (R180). -/
def flag1 (b : Bool) : List Byte := [if b then 1 else 0]

/-- An item whose encoding has no absent value: a presence byte, then the item (R180). -/
def presence {α : Type} (enc : α → List Byte) : Option α → List Byte
  | some a => 1 :: enc a
  | none => [0]

/-- The number two bytes carry, unsigned. -/
def u16 (hi lo : Byte) : Nat := hi.toNat * 0x100 + lo.toNat

/-- The number two bytes carry, signed. -/
def s16 (hi lo : Byte) : Int := if u16 hi lo < 0x8000 then (u16 hi lo : Int) else (u16 hi lo : Int) - 0x10000

/-- The number three bytes carry, unsigned. -/
def u24 (a b c : Byte) : Nat := u16 a b * 0x100 + c.toNat

/-- The number four bytes carry, unsigned. -/
def u32 (a b c d : Byte) : Nat := u24 a b c * 0x100 + d.toNat

/-- The number four bytes carry, signed. -/
def s32 (a b c d : Byte) : Int :=
  if u32 a b c d < 0x80000000 then (u32 a b c d : Int) else (u32 a b c d : Int) - 0x100000000

/-! ## Items -/

/-- A gallery time: day 2 bytes, second 3 (R180). -/
def timeBytes (t : GTime) : List Byte := u2 t.day ++ u3 t.sec

/-- A gallery time that may be none: day 0xFFFF, second 0xFFFFFF (R180). -/
def timeOptBytes : Option GTime → List Byte
  | some t => timeBytes t
  | none => u2 0xFFFF ++ u3 0xFFFFFF

/-- A zone, object or port number, none as 0xFF (R180). -/
def finOpt {n : Nat} : Option (Fin n) → Byte
  | some i => u1 i.val
  | none => 0xFF

/-- A channel, none as 0xFF (R180). -/
def chanOpt : Option ChanKind → Byte
  | some c => u1 (chanIdx c).val
  | none => 0xFF

/-- A node address, none as 0 (R180). -/
def nodeOpt : Option NodeId → Byte
  | some n => u1 (nodeAddr n)
  | none => 0

/-- A wait list: 2 bytes in chain order, unfilled places 0xFF (R180). -/
def waitBytes (l : List PortId) : List Byte := [finOpt l[0]?, finOpt l[1]?]

/-- An excursion kind with its side in bit 7, HIGH = 1 (R180). -/
def kindSide (k : ExcKind) (side : Side) : Byte :=
  u1 ((excIdx k).val + if side = .high then 0x80 else 0)

/-- An object and its zone packed in one byte (R182). -/
def objZone (o : ObjId) (z : ZoneId) : Byte := u1 (o.val + 0x20 * z.val)

/-! ## Records -/

/-- The kind number of a record (R182). -/
def recordKind : Record → Nat
  | .climateSample .. => 1
  | .lightSample .. => 2
  | .grant .. => 3
  | .refusal .. => 4
  | .excursionOpen .. => 5
  | .excursionClose .. => 6
  | .tenure .. => 7
  | .pace .. => 8
  | .rollover .. => 9
  | .clock .. => 10
  | .start .. => 11
  | .store .. => 12
  | .node .. => 13

/-- The size of a record in bytes: the table of R160. -/
def recordSize : Record → Nat
  | .climateSample _ _ _ _ none _ _ => 11
  | .climateSample _ _ _ _ (some _) _ _ => 15
  | .lightSample .. => 11
  | .grant .. => 14
  | .refusal .. => 12
  | .excursionOpen .. => 8
  | .excursionClose .. => 21
  | .tenure .. => 11
  | .pace .. => 12
  | .rollover .. => 11
  | .clock .. => 11
  | .start .. => 7
  | .store .. => 8
  | .node .. => 9

/-- The header byte: kind in bits 0 to 3, EXT bit 4, MARK bit 5, RATE_CHANGED bit 6 (R182). -/
def headerByte (kind : Nat) (ext mark rate : Bool) : Byte :=
  u1 (kind + (if ext then 0x10 else 0) + (if mark then 0x20 else 0) + (if rate then 0x40 else 0))

/-- The header of a record. Only sample records carry flags (R160). -/
def recordHeader : Record → Byte
  | .climateSample _ _ _ _ raw mark rate => headerByte 1 raw.isSome mark rate
  | .lightSample _ _ _ _ _ mark rate => headerByte 2 false mark rate
  | r => headerByte (recordKind r) false false false

/-- The contents of a record after its header (R182). -/
def recordContents : Record → List Byte
  | .climateSample z t T rh raw _ _ =>
    u1 z.val :: timeBytes t ++ s2 T ++ s2 rh ++ (match raw with | some (rt, rr) => s2 rt ++ s2 rr | none => [])
  | .lightSample z t e uv sat _ _ => u1 (z.val + if sat then 0x80 else 0) :: timeBytes t ++ u2 e ++ u2 uv
  | .grant t p z ch req g clamped =>
    timeBytes t ++ [finOpt p, u1 z.val, u1 (chanIdx ch).val] ++ s2opt req ++ s2 g ++ flag1 clamped
  | .refusal t p chan req code =>
    timeBytes t ++ [u1 p.val, finOpt (chan.map Prod.fst), chanOpt (chan.map Prod.snd)] ++ s2opt req ++ [u1 (statusCode code)]
  | .excursionOpen z k side start => [u1 z.val, kindSide k side] ++ timeBytes start
  | .excursionClose t z k e reason =>
    timeBytes t ++ [u1 z.val, kindSide k e.side] ++ timeBytes e.start ++ u2 e.peak ++ timeBytes e.peakTime
      ++ [u1 (closeCode reason)]
  | .tenure t z ch before after reason =>
    timeBytes t ++ [u1 z.val, u1 (chanIdx ch).val, finOpt before, finOpt after, u1 (reasonCode reason)]
  | .pace t o z before after consumed =>
    timeBytes t ++ [objZone o z, u1 (0x10 * paceCode before + paceCode after)] ++ u4 consumed
  | .rollover t o z consumed => timeBytes t ++ [objZone o z] ++ u4 consumed
  | .clock before after => timeBytes before ++ timeBytes after
  | .start t cfg dose lost pin =>
    timeBytes t
      ++ [u1 ((if cfg then 1 else 0) + (if dose then 2 else 0) + (if lost then 4 else 0) + (if pin then 8 else 0))]
  | .store t cfg dose written =>
    timeBytes t ++ [u1 ((if cfg then 1 else 0) + (if dose then 2 else 0)), u1 (if written then 0 else 1)]
  | .node t n before after => timeBytes t ++ [u1 (nodeAddr n), u1 (nodeStateCode before), u1 (nodeStateCode after)]

/-- A record whole, as DRAIN returns it (R166, R182). -/
def recordBytes (r : Record) : List Byte := recordHeader r :: recordContents r

/-- The number of a test field in a selection (R181). -/
def fieldCode : TestField → Nat
  | .t => 1
  | .rh => 2
  | .e => 3
  | .uv => 4
  | .peak => 5

/-- A selection as a request carries it and READ_PORT returns it (R181). With no field test the value is sent as 0. -/
def selectionBytes (sel : Selection) : List Byte :=
  u2 sel.kinds.toNat ++ [u1 sel.zones.toNat] ++
    match sel.test with
    | none => [0] ++ u4 0
    | some t => [u1 (fieldCode t.field + if t.atMost then 0x80 else 0)] ++ u4 (t.value % 0x100000000).toNat

/-! ## Checks -/

/-- One bit of a CRC register `w` bits wide with polynomial `poly`, most significant bit first. -/
def crcBit (w poly c : Nat) : Nat :=
  if c.testBit (w - 1) then (c * 2 % 2 ^ w) ^^^ poly else c * 2 % 2 ^ w

/-- Eight bits of a CRC register. -/
def crcEight (w poly c : Nat) : Nat :=
  crcBit w poly (crcBit w poly (crcBit w poly (crcBit w poly
    (crcBit w poly (crcBit w poly (crcBit w poly (crcBit w poly c)))))))

/-- The CRC-16 of R180: polynomial 0x1021, initial value 0xFFFF, unreflected, no final inversion. -/
def crc16 (bytes : List Byte) : Nat :=
  bytes.foldl (fun c b => crcEight 16 0x1021 (c ^^^ (b.toNat * 0x100))) 0xFFFF

/-- The CRC-8 of R183: polynomial 0x07, initial value 0x00, unreflected. -/
def crc8 (bytes : List Byte) : Nat :=
  bytes.foldl (fun c b => crcEight 8 0x07 (c ^^^ b.toNat)) 0

/-! ## Frames -/

/-- The start byte (R170). -/
def startByte : Byte := 0xC3

/-- A frame on a port: start byte, LEN, the bytes from TAG to the end of the payload, CRC-16 over all of them but the start
byte (R180). -/
def portFrame (body : List Byte) : List Byte :=
  startByte :: u1 body.length :: body ++ u2 (crc16 (u1 body.length :: body))

/-- A request frame as a master sends it (R180). -/
def requestWire (f : Frame) : List Byte := portFrame (f.tag :: f.cmd :: f.payload)

/-- A response frame as the part sends it (R180). -/
def responseWire (r : Response) : List Byte := portFrame (r.tag :: u1 (statusCode r.status) :: r.payload)

/-- The number of a loop operation (R183). -/
def opCode : LoopOp → Nat
  | .read => 1
  | .status => 2
  | .command => 3

/-- The request frame of a transaction on the loop (R183). -/
def loopRequestWire (t : Transaction) : List Byte :=
  let body := [u1 (nodeAddr t.node), u1 (opCode t.op)] ++ s2 t.value
  body ++ [u1 (crc8 body)]

/-- The data of an answered reply (R143). -/
inductive ReplyData where
  | climate (t rh : Int)
  | light (e uv : Nat)
  | value (v : Int)
  deriving DecidableEq, Repr

/-- The range of a channel (Units; R83). -/
def chanRange : ChanKind → Int × Int
  | .light => (0, 1000)
  | .shade => (0, 100)
  | .heat => (-2000, 6000)
  | .moist => (-100, 100)

/-- Whether a value lies in a channel's range. -/
def inChanRange (ch : ChanKind) (v : Int) : Bool := (chanRange ch).1 ≤ v && v ≤ (chanRange ch).2

/-- The channel an actuator kind drives (R1, R145). -/
def chanOfKind : NodeKind → Option ChanKind
  | .lightAct => some .light
  | .shadeAct => some .shade
  | .heatAct => some .heat
  | .moistAct => some .moist
  | _ => none

/-- Whether a kind is one of the two sensor kinds (R145). -/
def isSensor : NodeKind → Bool
  | .climateSensor | .lightSensor => true
  | _ => false

/-- The data part of a reply with status OK, if it has the form the operation and the node's kind call for (R144, R183): the
whole reply without its CRC is given. -/
def replyBody (node : NodeId) (op : LoopOp) (kind : NodeKind) (bs : List Byte) : Option ReplyData :=
  match op, bs with
  | .read, [a, st, b0, b1, b2, b3] =>
    if a = u1 (nodeAddr node + 0x80) ∧ st = 0 then
      match kind with
      | .climateSensor =>
        if -4000 ≤ s16 b0 b1 ∧ s16 b0 b1 ≤ 8500 then some (.climate (s16 b0 b1) (u16 b2 b3)) else none
      | .lightSensor => some (.light (u16 b0 b1) (u16 b2 b3))
      | _ => none
    else none
  | .read, _ => none
  | _, [a, st, b0, b1] =>
    if a = u1 (nodeAddr node + 0x80) ∧ st = 0 then
      match chanOfKind kind with
      | some ch => if inChanRange ch (s16 b0 b1) then some (.value (s16 b0 b1)) else none
      | none => none
    else none
  | _, _ => none

/-- What a reply frame answers: its data when every condition of R144 holds, none when the reply fails. -/
def replyData (node : NodeId) (op : LoopOp) (kind : NodeKind) (bs : List Byte) : Option ReplyData :=
  match bs.getLast? with
  | some c => if c = u1 (crc8 bs.dropLast) then replyBody node op kind bs.dropLast else none
  | none => none

end Sys2Proof.Machine
end

