-- ==== Sys2Proof/Machine/Operands.lean ====
section
/-! DEFINITION. Operands.lean: the operands of the requests. Which row of the table a taken frame is (R172, R181), and what
its payload bytes name (R180, R181) with the ranges of R1 to R4, R73, R79, R119, R146, R161, R167, R174, R177 and R185. -/

namespace Sys2Proof.Machine

open Sys2Proof

/-- The request rows of the table: what a taken frame can be. -/
inductive ReqRow where
  | badCmd | setPoint | link | takeTenure | releaseTenure | clearConditions | writeZone | writeEnvelope | writeObject
  | readObject | readZone | readNode | readPort | readSystem | subscribeOn | subscribeOff | drain | scan | setWatchOn
  | setWatchOff | mark | setAttention | ackAttention | superviseOn | superviseOff | setClock | save | writeAuthority
  | writeNode | resetDose | setPeriod | setHold
  deriving DecidableEq, Repr

/-- The row of a frame, by its command code (R181). SUBSCRIBE, SET_WATCH and SUPERVISE have two rows each: the off row takes
the well-formed frames whose on byte is 0, the on row all others with that code. -/
def rowOf (f : Frame) : ReqRow :=
  match f.cmd.toNat with
  | 0x01 => .setPoint
  | 0x02 => .link
  | 0x03 => .takeTenure
  | 0x04 => .releaseTenure
  | 0x05 => .clearConditions
  | 0x10 => .writeZone
  | 0x11 => .writeEnvelope
  | 0x12 => .writeObject
  | 0x13 => .readObject
  | 0x14 => .readZone
  | 0x15 => .readNode
  | 0x16 => .readPort
  | 0x17 => .readSystem
  | 0x20 => if f.payload.length = 3 ∧ f.payload[0]? = some 0 then .subscribeOff else .subscribeOn
  | 0x21 => .drain
  | 0x22 => .scan
  | 0x23 => if f.payload.length = 9 ∧ f.payload[0]? = some 0 then .setWatchOff else .setWatchOn
  | 0x24 => .mark
  | 0x28 => .setAttention
  | 0x29 => .ackAttention
  | 0x30 => if f.payload = [0] then .superviseOff else .superviseOn
  | 0x31 => .setClock
  | 0x32 => .save
  | 0x33 => .writeAuthority
  | 0x34 => .writeNode
  | 0x35 => .resetDose
  | 0x36 => .setPeriod
  | 0x37 => .setHold
  | _ => .badCmd

/-- The right a channel needs: CLIMATE for HEAT and MOIST, LIGHT for LIGHT and SHADE (R80, R115). -/
def chanRight : ChanKind → Right
  | .light | .shade => .light
  | .heat | .moist => .climate

/-! ## Bytes -/

/-- A one-byte flag: any value but 0 and 1 is refused (R181). -/
def flagOf? (b : Byte) : Option Bool :=
  match b.toNat with
  | 0 => some false
  | 1 => some true
  | _ => none

/-- A node field: 1..32, or 0 for none (R1, R180). -/
def nodeField? (b : Byte) : Option (Option NodeId) :=
  if b = 0 then some none else (nodeOf? b.toNat).map some

/-- A number held to a range, refused outside it. -/
def within (lo hi n : Nat) : Option Nat := if lo ≤ n ∧ n ≤ hi then some n else none

/-- A signed number held to a range, refused outside it. -/
def withinInt (lo hi v : Int) : Option Int := if lo ≤ v ∧ v ≤ hi then some v else none

/-- An optional 2-byte field whose absent encoding is 0xFFFF (R181). -/
def optWithin (hi n : Nat) : Option (Option Nat) :=
  if n = 0xFFFF then some none else (within 0 hi n).map some

/-! ## Presence-set writes (R5, R181) -/

/-- The field numbers a presence set names, in field order: bit n − 1 names field n (R181). -/
def namedFields (mask : Nat) : List Nat :=
  ((List.range 16).map (· + 1)).filter fun n => mask.testBit (n - 1)

/-- Read the named fields one after the other into a record. It fails when a field number is unknown, a value is out of its
range, or the payload is not exactly as long as the fields (R5 steps 4 and 5). -/
def readFields {α : Type} (field : Nat → List Byte → α → Option (α × List Byte)) :
    List Nat → List Byte → α → Option α
  | [], [], r => some r
  | [], _ :: _, _ => none
  | n :: ns, bs, r =>
    match field n bs r with
    | some (r', bs') => readFields field ns bs' r'
    | none => none

/-- One field of the zone record, with its range (R1). -/
def zoneField (n : Nat) (bs : List Byte) (r : ZoneRec) : Option (ZoneRec × List Byte) :=
  match n, bs with
  | 1, b :: bs => (flagOf? b).map fun v => ({ r with use := v }, bs)
  | 2, b :: bs => (nodeField? b).map fun v => ({ r with climateNode := v }, bs)
  | 3, b :: bs => (nodeField? b).map fun v => ({ r with lightNode := v }, bs)
  | 4, b :: bs => (nodeField? b).map fun v => ({ r with lightAct := v }, bs)
  | 5, b :: bs => (nodeField? b).map fun v => ({ r with shadeAct := v }, bs)
  | 6, b :: bs => (nodeField? b).map fun v => ({ r with heatAct := v }, bs)
  | 7, b :: bs => (nodeField? b).map fun v => ({ r with moistAct := v }, bs)
  | 8, h :: l :: bs => (within 0 5000 (u16 h l)).map fun v => ({ r with eFull := v }, bs)
  | 9, h :: l :: bs => (within 0 1000 (u16 h l)).map fun v => ({ r with tc := v }, bs)
  | 10, h :: l :: bs => (within 0 3000 (u16 h l)).map fun v => ({ r with g := v }, bs)
  | 11, b :: bs => (within 0 5 b.toNat).map fun v => ({ r with filterCode := v }, bs)
  | 12, b :: bs => (within 2 16 b.toNat).map fun v => ({ r with staleLimit := v }, bs)
  | 13, h :: l :: bs => (within 0 600 (u16 h l)).map fun v => ({ r with lightGrace := v }, bs)
  | 14, b :: bs => some ({ r with climateDec := b.toNat }, bs)
  | 15, b :: bs => some ({ r with lightDec := b.toNat }, bs)
  | 16, b :: bs => (flagOf? b).map fun v => ({ r with raw := v }, bs)
  | _, _ => none

/-- One field of the zone envelope, with its range (R2). -/
def envelopeField (n : Nat) (bs : List Byte) (e : Envelope) : Option (Envelope × List Byte) :=
  match n, bs with
  | 1, h :: l :: bs => (withinInt (-2000) 6000 (s16 h l)).map fun v => ({ e with tLo := v }, bs)
  | 2, h :: l :: bs => (withinInt (-2000) 6000 (s16 h l)).map fun v => ({ e with tHi := v }, bs)
  | 3, h :: l :: bs => (within 0 10000 (u16 h l)).map fun v => ({ e with rhLo := v }, bs)
  | 4, h :: l :: bs => (within 0 10000 (u16 h l)).map fun v => ({ e with rhHi := v }, bs)
  | 5, h :: l :: bs => (within 0 2000 (u16 h l)).map fun v => ({ e with tSwing := v }, bs)
  | 6, h :: l :: bs => (within 0 5000 (u16 h l)).map fun v => ({ e with rhSwing := v }, bs)
  | 7, h :: l :: bs => (within 0 5000 (u16 h l)).map fun v => ({ e with lux := v }, bs)
  | 8, h :: l :: bs => (within 0 2000 (u16 h l)).map fun v => ({ e with uv := v }, bs)
  | _, _ => none

/-- A label character: space to tilde (R4). -/
def isLabelChar (b : Byte) : Bool := 0x20 ≤ b.toNat && b.toNat ≤ 0x7E

/-- One field of the object record, with its range (R3, R4). The RH band must have RHlo ≤ RHhi and a label's characters must
run from space to tilde (R11). -/
def objectField (n : Nat) (bs : List Byte) (o : ObjConf) : Option (ObjConf × List Byte) :=
  match n, bs with
  | 1, b :: bs => (flagOf? b).map fun v => ({ o with use := v }, bs)
  | 2, b :: bs => (zoneOf? b).map fun v => ({ o with zone := v }, bs)
  | 3, h :: l :: bs => (within 0 2000 (u16 h l)).map fun v => ({ o with w := v }, bs)
  | 4, a :: b :: c :: d :: bs => (within 0 10000000 (u32 a b c d)).map fun v => ({ o with allowance := v }, bs)
  | 5, b :: bs => (within 0 100 b.toNat).map fun v => ({ o with slack := v }, bs)
  | 6, h :: l :: bs => (within 0 5000 (u16 h l)).map fun v => ({ o with restricted := v }, bs)
  | 7, h :: l :: bs => (within 0 5000 (u16 h l)).map fun v => ({ o with exhausted := v }, bs)
  | 8, a :: b :: c :: d :: bs =>
    if u16 a b = 0xFFFF ∧ u16 c d = 0xFFFF then some ({ o with rhBand := none }, bs)
    else if u16 a b ≤ u16 c d ∧ u16 c d ≤ 10000 then
      some ({ o with rhBand := some ((u16 a b : Int), (u16 c d : Int)) }, bs)
    else none
  | 9, h :: l :: bs => (optWithin 5000 (u16 h l)).map fun v => ({ o with rhSwing := v.map Int.ofNat }, bs)
  | 10, h :: l :: bs => (optWithin 5000 (u16 h l)).map fun v => ({ o with luxCeil := v }, bs)
  | 11, k :: bs =>
    if k.toNat ≤ 16 ∧ k.toNat ≤ bs.length ∧ (bs.take k.toNat).all isLabelChar = true then
      some ({ o with label := bs.take k.toNat }, bs.drop k.toNat)
    else none
  | _, _ => none

/-- The zone a WRITE_OBJECT payload names for the object, when its presence set has the zone field and the byte is there and
names a zone (R11: the rights check reads it before the length is checked). -/
def namedObjectZone (mask : Nat) (fields : List Byte) : Option ZoneId :=
  if mask.testBit 1 then
    match fields[if mask.testBit 0 then 1 else 0]? with
    | some b => zoneOf? b
    | none => none
  else none

/-- The fields of a zone record as a response carries them (R5, R181). -/
def zoneRecBytes (r : ZoneRec) : List Byte :=
  flag1 r.use ++ [nodeOpt r.climateNode, nodeOpt r.lightNode, nodeOpt r.lightAct, nodeOpt r.shadeAct, nodeOpt r.heatAct,
    nodeOpt r.moistAct] ++ u2 r.eFull ++ u2 r.tc ++ u2 r.g ++ [u1 r.filterCode, u1 r.staleLimit] ++ u2 r.lightGrace
    ++ [u1 r.climateDec, u1 r.lightDec] ++ flag1 r.raw

/-- The fields of a zone envelope as a response carries them (R5, R181). -/
def envelopeBytes (e : Envelope) : List Byte :=
  s2 e.tLo ++ s2 e.tHi ++ s2 e.rhLo ++ s2 e.rhHi ++ s2 e.tSwing ++ s2 e.rhSwing ++ u2 e.lux ++ u2 e.uv

/-- The ten configuration fields and the label of an object as a response carries them (R11, R13, R181). -/
def objConfBytes (o : ObjConf) : List Byte :=
  flag1 o.use ++ [u1 o.zone.val] ++ u2 o.w ++ u4 o.allowance ++ [u1 o.slack] ++ u2 o.restricted ++ u2 o.exhausted
    ++ (match o.rhBand with | some (lo, hi) => s2 lo ++ s2 hi | none => u2 0xFFFF ++ u2 0xFFFF)
    ++ rh2opt o.rhSwing ++ u2opt o.luxCeil ++ [u1 o.label.length] ++ o.label

/-! ## The other payloads (R181) -/

/-- SET_POINT: zone, channel, value. A zone or channel out of range and the value 0x8000 are refused (R79). -/
def setPointOf? : List Byte → Option (ZoneId × ChanKind × Int)
  | [z, c, h, l] =>
    match zoneOf? z, chanOf? c with
    | some z, some c => if s16 h l = -0x8000 then none else some (z, c, s16 h l)
    | _, _ => none
  | _ => none

/-- The value a SET_POINT payload of the right length carries, 0x8000 read as absent (R180). -/
def setPointValue : List Byte → Option Int
  | [_, _, h, l] => if s16 h l = -0x8000 then none else some (s16 h l)
  | _ => none

/-- LINK: n, 1..4 (R101). -/
def linkOf? : List Byte → Option Nat
  | [n] => within 1 4 n.toNat
  | _ => none

/-- TAKE_TENURE: zone, channel, preempt (R115). -/
def takeOf? : List Byte → Option (ZoneId × ChanKind × Bool)
  | [z, c, f] =>
    match zoneOf? z, chanOf? c, flagOf? f with
    | some z, some c, some f => some (z, c, f)
    | _, _, _ => none
  | _ => none

/-- RELEASE_TENURE: zone, channel (R118). -/
def releaseOf? : List Byte → Option (ZoneId × ChanKind)
  | [z, c] =>
    match zoneOf? z, chanOf? c with
    | some z, some c => some (z, c)
    | _, _ => none
  | _ => none

/-- CLEAR_CONDITIONS: zone, conditions (R93). -/
def clearOf? : List Byte → Option (ZoneId × CondSet)
  | [z, h, l] => (zoneOf? z).map fun z => (z, BitVec.ofNat 16 (u16 h l))
  | _ => none

/-- READ_ZONE: zone, group mask. An empty mask or one naming another group than 1..7 is refused (R178). -/
def readZoneOf? : List Byte → Option (ZoneId × Byte)
  | [z, m] => if m = 0 ∨ m.getLsbD 7 then none else (zoneOf? z).map fun z => (z, m)
  | _ => none

/-- SUBSCRIBE on: the on byte 1 and a watermark 0..4096 (R161). -/
def subscribeOf? : List Byte → Option Nat
  | [on, h, l] => if on = 1 then within 0 4096 (u16 h l) else none
  | _ => none

/-- The field test of a selection: test byte and value (R167, R181). `none` is a test that SCAN refuses. -/
def fieldTestOf? (t : Byte) (v : Int) : Option (Option FieldTest) :=
  if t = 0 then some none
  else
    let field? : Option TestField :=
      match t.toNat % 0x80 with
      | 1 => some .t
      | 2 => some .rh
      | 3 => some .e
      | 4 => some .uv
      | 5 => some .peak
      | _ => none
    match field?, withinInt (-32768) 65535 v with
    | some field, some v => some (some { field, atMost := t.getLsbD 7, value := v })
    | _, _ => none

/-- A selection: kind set (13 kinds), zone set, test byte, value (R167, R181). -/
def selectionOf? : List Byte → Option Selection
  | [kh, kl, z, t, a, b, c, d] =>
    if u16 kh kl < 0x2000 then
      (fieldTestOf? t (s32 a b c d)).map fun test => { kinds := BitVec.ofNat 16 (u16 kh kl), zones := z, test }
    else none
  | _ => none

/-- SET_ATTENTION: enable set, zone set, condition enable set, mode (R177, R181). -/
def setAttentionOf? : List Byte → Option (AttnSet × ZoneSet × CondSet × LineMode)
  | [eh, el, z, ch, cl, m] =>
    if u16 eh el < 0x200 then
      match m.toNat with
      | 0 => some (BitVec.ofNat 9 (u16 eh el), z, BitVec.ofNat 16 (u16 ch cl), .level)
      | 1 => some (BitVec.ofNat 9 (u16 eh el), z, BitVec.ofNat 16 (u16 ch cl), .pulse)
      | _ => none
    else none
  | _ => none

/-- ACK_ATTENTION: attention bits (R177). -/
def ackOf? : List Byte → Option AttnSet
  | [h, l] => if u16 h l < 0x200 then some (BitVec.ofNat 9 (u16 h l)) else none
  | _ => none

/-- SET_CLOCK: gallery time (R185). -/
def setClockOf? : List Byte → Option GTime
  | [h, l, a, b, c] => if u24 a b c ≤ 86399 then some { day := u16 h l, sec := u24 a b c } else none
  | _ => none

/-- WRITE_AUTHORITY: port, zone set, rights (R174). -/
def authorityOf? : List Byte → Option (PortId × ZoneSet × RightSet)
  | [p, z, r] =>
    match portOf? p with
    | some p => if z = 0 ∨ 16 ≤ r.toNat then none else some (p, z, BitVec.ofNat 4 r.toNat)
    | none => none
  | _ => none

/-- WRITE_NODE: address, kind, code (R146). -/
def writeNodeOf? : List Byte → Option (NodeId × NodeKind × Nat)
  | [a, k, c] =>
    match nodeOf? a.toNat, kindOf? k, within 0 7 c.toNat with
    | some a, some k, some c => some (a, k, c)
    | _, _, _ => none
  | _ => none

/-- RESET_DOSE: object, dose 0..99,999,999 (R76). -/
def resetDoseOf? : List Byte → Option (ObjId × Nat)
  | [o, a, b, c, d] =>
    match objOf? o, within 0 99999999 (u32 a b c d) with
    | some o, some dose => some (o, dose)
    | _, _ => none
  | _ => none

/-- SET_PERIOD: N 1..400, whether a start is given, the start day (R73). The start day of a request that gives none is
ignored. -/
def setPeriodOf? : List Byte → Option (Nat × Option Nat)
  | [nh, nl, g, sh, sl] =>
    match within 1 400 (u16 nh nl), flagOf? g with
    | some n, some given => some (n, if given then some (u16 sh sl) else none)
    | _, _ => none
  | _ => none

/-- SET_HOLD: channel, seconds 0..3600 (R119). -/
def setHoldOf? : List Byte → Option (ChanKind × Nat)
  | [c, h, l] =>
    match chanOf? c, within 0 3600 (u16 h l) with
    | some c, some n => some (c, n)
    | _, _ => none
  | _ => none

/-! ## What a refused request named (R175) -/

/-- The zone and channel a request named, for its port's refusal record: none where it named none, where its payload has not
the length of its layout, or where the byte names nothing (R175). A SET_POINT that R79 answers BAD_ARG names neither. -/
def namedBy (f : Frame) : Option ZoneId × Option ChanKind :=
  match rowOf f, f.payload with
  | .setPoint, bs =>
    match setPointOf? bs with
    | some (z, c, _) => (some z, some c)
    | none => (none, none)
  | .takeTenure, [z, c, _] => (zoneOf? z, chanOf? c)
  | .releaseTenure, [z, c] => (zoneOf? z, chanOf? c)
  | .clearConditions, [z, _, _] => (zoneOf? z, none)
  | .writeZone, z :: _ :: _ :: _ => (zoneOf? z, none)
  | .writeEnvelope, z :: _ :: _ :: _ => (zoneOf? z, none)
  | .readZone, [z, _] => (zoneOf? z, none)
  | .setHold, [c, _, _] => (none, chanOf? c)
  | _, _ => (none, none)

end Sys2Proof.Machine
end

