-- ==== Sys2Proof/Machine/Flags.lean ====
section
/-! DEFINITION. Flags.lean: the sets the part keeps as bits: rights, conditions and attention bits, with the attention line
(R174, R89 to R92, R176, R177), and the accessors through which every block reaches ports, zones, objects, nodes and
channels. -/

namespace Sys2Proof.Machine

open Sys2Proof

/-! ## Accessors -/

/-- The ports in ascending number. -/
def allPorts : List PortId := List.finRange 3
/-- The zones in ascending number. -/
def allZones : List ZoneId := List.finRange 8
/-- The objects in ascending number. -/
def allObjects : List ObjId := List.finRange 32
/-- The nodes in ascending address. -/
def allNodes : List NodeId := List.finRange 32
/-- The channel kinds in the order of their numbers (R180). -/
def allChans : List ChanKind := [.light, .shade, .heat, .moist]

/-- A port. -/
def State.port (s : State) (p : PortId) : Port := s.ports[p]
/-- A zone. -/
def State.zone (s : State) (z : ZoneId) : Zone := s.zones[z]
/-- An object. -/
def State.object (s : State) (o : ObjId) : Object := s.objects[o]
/-- A node. -/
def State.node (s : State) (n : NodeId) : Node := s.nodes[n]
/-- A channel of a zone. -/
def Zone.chan (zn : Zone) (ch : ChanKind) : Channel := zn.chans[chanIdx ch]
/-- A channel. -/
def State.chan (s : State) (z : ZoneId) (ch : ChanKind) : Channel := (s.zone z).chan ch
/-- The hold time of a channel kind (R119). -/
def State.hold (s : State) (ch : ChanKind) : Nat := s.holds[chanIdx ch]

/-- Change one port. -/
def State.modPort (s : State) (p : PortId) (f : Port → Port) : State :=
  { s with ports := s.ports.set p (f (s.port p)) }
/-- Change one zone. -/
def State.modZone (s : State) (z : ZoneId) (f : Zone → Zone) : State :=
  { s with zones := s.zones.set z (f (s.zone z)) }
/-- Change one object. -/
def State.modObject (s : State) (o : ObjId) (f : Object → Object) : State :=
  { s with objects := s.objects.set o (f (s.object o)) }
/-- Change one node. -/
def State.modNode (s : State) (n : NodeId) (f : Node → Node) : State :=
  { s with nodes := s.nodes.set n (f (s.node n)) }
/-- Change one channel of a zone. -/
def Zone.modChan (zn : Zone) (ch : ChanKind) (f : Channel → Channel) : Zone :=
  { zn with chans := zn.chans.set (chanIdx ch) (f (zn.chan ch)) }
/-- Change one channel. -/
def State.modChan (s : State) (z : ZoneId) (ch : ChanKind) (f : Channel → Channel) : State :=
  s.modZone z fun zn => zn.modChan ch f

/-- Act on each port in turn. -/
def State.forPorts (s : State) (f : PortId → State → State) : State := allPorts.foldl (fun s p => f p s) s
/-- Act on each zone in turn. -/
def State.forZones (s : State) (f : ZoneId → State → State) : State := allZones.foldl (fun s z => f z s) s
/-- Act on each object in turn. -/
def State.forObjects (s : State) (f : ObjId → State → State) : State := allObjects.foldl (fun s o => f o s) s
/-- Act on each node in turn. -/
def State.forNodes (s : State) (f : NodeId → State → State) : State := allNodes.foldl (fun s n => f n s) s
/-- Act on each channel kind in turn. -/
def State.forChans (s : State) (f : ChanKind → State → State) : State := allChans.foldl (fun s c => f c s) s

/-! ## Rights (R174) -/

/-- The bit of a right (R180). -/
def rightIdx : Right → Nat
  | .observe => 0
  | .climate => 1
  | .light => 2
  | .envelope => 3

/-- Whether a right is in a set. -/
def hasRight (rs : RightSet) (r : Right) : Bool := rs.getLsbD (rightIdx r)

/-- Whether a port holds a right in a zone, as the authority table stands now (R174). -/
def State.may (s : State) (p : PortId) (z : ZoneId) (r : Right) : Bool := hasRight (s.port p).rights[z] r

/-- The role defaults of the authority table (R174). -/
def roleRights : Role → RightSet
  | .none => 0x1
  | .climate => 0x3
  | .lighting => 0x5
  | .conservation => 0xF

/-! ## Conditions (section 5.5) -/

/-- The bit of a condition: its place in the table of section 5.5 (R180). -/
def condIdx : Condition → Nat
  | .clampHeat => 0
  | .clampMoist => 1
  | .clampLight => 2
  | .clampShade => 3
  | .refusedRh => 4
  | .swingSpent => 5
  | .recovery => 6
  | .tableLimit => 7
  | .rhSaturated => 8
  | .daylightOver => 9
  | .daylightHeld => 10
  | .blindStep => 11
  | .overrideCap => 12
  | .ceilingFollow => 13
  | .conflict => 14
  | .actLimited => 15

/-- The sixteen conditions in the order of the table. -/
def allConditions : List Condition :=
  [.clampHeat, .clampMoist, .clampLight, .clampShade, .refusedRh, .swingSpent, .recovery, .tableLimit, .rhSaturated,
    .daylightOver, .daylightHeld, .blindStep, .overrideCap, .ceilingFollow, .conflict, .actLimited]

/-- The set of one condition. -/
def condBit (c : Condition) : CondSet := BitVec.twoPow 16 (condIdx c)

/-- The set of one condition if `b`, else the empty set. -/
def condIf (b : Bool) (c : Condition) : CondSet := if b then condBit c else 0

/-- Whether a condition is in a set. -/
def hasCond (cs : CondSet) (c : Condition) : Bool := cs.getLsbD (condIdx c)

/-- The clamp condition of a channel (R83). -/
def clampCond : ChanKind → Condition
  | .light => .clampLight
  | .shade => .clampShade
  | .heat => .clampHeat
  | .moist => .clampMoist

/-! ## Attention (R176) -/

/-- The bit of an attention reason: its place in the table of R176 (R180). -/
def attnIdx : AttnBit → Nat
  | .watermark => 0
  | .watchMatch => 1
  | .tenureGained => 2
  | .tenureLost => 3
  | .zoneCondition => 4
  | .excursion => 5
  | .node => 6
  | .storeFault => 7
  | .clockLost => 8

/-- The set of one attention bit. -/
def attnBit (b : AttnBit) : AttnSet := BitVec.twoPow 9 (attnIdx b)

/-- Whether a bit is in a set. -/
def hasAttn (a : AttnSet) (b : AttnBit) : Bool := a.getLsbD (attnIdx b)

/-- Whether the attention line of a port is active: in LEVEL mode while pending and enable set share a bit, in PULSE mode
while a pulse is being driven (R176). -/
def Port.lineActive (pt : Port) : Bool :=
  match pt.mode with
  | .level => pt.attn &&& pt.enable != 0
  | .pulse => pt.pulse

/-- Make a bit pending on a port. A bit that is pending already stays so; in PULSE mode a newly pending enabled bit gives a
pulse, and a pulse being driven covers it (R176). -/
def Port.raise (pt : Port) (b : AttnBit) : Port :=
  if hasAttn pt.attn b then pt
  else
    { pt with
        attn := pt.attn ||| attnBit b
        pulse := pt.pulse || (decide (pt.mode = .pulse) && hasAttn pt.enable b) }

/-- Make a bit pending on port `p`. -/
def State.pend (s : State) (p : PortId) (b : AttnBit) : State := s.modPort p fun pt => pt.raise b

/-- Make a bit pending on every port that meets a test of its own settings as they stand now. -/
def State.pendWhere (s : State) (b : AttnBit) (test : Port → Bool) : State :=
  s.forPorts fun p s => if test (s.port p) then s.pend p b else s

/-- Whether a zone is in a zone set. -/
def inZoneSet (zs : ZoneSet) (z : ZoneId) : Bool := zs.getLsbD z.val

/-- Make a bit pending on every port whose zone set holds the zone (R134, R135, R149). -/
def State.pendZone (s : State) (z : ZoneId) (b : AttnBit) : State := s.pendWhere b fun pt => inZoneSet pt.zoneSet z

/-- Replace the four attention settings and re-evaluate the line (R177). In PULSE mode a pending bit that the new enable set
holds and the old did not gives a pulse; in LEVEL mode the line follows the sets and no pulse is driven. -/
def Port.setAttention (pt : Port) (enable : AttnSet) (zones : ZoneSet) (conds : CondSet) (mode : LineMode) : Port :=
  { pt with
      enable := enable
      zoneSet := zones
      condSet := conds
      mode := mode
      pulse := decide (mode = .pulse) && (pt.pulse || (pt.attn &&& enable &&& ~~~pt.enable != 0)) }

/-! ## The sticky and cause sets (R89 to R93) -/

/-- Add a condition to a zone's sticky set. If the set did not hold it, ZONE_CONDITION becomes pending on every port with the
condition in its condition enable set and the zone in its zone set (R92). -/
def State.addSticky (s : State) (z : ZoneId) (c : Condition) : State :=
  if hasCond (s.zone z).sticky c then s
  else
    (s.modZone z fun zn => { zn with sticky := zn.sticky ||| condBit c }).pendWhere .zoneCondition fun pt =>
      hasCond pt.condSet c && inZoneSet pt.zoneSet z

/-- Add every condition of a set to a zone's sticky set, in the order of the table. -/
def State.addStickySet (s : State) (z : ZoneId) (cs : CondSet) : State :=
  allConditions.foldl (fun s c => if hasCond cs c then s.addSticky z c else s) s

/-- A zone evaluation that raises the conditions `cs`: the cause set holds exactly them, and each is added to the sticky
set (R89). -/
def State.recordEvaluation (s : State) (z : ZoneId) (cs : CondSet) : State :=
  (s.modZone z fun zn => { zn with cause := cs }).addStickySet z cs

end Sys2Proof.Machine
end

