-- ==== Sys2Proof/Machine/Queue.lean ====
section
/-! DEFINITION. Queue.lean: the observation queue (OQ): sizes, cursors, append and drop, freeing, the watch and watermark
tests, and the moves of DRAIN and SCAN (R159 to R169). -/

namespace Sys2Proof.Machine

open Sys2Proof

/-- The capacity of the queue in bytes (R159). -/
def queueCapacity : Nat := 4096
/-- The bytes kept for event records (R164). -/
def queueReserve : Nat := 512

/-- The total size of a list of records. -/
def totalSize : List Record → Nat
  | [] => 0
  | r :: rs => recordSize r + totalSize rs

/-- The bytes used (R159). -/
def State.used (s : State) : Nat := totalSize s.records

/-- The records a subscription has not read (R159). -/
def unreadOf (records : List Record) (sub : Subscription) : List Record := records.drop sub.cursor

/-- A subscription's unread bytes (R159). -/
def unreadBytes (records : List Record) (sub : Subscription) : Nat := totalSize (unreadOf records sub)

/-- Whether any port is subscribed (R162). -/
def State.anySubscribed (s : State) : Bool := allPorts.any fun p => (s.port p).sub.isSome

/-- Raise a 16-bit count by `n`, held at 65535. -/
def bump (n count : Nat) : Nat := min 65535 (count + n)

/-- Whether a port stands at its watermark with the records held (R169). -/
def standsAt (records : List Record) (sub : Subscription) : Bool :=
  0 < sub.watermark && sub.watermark ≤ unreadBytes records sub

/-! ## Matching (R167) -/

/-- The zone a record carries, if it carries one (R167). -/
def recordZone : Record → Option ZoneId
  | .climateSample z .. => some z
  | .lightSample z .. => some z
  | .grant _ _ z .. => some z
  | .refusal _ _ chan _ _ => chan.map Prod.fst
  | .excursionOpen z .. => some z
  | .excursionClose _ z .. => some z
  | .tenure _ z .. => some z
  | .pace _ _ z .. => some z
  | .rollover _ _ z _ => some z
  | .clock .. => none
  | .start .. => none
  | .store .. => none
  | .node .. => none

/-- The value a record carries for a test field, if it carries the field (R167). -/
def recordField (f : TestField) : Record → Option Int
  | .climateSample _ _ t rh _ _ _ =>
    match f with
    | .t => some t
    | .rh => some rh
    | _ => none
  | .lightSample _ _ e uv _ _ _ =>
    match f with
    | .e => some e
    | .uv => some uv
    | _ => none
  | .excursionClose _ _ _ e _ =>
    match f with
    | .peak => some e.peak
    | _ => none
  | _ => none

/-- Whether a record meets a field test (R167). -/
def meetsTest (t : FieldTest) (r : Record) : Bool :=
  match recordField t.field r with
  | some v => if t.atMost then decide (v ≤ t.value) else decide (t.value ≤ v)
  | none => false

/-- Whether a record matches a selection (R167). -/
def matchesSel (sel : Selection) (r : Record) : Bool :=
  (sel.kinds == 0 || sel.kinds.getLsbD (recordKind r - 1)) &&
  (sel.zones == 0 || (match recordZone r with | some z => inZoneSet sel.zones z | none => false)) &&
  (match sel.test with | some t => meetsTest t r | none => true)

/-! ## Freeing (R162) -/

/-- The least number of records any subscribed port has passed; none when no port is subscribed. -/
def State.minPassed (s : State) : Option Nat :=
  allPorts.foldl (fun m p =>
    match (s.port p).sub, m with
    | some sub, some k => some (min k sub.cursor)
    | some sub, none => some sub.cursor
    | none, m => m) none

/-- Move a port's cursor back by `k` records that have left the head of the list. -/
def Port.shiftCursor (k : Nat) (pt : Port) : Port :=
  { pt with sub := pt.sub.map fun sub => { sub with cursor := sub.cursor - k } }

/-- Free every record that each subscribed cursor has passed; with no subscriber the list is emptied (R162). -/
def State.freeRead (s : State) : State :=
  match s.minPassed with
  | none => { s with records := [] }
  | some k => { s with records := s.records.drop k }.forPorts fun p s => s.modPort p (Port.shiftCursor k)

/-! ## Appending (R163, R164) -/

/-- How many records must leave the head of the list so that at most `limit` bytes stay. -/
def dropCount (limit : Nat) : List Record → Nat
  | [] => 0
  | r :: rs => if totalSize (r :: rs) ≤ limit then 0 else dropCount limit rs + 1

/-- What a drop of the `k` oldest records does to a port: one lost for each dropped record its cursor had not passed, and a
cursor on a dropped record moves to the new head (R163). -/
def Port.loseOldest (k : Nat) (pt : Port) : Port :=
  { pt with sub := pt.sub.map fun sub => { sub with lost := bump (k - sub.cursor) sub.lost, cursor := sub.cursor - k } }

/-- Drop records from the head, oldest first, until `size` bytes are free (R163). -/
def State.makeRoom (s : State) (size : Nat) : State :=
  let k := dropCount (queueCapacity - size) s.records
  if k = 0 then s
  else { s with records := s.records.drop k }.forPorts fun p s => s.modPort p (Port.loseOldest k)

/-- The watch and watermark tests of one port after `r` was appended to `before` (R168, R169). -/
def Port.testAppended (before : List Record) (r : Record) (pt : Port) : Port :=
  match pt.sub with
  | none => pt
  | some sub =>
    let pt1 := match sub.watch with
      | some sel => if matchesSel sel r then pt.raise .watchMatch else pt
      | none => pt
    if standsAt (before ++ [r]) sub && !standsAt before sub then pt1.raise .watermark else pt1

/-- Append a record for which there is room, with the tests that follow an append (R163). -/
def State.append (s : State) (r : Record) : State :=
  { s with records := s.records ++ [r] }.forPorts fun p s' => s'.modPort p (Port.testAppended s.records r)

/-- Offer an event record: always appended while a port is subscribed, with room made for it; discarded otherwise
(R162, R163). -/
def State.offer (s : State) (r : Record) : State :=
  if s.anySubscribed then (s.makeRoom (recordSize r)).append r else s

/-- Whether a sample record of `size` bytes leaves the reserve free (R164). -/
def State.sampleFits (s : State) (size : Nat) : Bool := s.used + size + queueReserve ≤ queueCapacity

/-- Offer the CLIMATE_SAMPLE record of a zone (R35, R36, R164). An appended record carries the pending MARK and RATE_CHANGED
flags away; a discarded one is counted and leaves them. -/
def State.offerClimateSample (s : State) (z : ZoneId) (time : GTime) (t rh : Int) (raw : Option (Int × Int)) : State :=
  let est := (s.zone z).est
  let r := Record.climateSample z time t rh raw est.mark est.rateClimate
  if s.anySubscribed then
    if s.sampleFits (recordSize r) then
      (s.append r).modZone z fun zn => { zn with est := { zn.est with mark := false, rateClimate := false } }
    else { s with sampleDrops := bump 1 s.sampleDrops }
  else s

/-- Offer the LIGHT_SAMPLE record of a zone (R35, R36, R164). -/
def State.offerLightSample (s : State) (z : ZoneId) (time : GTime) (e uv : Nat) (sat : Bool) : State :=
  let est := (s.zone z).est
  let r := Record.lightSample z time e uv sat est.mark est.rateLight
  if s.anySubscribed then
    if s.sampleFits (recordSize r) then
      (s.append r).modZone z fun zn => { zn with est := { zn.est with mark := false, rateLight := false } }
    else { s with sampleDrops := bump 1 s.sampleDrops }
  else s

/-! ## Reading (R166, R167) -/

/-- How many of the unread records a DRAIN of at most `n` records and `room` bytes takes, in order (R166). -/
def drainCount : Nat → Nat → List Record → Nat
  | 0, _, _ => 0
  | _ + 1, _, [] => 0
  | n + 1, room, r :: rs => if recordSize r ≤ room then drainCount n (room - recordSize r) rs + 1 else 0

/-- The most bytes of records one DRAIN returns (R166). -/
def drainBytes : Nat := 240

/-- Move a port's cursor past `k` records and free what every cursor has passed. -/
def State.passRecords (s : State) (p : PortId) (k : Nat) : State :=
  (s.modPort p fun pt => { pt with sub := pt.sub.map fun sub => { sub with cursor := sub.cursor + k } }).freeRead

end Sys2Proof.Machine
end

