-- ==== Sys2Proof/Machine/Clock.lean ====
section
/-! DEFINITION. Clock.lean: arithmetic on gallery times and the marks of the gallery clock (Conventions, Time; R184). -/

namespace Sys2Proof.Machine

open Sys2Proof

/-- Seconds in a day. -/
def daySeconds : Nat := 86400

/-- A gallery time as seconds from day 0, second 0. -/
def GTime.toSeconds (t : GTime) : Nat := t.day * daySeconds + t.sec

/-- The gallery time `n` seconds after day 0, second 0. -/
def GTime.ofSeconds (n : Nat) : GTime := { day := n / daySeconds, sec := n % daySeconds }

/-- Seconds from one gallery time to a later one: (day difference) × 86400 + (second difference) (R63, R120). It is 0
when `a` is not before `b`. -/
def GTime.since (b a : GTime) : Nat := b.toSeconds - a.toSeconds

/-- Whether one gallery time is no later than another. -/
def GTime.notAfter (a b : GTime) : Bool := a.toSeconds ≤ b.toSeconds

/-- The later of two gallery times. -/
def GTime.later (a b : GTime) : GTime := if a.notAfter b then b else a

/-- The last second of the clock: day 65535, second 86399 (R184). -/
def clockEnd : GTime := { day := 65535, sec := 86399 }

/-- A gallery time moved on by `n` seconds, held at the last second of the range of gallery times (Conventions, Numbers and
arithmetic). -/
def GTime.plus (t : GTime) (n : Nat) : GTime :=
  if clockEnd.toSeconds ≤ t.toSeconds + n then clockEnd else .ofSeconds (t.toSeconds + n)

/-- The second the clock reaches after `t`; it stops at its end (R184). -/
def GTime.next (t : GTime) : GTime :=
  if clockEnd.notAfter t then t
  else if t.sec < 86399 then { t with sec := t.sec + 1 }
  else { day := t.day + 1, sec := 0 }

/-- The clock after it has run on for `n` seconds, held at its end (R184). -/
def GTime.runOn (t : GTime) (n : Nat) : GTime :=
  if clockEnd.toSeconds ≤ t.toSeconds + n then (if clockEnd.notAfter t then t else clockEnd) else t.plus n

/-- A minute mark: a second of day divisible by 60. -/
def GTime.isMinute (t : GTime) : Bool := t.sec % 60 == 0
/-- A five-minute mark: a second of day divisible by 300. -/
def GTime.isFiveMinute (t : GTime) : Bool := t.sec % 300 == 0
/-- A quarter-hour mark: a second of day divisible by 900. -/
def GTime.isQuarter (t : GTime) : Bool := t.sec % 900 == 0
/-- A day boundary: second 0 of a day. -/
def GTime.isDayStart (t : GTime) : Bool := t.sec == 0

/-- One second of the crystal: the clock advances and hands the second it reaches to the blocks that act on marks; a stopped
clock reaches none. Running time goes on in any case (R105, R184). -/
def State.tick (s : State) : State :=
  let t := s.clock.next
  if t = s.clock then { s with crystal := s.crystal + 1 }
  else
    { s with
        clock := t
        crystal := s.crystal + 1
        minuteMarks := if t.isMinute then s.minuteMarks ++ [t] else s.minuteMarks
        fiveMarks := if t.isFiveMinute then s.fiveMarks ++ [t] else s.fiveMarks }

end Sys2Proof.Machine
end

