-- ==== Sys2Proof/Machine/TenureOps.lean ====
section
/-! DEFINITION. TenureOps.lean: the tenure arbiter's (TA) operations: chain order, changes of holder, the tenure check of
admission, release, lapse and the loss of a right (R112 to R124). -/

namespace Sys2Proof.Machine

open Sys2Proof

/-- Whether a port holds the CONSERVATION role (R173). -/
def State.isConservation (s : State) (p : PortId) : Bool := (s.port p).role == .conservation

/-- The priority chain: the conservation port first, then the other ports in ascending number (R114). -/
def State.chain (s : State) : List PortId :=
  allPorts.filter (fun p => s.isConservation p) ++ allPorts.filter fun p => !s.isConservation p

/-- A wait list with a port inserted at its place in chain order (R114). A port already there keeps its place. -/
def State.insertWaiter (s : State) (p : PortId) (l : List PortId) : List PortId :=
  s.chain.filter fun q => q == p || l.contains q

/-- Restart a channel's last activity at now (R120). -/
def State.touch (s : State) (z : ZoneId) (ch : ChanKind) : State :=
  s.modChan z ch fun c => { c with lastActivity := s.clock }

/-- Restart the last activity of a zone's four channels (R120). -/
def State.touchZone (s : State) (z : ZoneId) : State := s.forChans fun ch s => s.touch z ch

/-- Restart the last activity of all 32 channels (R120). -/
def State.touchAll (s : State) : State := s.forZones fun z s => s.touchZone z

/-- Whether a change of holder for this reason takes the channel from a port that did not ask (R123 step 4). -/
def losesTenure : TenureReason → Bool
  | .preempt | .lapse | .right => true
  | .take | .release => false

/-- A change of holder (R123): the holder, then its last activity, then the TENURE record, then the attention bits. -/
def State.changeHolder (s : State) (z : ZoneId) (ch : ChanKind) (newHolder : Option PortId) (reason : TenureReason) : State :=
  let before := (s.chan z ch).holder
  let s := s.modChan z ch fun c =>
    { c with holder := newHolder, lastActivity := if newHolder.isSome then s.clock else c.lastActivity }
  let s := s.offer (.tenure s.clock z ch before newHolder reason)
  let s := match newHolder with
    | some p => s.pend p .tenureGained
    | none => s
  match before with
  | some q => if losesTenure reason then s.pend q .tenureLost else s
  | none => s

/-- Pass the channel to its first waiter, who leaves the list, or free it (R118, R120, R122). -/
def State.passOn (s : State) (z : ZoneId) (ch : ChanKind) (reason : TenureReason) : State :=
  match (s.chan z ch).waiters with
  | w :: rest => (s.modChan z ch fun c => { c with waiters := rest }).changeHolder z ch (some w) reason
  | [] => s.changeHolder z ch none reason

/-- Check 4 of admission (R81, R116): a free channel is taken, the holder passes, and a pass restarts the last activity. None
when another port holds the channel. -/
def State.tenureCheck (s : State) (p : PortId) (z : ZoneId) (ch : ChanKind) : Option State :=
  match (s.chan z ch).holder with
  | none => some ((s.changeHolder z ch (some p) .take).touch z ch)
  | some q => if q = p then some (s.touch z ch) else none

/-- The actuator node of a zone's channel, none when the channel is unbound (R1). -/
def ZoneRec.act (r : ZoneRec) : ChanKind → Option NodeId
  | .light => r.lightAct
  | .shade => r.shadeAct
  | .heat => r.heatAct
  | .moist => r.moistAct

/-- The idle time of a channel in seconds (R120). -/
def State.idleTime (s : State) (z : ZoneId) (ch : ChanKind) : Nat := s.clock.since (s.chan z ch).lastActivity

/-- The six conditions under which a channel lapses (R120). -/
def State.lapses (s : State) (z : ZoneId) (ch : ChanKind) : Bool :=
  s.supervised && (s.zone z).cfg.use && ((s.zone z).cfg.act ch).isSome && (s.chan z ch).holder.isSome &&
    decide (0 < s.hold ch) && !(s.chan z ch).waiters.isEmpty && decide (s.hold ch ≤ s.idleTime z ch)

/-- Take the lapse of a channel if its conditions hold (R120). -/
def State.takeLapse (s : State) (z : ZoneId) (ch : ChanKind) : State :=
  if s.lapses z ch then s.passOn z ch .lapse else s

/-- A pre-empting take by the conservation port (R117). -/
def State.preempt (s : State) (p : PortId) (z : ZoneId) (ch : ChanKind) : State :=
  (s.modChan z ch fun c => { c with waiters := c.waiters.filter (· != p) }).changeHolder z ch (some p) .preempt

/-- What the loss of a right does to one tenure record (R122): waiters without the channel's right leave, and a holder without
it loses the channel to the first port left, or to none. -/
def State.dropUnrighted (s : State) (z : ZoneId) (ch : ChanKind) (right : Right) : State :=
  let s := s.modChan z ch fun c => { c with waiters := c.waiters.filter fun q => s.may q z right }
  match (s.chan z ch).holder with
  | some q => if s.may q z right then s else s.passOn z ch .right
  | none => s

end Sys2Proof.Machine
end

