-- ==== Sys2Proof/Machine/LoopOps.lean ====
section
/-! DEFINITION. LoopOps.lean: the loop controller's (LC) operations that other blocks call: bindings, due times, node state
changes and what they tell the zone, grants handed to LC, and what LC drops (R7, R143 to R157). -/

namespace Sys2Proof.Machine

open Sys2Proof

/-! ## Bindings (R1, R6) -/

/-- Whether a zone record names a node in one of its node fields, and in which: the field number of R1. -/
def ZoneRec.fieldOf (r : ZoneRec) (n : NodeId) : Option Nat :=
  if r.climateNode = some n then some 2
  else if r.lightNode = some n then some 3
  else if r.lightAct = some n then some 4
  else if r.shadeAct = some n then some 5
  else if r.heatAct = some n then some 6
  else if r.moistAct = some n then some 7
  else none

/-- The zone that binds a node, and the field that names it. -/
def State.boundAt (s : State) (n : NodeId) : Option (ZoneId × Nat) :=
  allZones.findSome? fun z => ((s.zone z).cfg.fieldOf n).map fun f => (z, f)

/-- The zone that binds a node. -/
def State.boundZone (s : State) (n : NodeId) : Option ZoneId := (s.boundAt n).map Prod.fst

/-- The channel an actuator node drives: the one whose field names it. -/
def State.boundChan (s : State) (n : NodeId) : Option (ZoneId × ChanKind) :=
  match s.boundAt n with
  | some (z, 4) => some (z, .light)
  | some (z, 5) => some (z, .shade)
  | some (z, 6) => some (z, .heat)
  | some (z, 7) => some (z, .moist)
  | _ => none

/-- The node of a channel. -/
def State.actNode (s : State) (z : ZoneId) (ch : ChanKind) : Option NodeId := (s.zone z).cfg.act ch

/-- The actuator nodes bound to a zone's channels. -/
def State.zoneActuators (s : State) (z : ZoneId) : List NodeId := allChans.filterMap fun ch => s.actNode z ch

/-- Whether LC may address a channel's node with COMMAND or STATUS: the part SUPERVISED, the zone ON, the channel bound
(R154, R156, R157). -/
def State.addressable (s : State) (z : ZoneId) (ch : ChanKind) : Bool :=
  s.supervised && (s.zone z).cfg.use && (s.actNode z ch).isSome

/-! ## Due times (R148, R153, R154) -/

/-- Set a node's due time; its READ or STATUS joins the waiting set at once when that time is not after now. -/
def State.setDue (s : State) (n : NodeId) (t : GTime) : State :=
  s.modNode n fun nd => { nd with due := some t, waiting := t.notAfter s.clock }

/-- Clear a node's status due and retry times (R156, R157). -/
def State.clearTimes (s : State) (n : NodeId) : State :=
  s.modNode n fun nd => { nd with due := none, waiting := false, retry := none }

/-- Seconds between status polls (R153). -/
def statusPeriod : Nat := 5
/-- Seconds between retries of a SILENT node (R152). -/
def retryPeriod : Nat := 10

/-- The poll periods in seconds (R145). Code 0 is off. -/
def pollPeriod (code : Nat) : Nat :=
  match code with
  | 1 => 2
  | 2 => 5
  | 3 => 10
  | 4 => 30
  | 5 => 60
  | 6 => 120
  | 7 => 300
  | _ => 0

/-- Make an actuator due: a status poll now, or for a SILENT node a retry now (R153, R156, R157). -/
def State.makeActuatorDue (s : State) (n : NodeId) : State :=
  if (s.node n).state = .silent then s.modNode n fun nd => { nd with retry := some s.clock }
  else s.setDue n s.clock

/-- Make every bound actuator of a zone due. -/
def State.makeZoneDue (s : State) (z : ZoneId) : State :=
  s.forChans fun ch s => match s.actNode z ch with
    | some n => s.makeActuatorDue n
    | none => s

/-! ## Node states (R149) -/

/-- A zone is told that its climate sensor became STALE or ABSENT, or that the field changed: its climate is unseeded (R23). -/
def State.unseed (s : State) (z : ZoneId) : State :=
  s.modZone z fun zn => { zn with est := { zn.est with seeded := false } }

/-- A LUX pending time is cancelled and the UV count returns to 0 (R130). -/
def State.dropPendingLight (s : State) (z : ZoneId) : State :=
  s.modZone z fun zn => { zn with det := { zn.det with luxPending := none, uvFirst := none } }

/-- A zone is told that its light sensor became STALE or ABSENT: a KNOWN D0 becomes HELD (R33), and R130. -/
def State.holdLight (s : State) (z : ZoneId) : State :=
  (s.modZone z fun zn =>
    { zn with est := { zn.est with d0Status := if zn.est.d0Status = .known then .held else zn.est.d0Status } }
  ).dropPendingLight z

/-- A change of a node's state (R149): the NODE record, NODE attention, and the zone told of a sensor lost. A state that is
the one held changes nothing. -/
def State.setNodeState (s : State) (n : NodeId) (st : NodeState) : State :=
  let old := (s.node n).state
  if old = st then s
  else
    let s := s.modNode n fun nd => { nd with state := st }
    let s := s.offer (.node s.clock n old st)
    let s := match s.boundZone n with
      | some z => s.pendZone z .node
      | none => s.pendWhere .node fun _ => true
    if st = .stale ∨ st = .absent then
      match s.boundAt n with
      | some (z, 2) => s.unseed z
      | some (z, 3) => s.holdLight z
      | _ => s
    else s

/-! ## Grants and the command list (R150) -/

/-- Append a channel at the end of the command list unless it is in it (R150). -/
def State.enlist (s : State) (z : ZoneId) (ch : ChanKind) : State :=
  if s.commands.contains (z, ch) then s else { s with commands := s.commands ++ [(z, ch)] }

/-- A channel leaves the command list. -/
def State.delist (s : State) (z : ZoneId) (ch : ChanKind) : State :=
  { s with commands := s.commands.filter (· != (z, ch)) }

/-- A grant handed to LC (R150). On a channel with no node it hands LC nothing; a channel whose node is SILENT waits for its
retry. -/
def State.handToLoop (s : State) (z : ZoneId) (ch : ChanKind) (v : Int) : State :=
  match s.actNode z ch with
  | none => s
  | some n =>
    let s := s.modChan z ch fun c => { c with pending := some v, replaced := c.replaced || c.sent.isSome }
    if (s.node n).state = .silent then s else s.enlist z ch

/-! ## What LC drops (R7, R156, R157) -/

/-- A transaction under way to a node is abandoned: it only holds the loop until its window closes (R147, R156). -/
def State.abandon (s : State) (n : NodeId) : State :=
  match s.txn with
  | some t => if t.node = n then { s with txn := some { t with abandoned := true } } else s
  | none => s

/-- LC drops a channel: pending and sent values absent, replaced no, out of the command list, applied value unknown. -/
def State.dropChannel (s : State) (z : ZoneId) (ch : ChanKind) : State :=
  (s.modChan z ch fun c => { c with pending := none, sent := none, replaced := false, applied := none }).delist z ch

/-- LC stops addressing a zone's actuators (R157; R156 for every zone): the channels dropped, a transaction to one of them
abandoned, their status due and retry times cleared. Node states and attempt counts are kept. -/
def State.stopZone (s : State) (z : ZoneId) : State :=
  s.forChans fun ch s =>
    let s := s.dropChannel z ch
    match s.actNode z ch with
    | some n => (s.abandon n).clearTimes n
    | none => s

end Sys2Proof.Machine
end

