-- ==== Sys2Proof/Machine/Climate.lean ====
section
/-! DEFINITION. Climate.lean: the swing ring's extremes (R27), usability (R29) and the climate prediction: vapour pressure, RH
transfer, moisture term, admission bands, clamps and blind steps (R38 to R55). -/

namespace Sys2Proof.Machine

open Sys2Proof

/-! ## What ZE gives (R27, R29) -/

/-- Widen one slot by another. -/
def Slot.join (a b : Slot) : Slot :=
  { tMin := min a.tMin b.tMin, tMax := max a.tMax b.tMax, rhMin := min a.rhMin b.rhMin, rhMax := max a.rhMax b.rhMax }

/-- The slot of a single filter output. -/
def Slot.point (t rh : Int) : Slot := { tMin := t, tMax := t, rhMin := rh, rhMax := rh }

/-- The extremes over the non-empty slots of a ring; none when it has none (R27). -/
def ringSpan (ring : List (Option Slot)) : Option Slot :=
  ring.foldl (fun acc slot => match acc, slot with
    | some a, some b => some (a.join b)
    | none, some b => some b
    | acc, none => acc) none

/-- The ring extremes of a zone: from the slots, or standing in from the filtered values, or absent (R27). -/
def Estimate.extremes (e : Estimate) : Option Slot :=
  match ringSpan e.ring with
  | some s => some s
  | none => e.filt.map fun (t, rh) => Slot.point t rh

/-- Whether a node answers well enough for its zone: FRESH or LATE. -/
def NodeState.live (st : NodeState) : Bool := st == .fresh || st == .late

/-- Whether the climate estimate of a zone is usable (R29): a climate node bound, FRESH or LATE, and the zone seeded. -/
def State.usable (s : State) (z : ZoneId) : Bool :=
  match (s.zone z).cfg.climateNode with
  | some n => (s.node n).state.live && (s.zone z).est.seeded
  | none => false

/-! ## Saturation vapour pressure (R38, R39) -/

/-- The table P of R38, 0 to 40 °C, in pascals. -/
def pressureTable : List Int :=
  [611, 657, 706, 758, 813, 872, 935, 1002, 1073, 1148,
   1228, 1313, 1403, 1498, 1599, 1706, 1818, 1938, 2064, 2198,
   2339, 2487, 2645, 2810, 2985, 3169, 3363, 3567, 3782, 4008,
   4246, 4495, 4758, 5034, 5323, 5627, 5945, 6280, 6630, 6997,
   7381]

/-- P[i] (R38). -/
def pressureAt (i : Nat) : Int := pressureTable.getD i 7381

/-- T held to the span of the table (R39 step 1). -/
def tableTemp (t : Int) : Nat := (max 0 (min 4000 t)).toNat

/-- Ps(T) (R39). -/
def satPressure (t : Int) : Int :=
  let i := tableTemp t / 100
  let f : Int := (tableTemp t % 100 : Nat)
  if i = 40 then 7381 else pressureAt i + ((pressureAt (i + 1) - pressureAt i) * f + 50) / 100

/-- Whether Ps(T) raises TABLE_LIMIT (R39). -/
def offTable (t : Int) : Bool := t < 0 || 4000 < t

/-! ## Prediction (R42 to R46) -/

/-- The quotient of R42 before it is held to 10000. -/
def rhTransRaw (tNow rhNow tTarget : Int) : Int :=
  (rhNow * satPressure tNow + satPressure tTarget / 2) / satPressure tTarget

/-- RHtrans (R42). -/
def rhTrans (tNow rhNow tTarget : Int) : Int := min 10000 (rhTransRaw tNow rhNow tTarget)

/-- The moisture term m for a demand change and gain, truncated toward zero (R43). -/
def moistureTerm (delta : Int) (g : Nat) : Int := (delta * g).tdiv 100

/-- RHpred: the sum held to 0..10000 (R44). -/
def rhPredict (trans m : Int) : Int := max 0 (min 10000 (trans + m))

/-- A closed band of values. -/
structure Band where
  lo : Int
  hi : Int
  deriving DecidableEq, Repr

/-- The band of R45 or R47: the effective band cut by the swing limit, or the effective band with SWING_SPENT. -/
def swingBand (lo hi minR maxR swing : Int) : Band × Bool :=
  let lo' := max lo (maxR - swing)
  let hi' := min hi (minR + swing)
  if hi' < lo' then ({ lo := lo, hi := hi }, true) else ({ lo := lo', hi := hi' }, false)

/-- The distance of a value from a band (R46). -/
def Band.dist (b : Band) (x : Int) : Int :=
  if x < b.lo then b.lo - x else if b.hi < x then x - b.hi else 0

/-- A value held to a band (R48). -/
def Band.clamp (b : Band) (x : Int) : Int :=
  if x < b.lo then b.lo else if b.hi < x then b.hi else x

/-- The RH test (R46): whether it passes, and the condition it raises. -/
def rhTest (b : Band) (pred rhNow : Int) : Bool × CondSet :=
  if b.dist pred = 0 then (true, 0)
  else if b.dist pred < b.dist rhNow then (true, condBit .recovery)
  else (false, condBit .refusedRh)

/-! ## The MOIST clamp (R49, R50) -/

/-- The MOIST values −100..100 in ascending order. -/
def moistValues : List Int := (List.range 201).map fun i => (i : Int) - 100

/-- RHpred for a MOIST value, with the transferred RH, the granted MOIST value and the gain (R49). -/
def predWith (trans grantedMoist : Int) (g : Nat) (d : Int) : Int :=
  rhPredict trans (moistureTerm (d - grantedMoist) g)

/-- d_lo: the least MOIST value whose RHpred is at least the band's low end (R49). -/
def moistLow (b : Band) (trans granted : Int) (g : Nat) : Option Int :=
  moistValues.find? fun d => b.lo ≤ predWith trans granted g d

/-- d_hi: the greatest MOIST value whose RHpred is at most the band's high end (R49). -/
def moistHigh (b : Band) (trans granted : Int) (g : Nat) : Option Int :=
  moistValues.reverse.find? fun d => predWith trans granted g d ≤ b.hi

/-- The allowed interval (R49), none when it is empty. -/
def moistInterval (b : Band) (trans granted : Int) (g : Nat) : Option Band :=
  match moistLow b trans granted g, moistHigh b trans granted g with
  | some lo, some hi => if lo ≤ hi then some { lo := lo, hi := hi } else none
  | _, _ => none

/-- The MOIST clamp (R50). -/
def moistClamp (b : Band) (trans granted : Int) (g : Nat) (d : Int) : Int :=
  if g = 0 then d
  else
    match moistInterval b trans granted g with
    | some iv => iv.clamp d
    | none =>
      if b.dist (predWith trans granted g (-100)) < b.dist (predWith trans granted g 100) then -100 else 100

/-! ## Candidates (R40, R41, R53, R54) -/

/-- What a climate candidate reads (R40). -/
structure ClimateInput where
  tNow         : Int
  rhNow        : Int
  extremes     : Slot
  eff          : EffEnvelope
  g            : Nat
  grantedHeat  : Option Int
  grantedMoist : Option Int
  deriving DecidableEq, Repr

/-- What a climate candidate hands back (R54). -/
structure ClimateResult where
  heat  : Option Int
  moist : Option Int
  pass  : Bool
  pred  : Option Int
  conds : CondSet
  deriving DecidableEq, Repr

/-- The granted MOIST demand, an absent grant counting as 0 (R43). -/
def ClimateInput.moistBase (inp : ClimateInput) : Int := inp.grantedMoist.getD 0

/-- The T band of a candidate with a HEAT value (R47). -/
def ClimateInput.tBand (inp : ClimateInput) : Band × Bool :=
  swingBand inp.eff.tLo inp.eff.tHi inp.extremes.tMin inp.extremes.tMax inp.eff.tSwing

/-- The RH band of a candidate (R45). -/
def ClimateInput.rhBand (inp : ClimateInput) : Band × Bool :=
  swingBand inp.eff.rhLo inp.eff.rhHi inp.extremes.rhMin inp.extremes.rhMax inp.eff.rhSwing

/-- T_target (R41), with the HEAT value already clamped. -/
def ClimateInput.target (inp : ClimateInput) (heat : Option Int) : Int :=
  match heat with
  | some h => h
  | none => inp.grantedHeat.getD inp.tNow

/-- The full prediction, in the order of R54. -/
def predictClimate (inp : ClimateInput) (heat moist : Option Int) : ClimateResult :=
  let (band, rhSpent) := inp.rhBand
  let (tBand, tSpent) := inp.tBand
  let heat' := heat.map tBand.clamp
  let target := inp.target heat'
  let trans := rhTrans inp.tNow inp.rhNow target
  let moist' := moist.map (moistClamp band trans inp.moistBase inp.g)
  let m := match moist' with
    | some d => moistureTerm (d - inp.moistBase) inp.g
    | none => 0
  let pred := rhPredict trans m
  let (pass, testConds) := rhTest band pred inp.rhNow
  { heat := heat', moist := moist', pass := pass, pred := some pred,
    conds :=
      condIf rhSpent .swingSpent ||| condIf (heat.isSome && tSpent) .swingSpent ||| condIf (heat' != heat) .clampHeat
        ||| condIf (offTable inp.tNow || offTable target) .tableLimit
        ||| condIf (decide (10000 < rhTransRaw inp.tNow inp.rhNow target) || decide (10000 < trans + m)) .rhSaturated
        ||| condIf (moist' != moist) .clampMoist ||| testConds }

/-- The step range of a HEAT value without a usable estimate (R51). -/
def heatStepRange (lo hi : Int) (granted : Option Int) : Band :=
  match granted with
  | none => { lo := lo, hi := hi }
  | some g =>
    if max (g - 50) lo ≤ min (g + 50) hi then { lo := max (g - 50) lo, hi := min (g + 50) hi }
    else if g < lo then { lo := g + 50, hi := g + 50 }
    else { lo := g - 50, hi := g - 50 }

/-- The blind step of a MOIST value (R52). -/
def moistStep (granted : Option Int) (d : Int) : Int :=
  match granted with
  | none => 0
  | some g => Band.clamp { lo := max (g - 10) (-100), hi := min (g + 10) 100 } d

/-- Blind steps (R51, R52): they always pass and run no prediction. -/
def blindClimate (tLo tHi : Int) (grantedHeat grantedMoist heat moist : Option Int) : ClimateResult :=
  let heat' := heat.map (heatStepRange tLo tHi grantedHeat).clamp
  let moist' := moist.map (moistStep grantedMoist)
  { heat := heat', moist := moist', pass := true, pred := none,
    conds := condIf (heat' != heat || moist' != moist) .blindStep }

/-- The computation of a climate candidate of a zone (R40): the full prediction with a usable estimate, blind steps without.
While the estimate is usable the filtered values and the extremes are present (R40). -/
def State.climateCandidate (s : State) (z : ZoneId) (heat moist : Option Int) : ClimateResult :=
  let zn := s.zone z
  let gh := (zn.chan .heat).granted
  let gm := (zn.chan .moist).granted
  match s.usable z, zn.est.filt, zn.est.extremes with
  | true, some (t, rh), some ext =>
    predictClimate { tNow := t, rhNow := rh, extremes := ext, eff := zn.eff, g := zn.cfg.g, grantedHeat := gh,
                     grantedMoist := gm } heat moist
  | _, _, _ => blindClimate zn.eff.tLo zn.eff.tHi gh gm heat moist

end Sys2Proof.Machine
end

