-- ==== Sys2Proof/Machine/Light.lean ====
section
/-! DEFINITION. Light.lean: the light split and the daylight estimate (R31, R32), the light prediction and the LIGHT and SHADE
clamps (R56 to R61), and the override values of LUX (R138). -/

namespace Sys2Proof.Machine

open Sys2Proof

/-- τ(s): the per-mille transmission of the blind at position s (R31). -/
def tau (tc s : Nat) : Nat := 1000 - s * (1000 - tc) / 100

/-- What a light prediction reads (R56). `shadeNow` is the applied SHADE value, 0 if unknown. -/
structure LightInput where
  d0Status : D0Status
  d0       : Option Nat
  d        : Option Nat
  eFull    : Nat
  tc       : Nat
  ceiling  : Nat
  light    : Nat
  shade    : Nat
  shadeNow : Nat
  deriving DecidableEq, Repr

/-- Dpart(s) (R57). -/
def LightInput.dpart (inp : LightInput) (s : Nat) : Nat :=
  match inp.d0Status with
  | .known | .held => inp.d0.getD 0 * tau inp.tc s / 1000
  | .unknown => inp.d.getD 0

/-- The electric part of the prediction (R57). -/
def LightInput.epart (inp : LightInput) (l : Nat) : Nat := l * inp.eFull / 1000

/-- E_pred(L, s) (R57). -/
def LightInput.epred (inp : LightInput) (l s : Nat) : Nat := inp.dpart s + inp.epart l

/-- DAYLIGHT_HELD, raised by every prediction while D0 is HELD or UNKNOWN (R57). -/
def LightInput.heldCond (inp : LightInput) : CondSet := condIf (inp.d0Status != .known) .daylightHeld

/-- The largest level 0..l with E_pred ≤ C at position s, if there is one (R58). -/
def LightInput.largestLevel (inp : LightInput) (s : Nat) : Nat → Option Nat
  | 0 => if inp.epred 0 s ≤ inp.ceiling then some 0 else none
  | l + 1 => if inp.epred (l + 1) s ≤ inp.ceiling then some (l + 1) else inp.largestLevel s l

/-- The LIGHT clamp (R58): the value, and whether daylight alone is over the ceiling. -/
def LightInput.lightClamp (inp : LightInput) (s lReq : Nat) : Nat × Bool :=
  match inp.largestLevel s lReq with
  | some l => (l, false)
  | none => (0, true)

/-- The closed form of the LIGHT clamp that R58 gives, for E_full > 0 and Dpart(s) ≤ C. -/
def LightInput.closedLevel (inp : LightInput) (s lReq : Nat) : Nat :=
  min lReq (((inp.ceiling - inp.dpart s + 1) * 1000 - 1) / inp.eFull)

/-- The smallest of the `n + 1` positions from `s` on with Dpart ≤ `dmax`, if there is one (R59, R138). -/
def LightInput.smallestShade (inp : LightInput) (dmax : Nat) : Nat → Nat → Option Nat
  | s, 0 => if inp.dpart s ≤ dmax then some s else none
  | s, n + 1 => if inp.dpart s ≤ dmax then some s else inp.smallestShade dmax (s + 1) n

/-- The SHADE clamp while D0 is KNOWN or HELD (R59): the value, and whether it raises DAYLIGHT_OVER. -/
def LightInput.shadeClampKnown (inp : LightInput) (l sReq : Nat) : Nat × Bool :=
  if inp.tc = 1000 then (sReq, decide (inp.ceiling < inp.dpart sReq + inp.epart l))
  else if inp.ceiling < inp.epart l then (100, true)
  else
    match inp.smallestShade (inp.ceiling - inp.epart l) sReq (100 - sReq) with
    | some s => (s, false)
    | none => (100, true)

/-- The probe step while D0 is UNKNOWN (R60). -/
def LightInput.shadeProbe (inp : LightInput) (l sReq : Nat) : Nat × Bool :=
  if inp.ceiling < inp.epart l + inp.d.getD 0 then (100, true) else (max sReq (inp.shadeNow - 10), false)

/-- The SHADE clamp or probe step, whichever the daylight status calls for (R59, R60). -/
def LightInput.shadeClamp (inp : LightInput) (l sReq : Nat) : Nat × Bool :=
  match inp.d0Status with
  | .known | .held => inp.shadeClampKnown l sReq
  | .unknown => inp.shadeProbe l sReq

/-- What a light candidate hands back (R61). -/
structure LightResult where
  light : Option Nat
  shade : Option Nat
  epred : Nat
  conds : CondSet
  deriving DecidableEq, Repr

/-- The computation of a light candidate: SHADE first, with L the LIGHT value requested or in prospect, then LIGHT with the
SHADE value just clamped or in prospect (R61). -/
def LightInput.run (inp : LightInput) (light shade : Option Nat) : LightResult :=
  let sh := shade.map (inp.shadeClamp (light.getD inp.light))
  let s := match sh with
    | some (s, _) => s
    | none => inp.shade
  let li := light.map (inp.lightClamp s)
  let l := match li with
    | some (l, _) => l
    | none => inp.light
  { light := li.map Prod.fst, shade := sh.map Prod.fst, epred := inp.epred l s,
    conds :=
      condIf (li.map Prod.fst != light) .clampLight ||| condIf (sh.map Prod.fst != shade) .clampShade
        ||| condIf ((sh.map Prod.snd).getD false || (li.map Prod.snd).getD false) .daylightOver ||| inp.heldCond }

/-- The value in prospect of a light channel: granted, otherwise applied, otherwise 0 (R56). -/
def Channel.prospect (c : Channel) : Nat :=
  match c.granted, c.applied with
  | some g, _ => g.toNat
  | none, some a => a.toNat
  | none, none => 0

/-- What a light prediction of a zone reads now (R56). -/
def Zone.lightInput (zn : Zone) : LightInput :=
  { d0Status := zn.est.d0Status, d0 := zn.est.d0, d := zn.est.d, eFull := zn.cfg.eFull, tc := zn.cfg.tc,
    ceiling := zn.ceiling, light := (zn.chan .light).prospect, shade := (zn.chan .shade).prospect,
    shadeNow := ((zn.chan .shade).applied.getD 0).toNat }

/-! ## The light split (R31, R32) -/

/-- D at a light sample, from E_meas and the applied LIGHT value (R31). -/
def daylightOf (eFull eMeas : Nat) (appliedLight : Option Int) : Nat :=
  eMeas - (appliedLight.getD 0).toNat * eFull / 1000

/-- D0 and its status after a light sample (R32). -/
def updateD0 (tc d : Nat) (appliedShade : Option Int) (d0 : Option Nat) (status : D0Status) : Option Nat × D0Status :=
  let t := tau tc (appliedShade.getD 0).toNat
  if 50 ≤ t then (some (d * 1000 / t), .known)
  else
    match status with
    | .known | .held => (d0, .held)
    | .unknown => (none, .unknown)

/-! ## The override values of LUX (R138) -/

/-- The LIGHT value of R138 step 1, the SHADE value of step 2 if it computes one, and the conditions raised. -/
def LightInput.overrideValues (inp : LightInput) : Nat × Option Nat × CondSet :=
  let (l, dark) := inp.lightClamp inp.shade inp.light
  if inp.ceiling < inp.dpart inp.shade then
    match inp.smallestShade inp.ceiling 0 100 with
    | some s => (l, some s, condIf dark .daylightOver ||| inp.heldCond)
    | none => (l, some 100, condBit .daylightOver ||| inp.heldCond)
  else (l, none, condIf dark .daylightOver ||| inp.heldCond)

end Sys2Proof.Machine
end

