-- ==== Sys2Proof/Machine/Admission.lean ====
section
/-! DEFINITION. Admission.lean: grants from any source (R87, R96, R97), the effective envelope (R14, R15), the zone ceiling C
(R71, R72), ceiling follow (R94, R95) and pace (R69, R70). These call one another: a change of pace changes C, and a fall of
C makes a grant. -/

namespace Sys2Proof.Machine

open Sys2Proof

/-! ## Grants (R87) -/

/-- A grant from any source: the granted value, then LC, then the GRANT record. -/
def State.grant (s : State) (port : Option PortId) (z : ZoneId) (ch : ChanKind) (requested : Option Int) (v : Int)
    (clamped : Bool) : State :=
  let s := (s.modChan z ch fun c => { c with granted := some v }).handToLoop z ch v
  s.offer (.grant s.clock port z ch requested v clamped)

/-- A grant with the part as source: no port, the value it replaces as the value requested, outcome CLAMPED (R87, R96). -/
def State.grantFromPart (s : State) (z : ZoneId) (ch : ChanKind) (v : Int) : State :=
  s.grant none z ch (s.chan z ch).granted v true

/-! ## Effective envelope (R14, R15) -/

/-- A ceiling at an object's face turned into one at the zone's light sensor (R15). -/
def conv (x w : Nat) : Nat := x * 1000 / w

/-- Whether an object counts in a zone: ON, with its zone field naming the zone (R14). -/
def Object.inZone (ob : Object) (z : ZoneId) : Bool := ob.cfg.use && ob.cfg.zone == z

/-- Narrow an effective envelope by the optional limits of one object (R14, R15). -/
def EffEnvelope.narrow (e : EffEnvelope) (c : ObjConf) : EffEnvelope :=
  { e with
      rhLo := match c.rhBand with
        | some (lo, _) => max e.rhLo lo
        | none => e.rhLo
      rhHi := match c.rhBand with
        | some (_, hi) => min e.rhHi hi
        | none => e.rhHi
      rhSwing := match c.rhSwing with
        | some l => min e.rhSwing l
        | none => e.rhSwing
      lux := match c.luxCeil with
        | some x => if 0 < c.w then min e.lux (conv x c.w) else e.lux
        | none => e.lux }

/-- The effective envelope of a zone as the configuration gives it (R14). -/
def State.effOf (s : State) (z : ZoneId) : EffEnvelope :=
  allObjects.foldl (fun e o => if (s.object o).inZone z then e.narrow (s.object o).cfg else e) (s.zone z).env.alone

/-! ## The zone ceiling (R71) -/

/-- The ceiling an object's pace puts on its zone, at the sensor (R71). -/
def Object.paceCeiling (ob : Object) : Option Nat :=
  if 0 < ob.cfg.w then
    match ob.pace with
    | .onPace => none
    | .ahead => some (conv ob.cfg.restricted ob.cfg.w)
    | .exhausted => some (conv ob.cfg.exhausted ob.cfg.w)
  else none

/-- The lesser of a ceiling and one that may be absent. -/
def minOpt (n : Nat) : Option Nat → Nat
  | some m => min n m
  | none => n

/-- The zone ceiling C as the envelope ceiling and the pace states give it (R71). -/
def State.ceilingOf (s : State) (z : ZoneId) : Nat :=
  allObjects.foldl (fun c o => if (s.object o).inZone z then minOpt c (s.object o).paceCeiling else c) (s.zone z).eff.lux

/-! ## Ceiling follow (R94, R95) -/

/-- The test of R94 for the granted level `g`, with C already the new one and `old` the one it replaces. -/
def State.mustFollow (s : State) (z : ZoneId) (old : Nat) (g : Int) : Bool :=
  let inp := (s.zone z).lightInput
  s.supervised && decide ((s.zone z).ceiling < old) && decide (0 < g) &&
    decide (inp.ceiling < inp.epred g.toNat inp.shade)

/-- Ceiling follow of a zone whose C has replaced `old` (R94, R95). -/
def State.ceilingFollow (s : State) (z : ZoneId) (old : Nat) : State :=
  match (s.chan z .light).granted with
  | none => s
  | some g =>
    if s.mustFollow z old g then
      let inp := (s.zone z).lightInput
      let (l, dark) := inp.lightClamp inp.shade g.toNat
      let conds := condBit .ceilingFollow ||| condBit .clampLight ||| condIf dark .daylightOver ||| inp.heldCond
      (s.recordEvaluation z conds).grantFromPart z .light l
    else s

/-- Recompute C of a zone; a C that changes is handed to ceiling follow (R72). -/
def State.recomputeCeiling (s : State) (z : ZoneId) : State :=
  let c := s.ceilingOf z
  let old := (s.zone z).ceiling
  if c = old then s else (s.modZone z fun zn => { zn with ceiling := c }).ceilingFollow z old

/-! ## Pace (R69, R70) -/

/-- Seconds since the period began (R69 step 1). -/
def State.elapsed (s : State) : Nat := (s.clock.day - s.periodStart) * daySeconds + s.clock.sec

/-- The pace state of R69. -/
def paceFor (consumed allowance slack n elapsed : Nat) : Pace :=
  if allowance ≤ consumed then .exhausted
  else if allowance * elapsed / (n * daySeconds) + allowance * slack / 100 < consumed then .ahead
  else .onPace

/-- The pace state an object has now (R69). -/
def State.paceNow (s : State) (o : ObjId) : Pace :=
  let ob := s.object o
  paceFor ob.acct.consumed ob.cfg.allowance ob.cfg.slack s.periodN s.elapsed

/-- Re-evaluate an object's pace state; a state that changes offers a PACE record and recomputes C of the object's zone if the
object is ON with w > 0 (R70). -/
def State.reevalPace (s : State) (o : ObjId) : State :=
  let ob := s.object o
  let new := s.paceNow o
  if new = ob.pace then s
  else
    let s := s.modObject o fun ob => { ob with pace := new }
    let s := s.offer (.pace s.clock o ob.cfg.zone ob.pace new ob.acct.consumed)
    if ob.cfg.use && decide (0 < ob.cfg.w) then s.recomputeCeiling ob.cfg.zone else s

/-- Re-evaluate every object's pace state, in ascending number. -/
def State.reevalAll (s : State) : State := s.forObjects fun o s => s.reevalPace o

end Sys2Proof.Machine
end

