-- ==== Sys2Proof/Machine/Dose.lean ====
section
/-! DEFINITION. Dose.lean: charges (R63 to R65), rollover (R74) and the store writer's hand-off (R77, R186, R187). -/

namespace Sys2Proof.Machine

open Sys2Proof

/-- The most a consumed dose can be (R62). -/
def maxDose : Nat := 99999999

/-- A charge of `inc` lx·s on an account (R64). -/
def Account.charge (a : Account) (inc : Nat) : Account :=
  { a with consumed := min maxDose (a.consumed + (a.frac + inc) / 3600), frac := (a.frac + inc) % 3600 }

/-- The illuminance on an object's face for `e` lux at the sensor (R63). -/
def faceLux (e w : Nat) : Nat := (e * w + 500) / 1000

/-- Charge an object; a charge that changes consumed re-evaluates its pace state at once (R64). -/
def State.chargeObject (s : State) (o : ObjId) (inc : Nat) : State :=
  let before := (s.object o).acct
  let s := s.modObject o fun ob => { ob with acct := ob.acct.charge inc }
  if (before.charge inc).consumed = before.consumed then s else s.reevalPace o

/-- Charge every ON object of a zone from its horizon to `upTo` at `e` lux, then move the horizon there (R63, R65). -/
def State.chargeZone (s : State) (z : ZoneId) (upTo : GTime) (e : Nat) : State :=
  let dt := upTo.since (s.zone z).horizon
  let s := s.forObjects fun o s =>
    if (s.object o).inZone z then s.chargeObject o (faceLux e (s.object o).cfg.w * dt) else s
  s.modZone z fun zn => { zn with horizon := upTo }

/-- Whether a zone is charged blind at a minute mark: ON, with its light node STALE or ABSENT, or none bound (R65). -/
def State.chargesBlind (s : State) (z : ZoneId) : Bool :=
  (s.zone z).cfg.use &&
    match (s.zone z).cfg.lightNode with
    | some n => (s.node n).state == .stale || (s.node n).state == .absent
    | none => true

/-- The blind charge of a zone that needs one, from its horizon to the mark (R65). A horizon that is past the mark, moved there
after the mark's second by an event taken before the mark, stays: a charge runs forward only (R66). -/
def State.blindCharge (s : State) (z : ZoneId) (mark : GTime) : State :=
  if s.chargesBlind z && (s.zone z).horizon.notAfter mark then
    s.chargeZone z mark (max (s.zone z).ceiling ((s.zone z).est.eMeas.getD 0))
  else s

/-- The rollover of an account: previous becomes consumed, consumed and frac 0 (R74). -/
def Account.rollover (a : Account) : Account := { consumed := 0, frac := 0, previous := a.consumed }

/-- The rollover test and rollover at a day boundary (R74). -/
def State.rollover (s : State) : State :=
  if s.periodN ≤ s.clock.day - s.periodStart then
    let closed := s.objects
    let s := s.forObjects fun o s => s.modObject o fun ob => { ob with acct := ob.acct.rollover }
    let s := s.forObjects fun o s =>
      if closed[o].cfg.use then s.offer (.rollover s.clock o closed[o].cfg.zone closed[o].acct.consumed) else s
    { s with periodStart := s.clock.day }.reevalAll
  else s

/-! ## The store writer (R77, R186, R187) -/

/-- The CONFIG section as its owners hold it now (R186). -/
def State.configImage (s : State) : ConfigImage :=
  { zones := Vector.ofFn fun z => (s.zone z).cfg
    envs := Vector.ofFn fun z => (s.zone z).env
    objects := Vector.ofFn fun o => (s.object o).cfg
    nodes := Vector.ofFn fun n => ((s.node n).kind, (s.node n).code)
    rights := Vector.ofFn fun p => (s.port p).rights
    periodN := s.periodN
    holds := s.holds }

/-- The DOSE section as DI holds it now, with now as the checkpoint time (R77). -/
def State.doseImage (s : State) : DoseImage :=
  { accounts := Vector.ofFn fun o => (s.object o).acct
    periodStart := s.periodStart
    checkpoint := s.clock
    ceilings := Vector.ofFn fun z => (s.zone z).ceiling }

/-- The writer begins the CONFIG part of a full save, which also empties the pending save and checkpoint (R186). -/
def State.beginSave (s : State) : State :=
  { s with store := { s.store with
      config := none, writing := some (.saveConfig s.configImage), pendingSave := false, pendingCheck := false } }

/-- The writer begins a checkpoint (R186). -/
def State.beginCheckpoint (s : State) : State :=
  { s with store := { s.store with
      dose := none, writing := some (.checkpoint s.doseImage), pendingCheck := false } }

/-- A SAVE reaches the writer (R186). -/
def State.requestSave (s : State) : State :=
  if s.store.writing.isSome then { s with store := { s.store with pendingSave := true } } else s.beginSave

/-- A checkpoint reaches the writer (R186). -/
def State.requestCheckpoint (s : State) : State :=
  if s.store.writing.isSome then { s with store := { s.store with pendingCheck := true } } else s.beginCheckpoint

/-- The writer is idle again: a pending full save begins, otherwise a pending checkpoint (R186). -/
def State.nextWrite (s : State) : State :=
  if s.store.pendingSave then s.beginSave
  else if s.store.pendingCheck then s.beginCheckpoint
  else s

/-- A write has ended: the STORE record, STORE_FAULT on every port when it failed, and the next write (R186, R187). -/
def State.endWrite (s : State) (config : Bool) (written : Bool) : State :=
  let s := { s with store := { s.store with writing := none } }
  let s := s.offer (.store s.clock config true written)
  let s := if written then s else s.pendWhere .storeFault fun _ => true
  s.nextWrite

/-- The section being written ends (R187): it is valid in the store if it verified and stays invalid if it did not. -/
def State.endSection (s : State) (verified : Bool) : State :=
  match s.store.writing with
  | none => s
  | some (.saveConfig image) =>
    { s with store := { s.store with
        config := if verified then some image else none
        lastConfig := some verified
        dose := none
        writing := some (.saveDose s.doseImage verified) } }
  | some (.saveDose image configVerified) =>
    { s with store := { s.store with
        dose := if verified then some image else none, lastDose := some verified } }.endWrite true (configVerified && verified)
  | some (.checkpoint image) =>
    { s with store := { s.store with
        dose := if verified then some image else none, lastDose := some verified } }.endWrite false verified

/-- DI's work at a minute mark (R78): blind charges to the mark, rollover at a day boundary, pace, and the checkpoint hand-off at a
quarter-hour. -/
def State.minuteWork (s : State) (mark : GTime) : State :=
  let s := s.forZones fun z s => s.blindCharge z mark
  let s := if mark.isDayStart then s.rollover else s
  let s := s.reevalAll
  if mark.isQuarter then s.requestCheckpoint else s

end Sys2Proof.Machine
end

