-- ==== Sys2Proof/Machine/Excursions.lean ====
section
/-! DEFINITION. Excursions.lean: the excursion monitor (EM): opening and closing, the tests of the six kinds, the corrective
override (R126 to R142), and the recomputation of a zone's effective envelope, whose CONFLICT entry closes band excursions
(R16 to R18). -/

namespace Sys2Proof.Machine

open Sys2Proof

/-- The open excursion of a kind, if any. -/
def Zone.exc (zn : Zone) (k : ExcKind) : Option Excursion := zn.det.exc[excIdx k]

/-- Replace the open excursion of a kind. -/
def State.setExc (s : State) (z : ZoneId) (k : ExcKind) (e : Option Excursion) : State :=
  s.modZone z fun zn => { zn with det := { zn.det with exc := zn.det.exc.set (excIdx k) e } }

/-- The six kinds in the order in which their records are offered (R135). -/
def allKinds : List ExcKind := [.tBand, .rhBand, .tSwing, .rhSwing, .lux, .uv]

/-- An excursion opens (R134): recorded, EXCURSION_OPEN offered, EXCURSION pending on the ports that watch the zone. -/
def State.openExc (s : State) (z : ZoneId) (k : ExcKind) (e : Excursion) : State :=
  ((s.setExc z k (some e)).offer (.excursionOpen z k e.side e.start)).pendZone z .excursion

/-- The override parts that end with an excursion of a kind (R141). -/
def Override.endWith (o : Override) : ExcKind → Override
  | .lux => { o with light := none, shadeLux := none }
  | .uv => { o with shadeUv := none }
  | _ => o

/-- An excursion closes (R135): its override parts end, it becomes absent, EXCURSION_CLOSE is offered, EXCURSION becomes
pending. With no excursion of the kind open nothing happens. -/
def State.closeExc (s : State) (z : ZoneId) (k : ExcKind) (reason : CloseReason) : State :=
  match (s.zone z).exc k with
  | none => s
  | some e =>
    let s := s.modZone z fun zn => { zn with ovr := zn.ovr.endWith k }
    ((s.setExc z k none).offer (.excursionClose s.clock z k e reason)).pendZone z .excursion

/-- A test that keeps an excursion open: peak, side and peak time are replaced by a greater amount (R133). -/
def Excursion.update (e : Excursion) (amount : Nat) (side : Side) (t : GTime) : Excursion :=
  if e.peak < amount then { e with peak := amount, side := side, peakTime := t } else e

/-! ## Effective envelope (R16 to R18) -/

/-- The CONFLICT state follows the effective RH band (R17, R18): on entry CONFLICT is added to the sticky set and the open T_BAND
and RH_BAND excursions close with reason CONFLICT. -/
def State.updateConflict (s : State) (z : ZoneId) : State :=
  let now : Bool := (s.zone z).eff.rhHi < (s.zone z).eff.rhLo
  let was := (s.zone z).conflict
  let s := s.modZone z fun zn => { zn with conflict := now }
  if now && !was then
    ((s.addSticky z .conflict).closeExc z .tBand .conflict).closeExc z .rhBand .conflict
  else s

/-- A zone's effective envelope is replaced whole and handed on: DI recomputes C, ET updates CONFLICT (R16). -/
def State.recomputeZone (s : State) (z : ZoneId) : State :=
  let s := s.modZone z fun zn => { zn with eff := s.effOf z }
  (s.recomputeCeiling z).updateConflict z

/-! ## Band and swing tests (R127, R128) -/

/-- The side and amount by which a value stands beyond a band; none inside it (R133). -/
def beyondBand (lo hi v : Int) : Option (Side × Nat) :=
  if v < lo then some (.low, (lo - v).toNat)
  else if hi < v then some (.high, (v - hi).toNat)
  else none

/-- The margin of a band kind (R127). -/
def bandMargin (k : ExcKind) (lo hi : Int) : Int :=
  min (if k = .tBand then 20 else 100) ((hi - lo) / 2)

/-- The test of a band kind at a filter output (R127). -/
def State.testBand (s : State) (z : ZoneId) (k : ExcKind) (lo hi v : Int) : State :=
  match (s.zone z).exc k with
  | none =>
    match beyondBand lo hi v with
    | some (side, n) => s.openExc z k { start := s.clock, side := side, peak := n, peakTime := s.clock }
    | none => s
  | some e =>
    if lo + bandMargin k lo hi ≤ v ∧ v ≤ hi - bandMargin k lo hi then s.closeExc z k .returned
    else
      match beyondBand lo hi v with
      | some (side, n) => s.setExc z k (some (e.update n side s.clock))
      | none => s

/-- The margin of a swing kind (R128). -/
def swingMargin (k : ExcKind) : Int := if k = .tSwing then 20 else 100

/-- The test of a swing kind (R128). A five-minute mark closes or tracks an excursion and never opens one. -/
def State.testSwing (s : State) (atMark : Bool) (z : ZoneId) (k : ExcKind) (swing limit : Int) : State :=
  match (s.zone z).exc k with
  | none =>
    if limit < swing ∧ atMark = false then
      s.openExc z k { start := s.clock, side := .high, peak := (swing - limit).toNat, peakTime := s.clock }
    else s
  | some e =>
    if swing ≤ max 0 (limit - swingMargin k) then s.closeExc z k .returned
    else s.setExc z k (some (e.update (swing - limit).toNat .high s.clock))

/-- The two swing tests of a zone (R128, R136). -/
def State.testSwings (s : State) (atMark : Bool) (z : ZoneId) : State :=
  match (s.zone z).est.extremes with
  | none => s
  | some x =>
    (s.testSwing atMark z .tSwing (x.tMax - x.tMin) (s.zone z).eff.tSwing).testSwing atMark z .rhSwing (x.rhMax - x.rhMin)
      (s.zone z).eff.rhSwing

/-- EM's tests at a climate filter output, for a zone that is ON with a usable estimate (R127, R128, R136). RH_BAND is not
tested in CONFLICT (R18). -/
def State.testClimate (s : State) (z : ZoneId) : State :=
  if (s.zone z).cfg.use && s.usable z then
    match (s.zone z).est.filt with
    | none => s
    | some (t, rh) =>
      let eff := (s.zone z).eff
      let s := s.testBand z .tBand eff.tLo eff.tHi t
      let s := if (s.zone z).conflict then s else s.testBand z .rhBand eff.rhLo eff.rhHi rh
      s.testSwings false z
  else s

/-! ## Light tests (R129 to R131) -/

/-- The LUX test at a light sample (R129). -/
def State.testLux (s : State) (z : ZoneId) (e : Nat) : State :=
  let zn := s.zone z
  let c := zn.ceiling
  match zn.exc .lux, zn.det.luxPending with
  | some x, _ =>
    if c < e then s.setExc z .lux (some (x.update (e - c) .high s.clock)) else s.closeExc z .lux .returned
  | none, none =>
    if c < e then
      if zn.cfg.lightGrace = 0 then
        s.openExc z .lux { start := s.clock, side := .high, peak := e - c, peakTime := s.clock }
      else
        s.modZone z fun zn =>
          { zn with det := { zn.det with luxPending := some { start := s.clock, peak := e - c, peakTime := s.clock } } }
    else s
  | none, some p =>
    if c < e then
      let p := if p.peak < e - c then { p with peak := e - c, peakTime := s.clock } else p
      if zn.cfg.lightGrace ≤ s.clock.since p.start then
        (s.modZone z fun zn => { zn with det := { zn.det with luxPending := none } }).openExc z .lux
          { start := p.start, side := .high, peak := p.peak, peakTime := p.peakTime }
      else s.modZone z fun zn => { zn with det := { zn.det with luxPending := some p } }
    else s.modZone z fun zn => { zn with det := { zn.det with luxPending := none } }

/-- Replace the one over-sample of the UV count. -/
def State.setUvFirst (s : State) (z : ZoneId) (u : Option UvSample) : State :=
  s.modZone z fun zn => { zn with det := { zn.det with uvFirst := u } }

/-- The UV test at a light sample (R131). -/
def State.testUv (s : State) (z : ZoneId) (uv : Nat) : State :=
  let zn := s.zone z
  let c := zn.eff.uv
  if c < uv then
    match zn.exc .uv, zn.det.uvFirst with
    | some x, _ => s.setExc z .uv (some (x.update (uv - c) .high s.clock))
    | none, none => s.setUvFirst z (some { time := s.clock, amount := uv - c })
    | none, some u =>
      (s.setUvFirst z none).openExc z .uv
        { start := u.time, side := .high,
          peak := max u.amount (uv - c), peakTime := if u.amount < uv - c then s.clock else u.time }
  else (s.setUvFirst z none).closeExc z .uv .returned

/-! ## Corrective override (R137 to R142) -/

/-- The SHADE override in force: the more closed of the parts present (R137). -/
def Override.shade (o : Override) : Option Nat :=
  match o.shadeLux, o.shadeUv with
  | some a, some b => some (max a b)
  | some a, none => some a
  | none, b => b

/-- The new parts of an override computation, from the parts held, the kinds open and the values of R138 (R139). -/
def Override.tighten (o : Override) (luxOpen uvOpen : Bool) (light : Nat) (shade : Option Nat) : Override :=
  { light := if luxOpen then some (minOpt light o.light) else none
    shadeLux :=
      if luxOpen then
        match shade, o.shadeLux with
        | some a, some b => some (max a b)
        | some a, none => some a
        | none, b => b
      else none
    shadeUv := if uvOpen then some 100 else none }

/-- Whether an override value enters a channel as a grant: the granted value is absent, or brighter or more open (R97). -/
def overrides (ch : ChanKind) (value : Nat) (granted : Option Int) : Bool :=
  match granted with
  | none => true
  | some g => match ch with
    | .light => decide ((value : Int) < g)
    | _ => decide (g < (value : Int))

/-- An override value enters its channel (R97). -/
def State.enterOverride (s : State) (z : ZoneId) (ch : ChanKind) (value : Option Nat) : State :=
  match value with
  | none => s
  | some v => if overrides ch v (s.chan z ch).granted then s.grantFromPart z ch v else s

/-- The override computation of a zone after a light sample's tests (R139): made in SUPERVISED, in a zone that is ON, while LUX or
UV is open. Parts that all stand as they were make no evaluation. DEDUCED: while LUX is open its DAYLIGHT_OVER and DAYLIGHT_HELD are
raised at every computation that changes a part, also at one that changes the UV part alone; R139 speaks of the computation that
set or tightened a part and does not say of which excursion (notes/assumptions/38.md). -/
def State.computeOverride (s : State) (z : ZoneId) : State :=
  let zn := s.zone z
  let luxOpen := (zn.exc .lux).isSome
  let uvOpen := (zn.exc .uv).isSome
  if s.supervised && zn.cfg.use && (luxOpen || uvOpen) then
    let (l, sh, conds) := zn.lightInput.overrideValues
    let new := zn.ovr.tighten luxOpen uvOpen l sh
    if new = zn.ovr then s
    else
      let grantsShade := match new.shade with
        | some v => overrides .shade v (zn.chan .shade).granted
        | none => false
      let grantsLight := match new.light with
        | some v => overrides .light v (zn.chan .light).granted
        | none => false
      let s := s.modZone z fun zn => { zn with ovr := new }
      let s := s.recordEvaluation z
        (condIf grantsShade .clampShade ||| condIf grantsLight .clampLight ||| (if luxOpen then conds else 0))
      (s.enterOverride z .shade new.shade).enterOverride z .light new.light
  else s

end Sys2Proof.Machine
end

