-- ==== Sys2Proof/Machine/Readings.lean ====
section
/-! DEFINITION. Readings.lean: the zone estimator's (ZE) intake of climate and light samples (R21 to R36) and the swing ring at a
five-minute mark (R26). -/

namespace Sys2Proof.Machine

open Sys2Proof

/-! ## The filter and the ring (R22, R25, R26) -/

/-- k of a filter code (R22). -/
def filterK (code : Nat) : Int :=
  match code with
  | 0 => 256
  | 1 => 128
  | 2 => 64
  | 3 => 32
  | 4 => 16
  | _ => 8

/-- The step of the filter toward a sample (R22). -/
def filterStep (k d : Int) : Int :=
  if d = 0 then 0
  else
    let n := (|d| * k + 128) / 256
    if n = 0 then d.sign else d.sign * n

/-- A filtered value after a sample (R22). -/
def filterUpdate (k y x : Int) : Int := y + filterStep k (x - y)

/-- A filter output acts on the ring: the current slot is created, seeded or widened (R25). -/
def widenRing (ring : List (Option Slot)) (t rh : Int) : List (Option Slot) :=
  match ring.getLast? with
  | none => [some (Slot.point t rh)]
  | some none => ring.dropLast ++ [some (Slot.point t rh)]
  | some (some cur) => ring.dropLast ++ [some (cur.join (Slot.point t rh))]

/-- The most slots a ring holds (R24). -/
def ringLimit : Nat := 12

/-- The ring after a five-minute mark, and whether a slot was removed (R26). -/
def markRing (ring : List (Option Slot)) : List (Option Slot) × Bool :=
  if ring.isEmpty then ([], false)
  else if ringLimit < (ring ++ [none]).length then ((ring ++ [none]).drop 1, true)
  else (ring ++ [none], false)

/-- ZE takes a climate sample: raw values, filter or seeding, ring (R21 steps 1 to 3, R22, R23, R25). -/
def Estimate.takeClimate (e : Estimate) (filterCode : Nat) (t rh : Int) : Estimate :=
  let k := filterK filterCode
  let (ft, frh) := match e.seeded, e.filt with
    | true, some (ft, frh) => (filterUpdate k ft t, filterUpdate k frh rh)
    | _, _ => (t, rh)
  { e with raw := some (t, rh), filt := some (ft, frh), seeded := true, ring := widenRing e.ring ft frh }

/-- ZE takes a light sample: E_meas, UV, saturated, D and D0 (R30 to R32). -/
def Estimate.takeLight (e : Estimate) (eFull tc : Nat) (light shade : Option Int) (lux uv : Nat) : Estimate :=
  let d := daylightOf eFull lux light
  let (d0, st) := updateD0 tc d shade e.d0 e.d0Status
  { e with eMeas := some lux, uv := some uv, saturated := lux == 65535, d := some d, d0 := d0, d0Status := st }

/-! ## Sample records (R35) -/

/-- A sample counter at an accepted sample with decimation `n`: its new value, and whether a record is offered (R35). -/
def countSample (n count : Nat) : Nat × Bool :=
  if n = 0 then (0, false)
  else if n ≤ count + 1 then (0, true)
  else (count + 1, false)

/-- Count a climate sample and offer its record when the decimation calls for one (R35). -/
def State.countClimate (s : State) (z : ZoneId) : State :=
  let zn := s.zone z
  let (count, offers) := countSample zn.cfg.climateDec zn.est.climateCount
  let s := s.modZone z fun zn => { zn with est := { zn.est with climateCount := count } }
  match offers, zn.est.filt with
  | true, some (t, rh) => s.offerClimateSample z s.clock t rh (if zn.cfg.raw then zn.est.raw else none)
  | _, _ => s

/-- Count a light sample and offer its record when the decimation calls for one (R35). -/
def State.countLight (s : State) (z : ZoneId) : State :=
  let zn := s.zone z
  let (count, offers) := countSample zn.cfg.lightDec zn.est.lightCount
  let s := s.modZone z fun zn => { zn with est := { zn.est with lightCount := count } }
  match offers, zn.est.eMeas, zn.est.uv with
  | true, some e, some uv => s.offerLightSample z s.clock e uv zn.est.saturated
  | _, _, _ => s

/-! ## Samples -/

/-- An accepted climate sample of a zone (R21): RH held to 10000, ZE, then EM, then OQ. -/
def State.climateSample (s : State) (z : ZoneId) (t rh : Int) : State :=
  let s := s.modZone z fun zn => { zn with est := zn.est.takeClimate zn.cfg.filterCode t (min 10000 rh) }
  (s.testClimate z).countClimate z

/-- An accepted light sample of a zone (R30, R34): UV held to 2000, ZE, then DI, then EM with the override computation, then
OQ. DI and EM take it only while the zone is ON. -/
def State.lightSample (s : State) (z : ZoneId) (e uv : Nat) : State :=
  let uv := min 2000 uv
  let ePrev := (s.zone z).est.eMeas.getD e
  let s := s.modZone z fun zn =>
    { zn with est := zn.est.takeLight zn.cfg.eFull zn.cfg.tc (zn.chan .light).applied (zn.chan .shade).applied e uv }
  let s :=
    if (s.zone z).cfg.use then
      (((s.chargeZone z s.clock (max ePrev e)).testLux z e).testUv z uv).computeOverride z
    else s
  s.countLight z

/-- A five-minute mark in one zone: the ring, then the swing tests if a slot was removed, in a zone that is ON with a usable
estimate (R26, R128). -/
def State.markZone (s : State) (z : ZoneId) : State :=
  let (ring, removed) := markRing (s.zone z).est.ring
  let s := s.modZone z fun zn => { zn with est := { zn.est with ring := ring } }
  if removed && (s.zone z).cfg.use && s.usable z then s.testSwings true z else s

end Sys2Proof.Machine
end

