-- ==== Sys2Proof/Machine/LoopEvents.lean ====
section
/-! DEFINITION. LoopEvents.lean: the loop arbiter and the outcomes of READ, COMMAND and STATUS (R143, R144, R148 to R154). -/

namespace Sys2Proof.Machine

open Sys2Proof

/-! ## The arbiter (R154) -/

/-- A waiting transaction that the arbiter may begin. -/
inductive Choice where
  | command (z : ZoneId) (ch : ChanKind) (n : NodeId) (v : Int)
  | status (n : NodeId)
  | read (n : NodeId)
  deriving DecidableEq, Repr

/-- The COMMAND of a channel of the command list, if it is still eligible: its node addressable and a value pending. -/
def State.commandOf (s : State) (zc : ZoneId × ChanKind) : Option Choice :=
  if s.addressable zc.1 zc.2 then
    match s.actNode zc.1 zc.2, (s.chan zc.1 zc.2).pending with
    | some n, some v => some (.command zc.1 zc.2 n v)
    | _, _ => none
  else none

/-- Whether a node's STATUS waits: an actuator bound to an addressable channel, in the waiting set (R154). -/
def State.statusWaits (s : State) (n : NodeId) : Bool :=
  (s.node n).waiting &&
    match s.boundChan n with
    | some (z, ch) => s.addressable z ch
    | none => false

/-- Whether a node's READ waits: a sensor whose code is above 0, in the waiting set (R154). -/
def State.readWaits (s : State) (n : NodeId) : Bool :=
  (s.node n).waiting && isSensor (s.node n).kind && decide (0 < (s.node n).code)

/-- A node's due time as seconds, for the order of R154. -/
def State.dueSeconds (s : State) (n : NodeId) : Nat := ((s.node n).due.map GTime.toSeconds).getD 0

/-- The node with the earliest due time among those that wait, and among equal due times the lowest address (R154). -/
def State.earliest (s : State) (waits : NodeId → Bool) : Option NodeId :=
  allNodes.foldl (fun best n =>
    if waits n then
      match best with
      | none => some n
      | some b => if s.dueSeconds n < s.dueSeconds b then some n else some b
    else best) none

/-- What the arbiter begins next (R154): a COMMAND, otherwise a STATUS, otherwise a READ. -/
def State.choice (s : State) : Option Choice :=
  match s.commands.findSome? s.commandOf with
  | some c => some c
  | none =>
    match s.earliest s.statusWaits with
    | some n => some (.status n)
    | none => (s.earliest s.readWaits).map .read

/-- The command list without the channels at its head that are no longer eligible. -/
def State.pruneCommands (s : State) : State :=
  { s with commands := s.commands.dropWhile fun zc => (s.commandOf zc).isNone }

/-- Put a transaction on the loop. -/
def State.putOnLoop (s : State) (n : NodeId) (op : LoopOp) (v : Int) : State :=
  { s with txn := some { node := n, op := op, value := v, abandoned := false } }

/-- Begin the chosen transaction (R143, R151, R154). A COMMAND's channel stays in the list with its sent value set; a STATUS or
READ leaves the waiting set. -/
def State.begin (s : State) : Choice → State
  | .command z ch n v =>
    (s.modChan z ch fun c => { c with sent := some v, replaced := false }).putOnLoop n .command v
  | .status n => (s.modNode n fun nd => { nd with waiting := false }).putOnLoop n .status 0
  | .read n => (s.modNode n fun nd => { nd with waiting := false }).putOnLoop n .read 0

/-! ## READ (R148) -/

/-- The stale limit of a node: that of the zone that binds it, or 4 (R148). -/
def State.staleLimit (s : State) (n : NodeId) : Nat :=
  match s.boundZone n with
  | some z => (s.zone z).cfg.staleLimit
  | none => 4

/-- The state of a sensor after a failed READ, with its miss count raised (R148). -/
def missState (st : NodeState) (misses limit : Nat) : NodeState :=
  match st with
  | .fresh | .late => if limit ≤ misses then .stale else .late
  | st => st

/-- The next due time after a READ: the later of the previous due time plus the period and now; none while the code is 0
(R148). -/
def State.rescheduleRead (s : State) (n : NodeId) : State :=
  let nd := s.node n
  if nd.code = 0 then s
  else s.setDue n (((nd.due.getD s.clock).plus (pollPeriod nd.code)).later s.clock)

/-- A READ ends (R148): the node's counts and state, its next due time, then the values to the zone that binds it (R21, R30). -/
def State.endRead (s : State) (n : NodeId) (data : Option ReplyData) : State :=
  match data with
  | none =>
    let misses := min 16 ((s.node n).misses + 1)
    let st := missState (s.node n).state misses (s.staleLimit n)
    ((s.modNode n fun nd => { nd with misses := misses }).setNodeState n st).rescheduleRead n
  | some d =>
    let s := ((s.modNode n fun nd => { nd with misses := 0 }).setNodeState n .fresh).rescheduleRead n
    match d, s.boundAt n with
    | .climate t rh, some (z, 2) => s.climateSample z t rh
    | .light e uv, some (z, 3) => s.lightSample z e uv
    | _, _ => s

/-! ## Actuators (R151 to R153) -/

/-- The most failures before a node is SILENT (R152). -/
def silentLimit : Nat := 4

/-- An answered STATUS or COMMAND makes the node READY with count 0 (R152); a node that was SILENT has its regular polls again,
the first `statusPeriod` after the answer (R153), and a value pending on its channel joins the command list. -/
def State.nodeAnswered (s : State) (n : NodeId) : State :=
  let silent := (s.node n).state == .silent
  let s := (s.modNode n fun nd => { nd with attempts := 0, retry := none }).setNodeState n .ready
  if silent then
    let s := s.setDue n (s.clock.plus statusPeriod)
    match s.boundChan n with
    | some (z, ch) => if (s.chan z ch).pending.isSome then s.enlist z ch else s
    | none => s
  else s

/-- A failed STATUS or COMMAND raises the attempt count; at four the node becomes SILENT, its channel leaves the command list
and its retry is 10 s away, as after each failed retry (R152). A SILENT node has no status due time (R153). -/
def State.nodeFailed (s : State) (n : NodeId) : State :=
  let attempts := min silentLimit ((s.node n).attempts + 1)
  let s := s.modNode n fun nd => { nd with attempts := attempts }
  if silentLimit ≤ attempts then
    let s := s.setNodeState n .silent
    let s := s.modNode n fun nd =>
      { nd with due := none, waiting := false, retry := some (s.clock.plus retryPeriod) }
    match s.boundChan n with
    | some (z, ch) => s.delist z ch
    | none => s
  else s

/-- A COMMAND ends (R151). -/
def State.endCommand (s : State) (n : NodeId) (data : Option ReplyData) : State :=
  match s.boundChan n with
  | none => s
  | some (z, ch) =>
    let c := s.chan z ch
    match data with
    | some (.value v) =>
      let s := s.modChan z ch fun c => { c with applied := some v }
      let s := if c.sent = some v then s else s.addSticky z .actLimited
      let s := if c.replaced then s else (s.modChan z ch fun c => { c with pending := none }).delist z ch
      let s := s.modChan z ch fun c => { c with sent := none, replaced := false }
      (s.nodeAnswered n).setDue n (s.clock.plus statusPeriod)
    | _ => (s.modChan z ch fun c => { c with sent := none, replaced := false }).nodeFailed n

/-- The status due time after the outcome of a STATUS: the later of the previous due time plus 5 s and now (R153). -/
def State.rescheduleStatus (s : State) (n : NodeId) : State :=
  s.setDue n ((((s.node n).due.getD s.clock).plus statusPeriod).later s.clock)

/-- A STATUS ends (R153). -/
def State.endStatus (s : State) (n : NodeId) (data : Option ReplyData) : State :=
  match s.boundChan n with
  | none => s
  | some (z, ch) =>
    let wasSilent := (s.node n).state == .silent
    match data with
    | some (.value v) =>
      let moved := match (s.chan z ch).applied with
        | some a => decide (a ≠ v)
        | none => false
      let s := if moved then s.addSticky z .actLimited else s
      let s := s.modChan z ch fun c => { c with applied := some v }
      let s := s.nodeAnswered n
      if wasSilent then s else s.rescheduleStatus n
    | _ =>
      let s := s.nodeFailed n
      if (s.node n).state == .silent then s else s.rescheduleStatus n

/-! ## The end of a transaction (R143, R144) -/

/-- The transaction under way ends with an outcome, and the loop is free. -/
def State.endTransaction (s : State) (t : Transaction) (data : Option ReplyData) : State :=
  let s := { s with txn := none }
  match t.op with
  | .read => s.endRead t.node data
  | .command => s.endCommand t.node data
  | .status => s.endStatus t.node data

end Sys2Proof.Machine
end

