-- ==== Sys2Proof/Machine/Links.lean ====
section
/-! DEFINITION. Links.lean: responses and refusals of PI (R88, R171, R175), the evaluation of a candidate (R83, R84, R109), and the
linked set: its break (R107) and its close (R108 to R110). -/

namespace Sys2Proof.Machine

open Sys2Proof

/-! ## Responses and refusals -/

/-- A response joins the port's unsent responses (R171). -/
def State.respond (s : State) (p : PortId) (tag : Byte) (st : Status) (payload : List Byte) : State :=
  s.modPort p fun pt => { pt with tx := pt.tx ++ [{ tag := tag, status := st, payload := payload }] }

/-- The port's refusal record is replaced and its refusals counter rises (R175). -/
def State.noteRefusal (s : State) (p : PortId) (cmd : Byte) (zone : Option ZoneId) (ch : Option ChanKind) (code : Status) :
    State :=
  s.modPort p fun pt =>
    { pt with
        refusal := some { cmd := cmd, zone := zone, ch := ch, code := code, time := s.clock }
        refusals := bump 1 pt.refusals }

/-- A request other than SET_POINT is refused: the refusal record, and a response with no payload (R175, R180). -/
def State.refuse (s : State) (p : PortId) (f : Frame) (code : Status) : State :=
  (s.noteRefusal p f.cmd (namedBy f).1 (namedBy f).2 code).respond p f.tag code []

/-- The command code of SET_POINT (R181). -/
def setPointCmd : Byte := 0x01

/-- The zone and channel a refused SET_POINT's response names: as requested, or none for BAD_ARG, also for a BAD_ARG at check 5,
whose records name them (R85, R88). -/
def refusalChan (chan : Option (ZoneId × ChanKind)) (code : Status) : Option (ZoneId × ChanKind) :=
  if code = .badArg then none else chan

/-- The payload of a SET_POINT response (R85): zone, channel, value granted, conditions. -/
def setPointPayload (chan : Option (ZoneId × ChanKind)) (granted : Option Int) (conds : CondSet) : List Byte :=
  [finOpt (chan.map Prod.fst), chanOpt (chan.map Prod.snd)] ++ s2opt granted ++ u2 conds.toNat

/-- A SET_POINT that stands for itself is refused (R88): the REFUSAL record, the port's refusal record, the response. -/
def State.refuseSetPoint (s : State) (p : PortId) (tag : Byte) (chan : Option (ZoneId × ChanKind)) (requested : Option Int)
    (code : Status) (conds : CondSet) : State :=
  ((s.offer (.refusal s.clock p chan requested code)).noteRefusal p setPointCmd (chan.map Prod.fst) (chan.map Prod.snd)
    code).respond p tag code (setPointPayload (refusalChan chan code) none conds)

/-! ## Breaks (R104 to R107) -/

/-- A held member of a set that breaks: its REFUSAL record and its LINK_BROKEN response (R107). -/
def State.breakMember (s : State) (p : PortId) (zone : Option ZoneId) (m : Member) : State :=
  let chan := zone.map fun z => (z, m.ch)
  (s.offer (.refusal s.clock p chan (some m.value) .linkBroken)).respond p m.tag .linkBroken (setPointPayload chan none 0)

/-- A port's link record closes. -/
def State.dropLink (s : State) (p : PortId) : State := s.modPort p fun pt => { pt with link := none }

/-- A port's linked set breaks (R107). The refusal record is replaced once, with the last member held, unless a SET_POINT that
has its own refusal there caused the break. With no set open nothing happens. -/
def State.breakLink (s : State) (p : PortId) (bySetPoint : Bool) : State :=
  match (s.port p).link with
  | none => s
  | some l =>
    let s := l.members.foldl (fun s m => s.breakMember p l.zone m) (s.dropLink p)
    match bySetPoint, l.members.getLast? with
    | false, some m => s.noteRefusal p setPointCmd l.zone (some m.ch) .linkBroken
    | _, _ => s

/-! ## Checks 2, 3, 4 and 6 (R80 to R82, R108) -/

/-- Whether a channel is one of the two climate channels. -/
def isClimate : ChanKind → Bool
  | .heat | .moist => true
  | .light | .shade => false

/-- Checks 2 to 4: the channel bound in a zone that is ON, the right held, and tenure, which a pass takes if it is free and
refreshes. The code is that of the check that fails. -/
def State.standing (s : State) (p : PortId) (z : ZoneId) (ch : ChanKind) : State × Option Status :=
  if !(s.zone z).cfg.use || ((s.zone z).cfg.act ch).isNone then (s, some .noChannel)
  else if !s.may p z (chanRight ch) then (s, some .noRight)
  else
    match s.tenureCheck p z ch with
    | none => (s, some .notTenured)
    | some s' => (s', none)

/-- Check 6: HEAT and MOIST are refused in a zone in CONFLICT (R82). -/
def State.inConflict (s : State) (z : ZoneId) (ch : ChanKind) : Bool := isClimate ch && (s.zone z).conflict

/-! ## The evaluation of a candidate (R83, R84, R109) -/

/-- Values for the channels of one zone: those requested, or those that come out. -/
structure Setpoints where
  heat  : Option Int
  moist : Option Int
  shade : Option Int
  light : Option Int
  deriving DecidableEq, Repr

/-- The value for a channel. -/
def Setpoints.get (v : Setpoints) : ChanKind → Option Int
  | .heat => v.heat
  | .moist => v.moist
  | .shade => v.shade
  | .light => v.light

/-- A candidate with one value. -/
def Setpoints.only (ch : ChanKind) (x : Int) : Setpoints :=
  match ch with
  | .heat => { heat := some x, moist := none, shade := none, light := none }
  | .moist => { heat := none, moist := some x, shade := none, light := none }
  | .shade => { heat := none, moist := none, shade := some x, light := none }
  | .light => { heat := none, moist := none, shade := none, light := some x }

/-- A value held to its channel's range (R83 step 1). -/
def rangeClamp (ch : ChanKind) (v : Int) : Int := max (chanRange ch).1 (min (chanRange ch).2 v)

/-- Every value held to its channel's range. -/
def Setpoints.ranged (v : Setpoints) : Setpoints :=
  { heat := v.heat.map (rangeClamp .heat), moist := v.moist.map (rangeClamp .moist), shade := v.shade.map (rangeClamp .shade),
    light := v.light.map (rangeClamp .light) }

/-- The clamp conditions of the values that differ between two candidates. -/
def Setpoints.clamps (a b : Setpoints) : CondSet :=
  condIf (a.heat != b.heat) .clampHeat ||| condIf (a.moist != b.moist) .clampMoist |||
    condIf (a.shade != b.shade) .clampShade ||| condIf (a.light != b.light) .clampLight

/-- A LIGHT value under an active override (R84): never brighter than it. -/
def Override.capLight (o : Override) (v : Int) : Int :=
  match o.light with
  | some x => min v x
  | none => v

/-- A SHADE value under an active override (R84): never more open than it. -/
def Override.capShade (o : Override) (v : Int) : Int :=
  match o.shade with
  | some x => max v x
  | none => v

/-- The outcome of an evaluation: the final values, whether the RH result passes, and the conditions raised. -/
structure Evaluation where
  values : Setpoints
  pass   : Bool
  conds  : CondSet
  deriving DecidableEq, Repr

/-- The climate computation of a candidate (R109 step 2): none is made without a HEAT or MOIST value. -/
def State.climatePart (s : State) (z : ZoneId) (v : Setpoints) : ClimateResult :=
  if v.heat.isSome || v.moist.isSome then s.climateCandidate z v.heat v.moist
  else { heat := none, moist := none, pass := true, pred := none, conds := 0 }

/-- The light computation of a candidate (R109 step 3): the SHADE and LIGHT values and the conditions; none is made without
either. -/
def State.lightPart (s : State) (z : ZoneId) (v : Setpoints) : Option Int × Option Int × CondSet :=
  if v.shade.isSome || v.light.isSome then
    let r := (s.zone z).lightInput.run (v.light.map Int.toNat) (v.shade.map Int.toNat)
    (r.shade.map Int.ofNat, r.light.map Int.ofNat, r.conds)
  else (none, none, 0)

/-- Range clamp, climate, light, RH result and override cap, in the order of R109 (R83, R84 for a candidate of one value). A
candidate that fails at the RH result does not reach the cap. -/
def State.evaluate (s : State) (z : ZoneId) (v : Setpoints) : Evaluation :=
  let r := v.ranged
  let cl := s.climatePart z r
  let (shade, light, lightConds) := s.lightPart z r
  let o := (s.zone z).ovr
  let uncapped : Setpoints := { heat := cl.heat, moist := cl.moist, shade := shade, light := light }
  let capped := { uncapped with shade := shade.map o.capShade, light := light.map o.capLight }
  let conds := v.clamps r ||| cl.conds ||| lightConds
  if cl.pass then
    { values := capped, pass := true, conds := conds ||| condIf (capped != uncapped) .overrideCap }
  else { values := uncapped, pass := false, conds := conds }

/-! ## A SET_POINT alone (R82 to R88) -/

/-- The outcome of a grant to a port: DONE when the value is the one sent (R85). -/
def grantStatus (requested granted : Int) : Status := if granted = requested then .done else .clamped

/-- A SET_POINT with no set open, past check 4: check 6, the evaluation, and the grant or the refusal with its response. -/
def State.admitAlone (s : State) (p : PortId) (tag : Byte) (z : ZoneId) (ch : ChanKind) (v : Int) : State :=
  if s.inConflict z ch then s.refuseSetPoint p tag (some (z, ch)) (some v) .conflict 0
  else
    let e := s.evaluate z (.only ch v)
    let s := s.recordEvaluation z e.conds
    if e.pass then
      let g := (e.values.get ch).getD v
      (s.grant (some p) z ch (some v) g (decide (g ≠ v))).respond p tag (grantStatus v g)
        (setPointPayload (some (z, ch)) (some g) e.conds)
    else s.refuseSetPoint p tag (some (z, ch)) (some v) .rhPredict e.conds

/-! ## The close (R108 to R110) -/

/-- The order in which a set's members are re-checked, granted and refused (R108, R110). -/
def closeOrder : List ChanKind := [.heat, .moist, .shade, .light]

/-- The held member for a channel. -/
def LinkRecord.member (l : LinkRecord) (ch : ChanKind) : Option Member := l.members.find? fun m => m.ch == ch

/-- The members in the order of the close. -/
def LinkRecord.ordered (l : LinkRecord) : List Member := closeOrder.filterMap l.member

/-- The values the members ask for. -/
def LinkRecord.values (l : LinkRecord) : Setpoints :=
  { heat := (l.member .heat).map Member.value, moist := (l.member .moist).map Member.value,
    shade := (l.member .shade).map Member.value, light := (l.member .light).map Member.value }

/-- The re-checks of a set (R108): the state they leave, and the channel and code of the member that fails, if one does. -/
def State.recheck (p : PortId) (z : ZoneId) : List Member → State → State × Option (ChanKind × Status)
  | [], s => (s, none)
  | m :: ms, s =>
    match s.standing p z m.ch with
    | (s, some code) => (s, some (m.ch, code))
    | (s, none) => if s.inConflict z m.ch then (s, some (m.ch, .conflict)) else State.recheck p z ms s

/-- The code with which a member of a refused set is refused (R110). -/
def memberCode (culprit : ChanKind) (code : Status) (m : Member) : Status := if m.ch = culprit then code else .linkRefused

/-- A set refused whole (R110): a REFUSAL record for each member in the order of the close, the refusal record with the culprit's
refusal, and the responses in arrival order. -/
def State.refuseLinked (s : State) (p : PortId) (z : ZoneId) (l : LinkRecord) (culprit : ChanKind) (code : Status)
    (conds : CondSet) : State :=
  let s := l.ordered.foldl (fun s m =>
    s.offer (.refusal s.clock p (some (z, m.ch)) (some m.value) (memberCode culprit code m))) s
  let s := s.noteRefusal p setPointCmd (some z) (some culprit) code
  l.members.foldl (fun s m =>
    s.respond p m.tag (memberCode culprit code m) (setPointPayload (some (z, m.ch)) none conds)) s

/-- A set granted whole (R110): the grants in the order of the close, and the responses in arrival order. -/
def State.grantLinked (s : State) (p : PortId) (z : ZoneId) (l : LinkRecord) (e : Evaluation) : State :=
  let final : Member → Int := fun m => (e.values.get m.ch).getD m.value
  let s := l.ordered.foldl (fun s m => s.grant (some p) z m.ch (some m.value) (final m) (decide (final m ≠ m.value))) s
  l.members.foldl (fun s m =>
    s.respond p m.tag (grantStatus m.value (final m)) (setPointPayload (some (z, m.ch)) (some (final m)) e.conds)) s

/-- The culprit of a set refused at the RH result: the MOIST member if there is one, otherwise the HEAT member (R110). -/
def LinkRecord.rhCulprit (l : LinkRecord) : ChanKind := if (l.member .moist).isSome then .moist else .heat

/-- A set with at least one member closes: one zone evaluation of its zone (R108 to R110). -/
def State.closeMembers (s : State) (p : PortId) (z : ZoneId) (l : LinkRecord) : State :=
  match State.recheck p z l.ordered (s.modZone z fun zn => { zn with cause := 0 }) with
  | (s, some (culprit, code)) => s.refuseLinked p z l culprit code 0
  | (s, none) =>
    let e := s.evaluate z l.values
    let s := s.recordEvaluation z e.conds
    if e.pass then s.grantLinked p z l e else s.refuseLinked p z l l.rhCulprit .rhPredict e.conds

/-- A port's linked set closes (R102, R108). A set with no members ends there. -/
def State.closeLink (s : State) (p : PortId) : State :=
  match (s.port p).link with
  | none => s
  | some l =>
    match l.zone, l.members with
    | some z, _ :: _ => (s.closeMembers p z l).dropLink p
    | _, _ => s.dropLink p

/-- A request the port has taken is counted against its open set; at 0 the set closes (R102). -/
def State.countRequest (s : State) (p : PortId) : State :=
  match (s.port p).link with
  | none => s
  | some l =>
    if l.remaining ≤ 1 then s.closeLink p
    else s.modPort p fun pt => { pt with link := some { l with remaining := l.remaining - 1 } }

/-! ## Taking a request (R102, R171, R172) -/

/-- A frame has left a port's request queue, of which `rest` remains, and is counted (R171, R175). -/
def State.taken (s : State) (p : PortId) (rest : List Frame) : State :=
  s.modPort p fun pt => { pt with queue := rest, taken := bump 1 pt.taken }

/-- PI takes the frame at the head of a port's queue if it is of the row given. None when no such frame stands there. -/
def State.takeFrame (s : State) (p : PortId) (row : ReqRow) : Option (Frame × State) :=
  match (s.port p).queue with
  | [] => none
  | f :: rest => if rowOf f = row then some (f, s.taken p rest) else none

/-- A request other than SET_POINT and LINK is taken, served at once, and counted against the port's open set (R102). With no
frame of the row at the head of the queue the command cannot arise, and nothing happens. -/
def State.serve (s : State) (p : PortId) (row : ReqRow) (handle : Frame → State → State) : State :=
  match s.takeFrame p row with
  | some (f, s) => (handle f s).countRequest p
  | none => s

/-- An accepted request is answered. -/
def State.answer (s : State) (p : PortId) (f : Frame) (st : Status) (payload : List Byte) : State :=
  s.respond p f.tag st payload

/-- A system command: a port without the CONSERVATION role is answered ROLE (R172). -/
def State.asSystem (s : State) (p : PortId) (f : Frame) (act : State → State) : State :=
  if s.isConservation p then act s else s.refuse p f .role

/-- A request whose payload must name something: BAD_ARG when it does not (R172 step 3, R181). -/
def State.withArg {α : Type} (s : State) (p : PortId) (f : Frame) (arg : Option α) (act : α → State → State) : State :=
  match arg with
  | none => s.refuse p f .badArg
  | some a => act a s

/-- A request that needs a right in a zone (R174). -/
def State.withRight (s : State) (p : PortId) (f : Frame) (z : ZoneId) (r : Right) (act : State → State) : State :=
  if s.may p z r then act s else s.refuse p f .noRight

/-- A request that needs a subscription (R166 to R168). -/
def State.withSub (s : State) (p : PortId) (f : Frame) (act : Subscription → State → State) : State :=
  match (s.port p).sub with
  | none => s.refuse p f .notSubscribed
  | some sub => act sub s

end Sys2Proof.Machine
end

