-- ==== Sys2Proof/Machine/Receiver.lean ====
section
/-! DEFINITION. Receiver.lean: the port receivers, the request queue's intake and the response line (R170, R171, R176): the commands
FRAME, INTER_BYTE_GAP, RESPONSE_SENT and ATTENTION_PULSE_END. -/

namespace Sys2Proof.Machine

open Sys2Proof

/-- The receiver of a port takes a new position. -/
def State.setReceiver (s : State) (p : PortId) (rx : Receiver) : State := s.modPort p fun pt => { pt with rx := rx }

/-- A discard (R170): the receiver idle, the discard counter raised, an open linked set broken. -/
def State.discard (s : State) (p : PortId) : State :=
  (s.modPort p fun pt => { pt with rx := .idle, discards := bump 1 pt.discards }).breakLink p false

/-- The most frames a request queue holds (R171). -/
def queueLimit : Nat := 6

/-- A received frame (R171): queued, or answered PORT_FULL at once, with the refusal record naming neither zone nor channel and an
open linked set broken after the response. -/
def State.receiveFrame (s : State) (p : PortId) (f : Frame) : State :=
  if (s.port p).queue.length < queueLimit then s.modPort p fun pt => { pt with queue := pt.queue ++ [f] }
  else
    (((s.modPort p fun pt => { pt with portFull := bump 1 pt.portFull }).noteRefusal p f.cmd none none .portFull).respond p
      f.tag .portFull []).breakLink p false

/-- Whether a LEN byte lies in 2..247 (R170). -/
def goodLen (len : Byte) : Bool := 2 ≤ len.toNat && len.toNat ≤ 247

/-- The last byte of a frame has come: the CRC decides between received and discarded (R170, R180). `rest` is all after LEN. -/
def State.endFrame (s : State) (p : PortId) (len : Byte) (rest : List Byte) : State :=
  let body := rest.take len.toNat
  if rest.drop len.toNat = u2 (crc16 (len :: body)) then
    match body with
    | tag :: cmd :: payload => (s.setReceiver p .idle).receiveFrame p { tag := tag, cmd := cmd, payload := payload }
    | _ => s.discard p
  else s.discard p

/-- The bytes of a frame so far, since the start byte, are looked at (R170). -/
def State.takeBytes (s : State) (p : PortId) : List Byte → State
  | [] => s
  | len :: rest =>
    if !goodLen len then s.discard p
    else if rest.length < len.toNat + 2 then s.setReceiver p (.inFrame (len :: rest))
    else s.endFrame p len rest

/-- One byte on a port (R170). -/
def State.takeByte (s : State) (p : PortId) (b : Byte) : State :=
  match (s.port p).rx with
  | .idle => if b = startByte then s.setReceiver p (.inFrame []) else s
  | .inFrame bs => s.takeBytes p (bs ++ [b])

/-- FRAME: bytes arrive on a port, one after another (R170, R171). -/
def execFrame (p : PortId) (bytes : List Byte) (s : State) : Host.Outcome State Fault Refusal :=
  .next (bytes.foldl (fun s b => s.takeByte p b) s)

/-- INTER_BYTE_GAP: 20 ms have passed since the last byte; a frame under way is discarded (R170). -/
def execInterByteGap (p : PortId) (s : State) : Host.Outcome State Fault Refusal :=
  match (s.port p).rx with
  | .idle => .next s
  | .inFrame _ => .next (s.discard p)

/-- RESPONSE_SENT: the response on the line has gone, and the next one starts (R171). -/
def execResponseSent (p : PortId) (s : State) : Host.Outcome State Fault Refusal :=
  .next (s.modPort p fun pt => { pt with tx := pt.tx.drop 1 })

/-- ATTENTION_PULSE_END: the pulse on the attention line is over (R176). -/
def execAttentionPulseEnd (p : PortId) (s : State) : Host.Outcome State Fault Refusal :=
  .next (s.modPort p fun pt => { pt with pulse := false })

end Sys2Proof.Machine
end

