-- ==== Sys2Proof/Machine/Setpoints.lean ====
section
/-! DEFINITION. Setpoints.lean: the commands SET_POINT, LINK, LINK_TIMEOUT, CLEAR_CONDITIONS and BAD_CMD (R79 to R111, R172). -/

namespace Sys2Proof.Machine

open Sys2Proof

/-- Whether a SET_POINT on a channel fails check 5 against an open set: another zone, or a channel a member names already
(R103). -/
def LinkRecord.rejects (l : LinkRecord) (z : ZoneId) (ch : ChanKind) : Bool :=
  (match l.zone with
    | some z' => z' != z
    | none => false) || (l.member ch).isSome

/-- A SET_POINT that becomes a member of an open set is held, and counted (R102, R103). -/
def State.holdMember (s : State) (p : PortId) (l : LinkRecord) (z : ZoneId) (m : Member) : State :=
  (s.modPort p fun pt => { pt with link := some { l with zone := some z, members := l.members ++ [m] } }).countRequest p

/-- A SET_POINT past checks 1 to 4: check 5 against an open set, or the rest of its admission alone (R82, R103, R104). -/
def State.setPointStanding (s : State) (p : PortId) (tag : Byte) (z : ZoneId) (ch : ChanKind) (v : Int) : State :=
  match (s.port p).link with
  | none => s.admitAlone p tag z ch v
  | some l =>
    if l.rejects z ch then (s.refuseSetPoint p tag (some (z, ch)) (some v) .badArg 0).breakLink p true
    else s.holdMember p l z { tag := tag, ch := ch, value := v }

/-- A SET_POINT that PI has taken: R79, then checks 1 to 4, each failure of which breaks an open set (R80, R81, R104). -/
def State.setPointRequest (s : State) (p : PortId) (f : Frame) : State :=
  match setPointOf? f.payload with
  | none => (s.refuseSetPoint p f.tag none (setPointValue f.payload) .badArg 0).breakLink p true
  | some (z, ch, v) =>
    if !s.supervised then (s.refuseSetPoint p f.tag (some (z, ch)) (some v) .standby 0).breakLink p true
    else
      match s.standing p z ch with
      | (s, some code) => (s.refuseSetPoint p f.tag (some (z, ch)) (some v) code 0).breakLink p true
      | (s, none) => s.setPointStanding p f.tag z ch v

/-- SET_POINT (R79 to R89, R103, R104). -/
def execSetPoint (p : PortId) (s : State) : Host.Outcome State Fault Refusal :=
  match s.takeFrame p .setPoint with
  | some (f, s) => .next (s.setPointRequest p f)
  | none => .next s

/-- Seconds of running time from a LINK to the expiry of its set (R105). -/
def linkSeconds : Nat := 2

/-- The link record after a LINK of count `n` at the second `now` of the crystal (R101). -/
def linkAfter (old : Option LinkRecord) (n now : Nat) : LinkRecord :=
  match old with
  | none => { remaining := n, zone := none, members := [], expiry := now + linkSeconds }
  | some l => { l with remaining := n, expiry := now + linkSeconds }

/-- A LINK whose count is out of range (R101): refused; an open set stays open, its expiry moves and the request is counted. -/
def State.linkBadArg (s : State) (p : PortId) (f : Frame) : State :=
  let s := s.refuse p f .badArg
  (s.modPort p fun pt => { pt with link := pt.link.map fun l => { l with expiry := s.crystal + linkSeconds } }).countRequest p

/-- A LINK that PI has taken (R101). -/
def State.linkRequest (s : State) (p : PortId) (f : Frame) : State :=
  match linkOf? f.payload with
  | none => s.linkBadArg p f
  | some n =>
    if !s.supervised then s.refuse p f .standby
    else (s.modPort p fun pt => { pt with link := some (linkAfter pt.link n s.crystal) }).answer p f .done []

/-- LINK (R101). -/
def execLink (p : PortId) (s : State) : Host.Outcome State Fault Refusal :=
  match s.takeFrame p .link with
  | some (f, s) => .next (s.linkRequest p f)
  | none => .next s

/-- Whether a port's open set has reached the second of its expiry (R105). -/
def State.linkExpired (s : State) (p : PortId) : Bool :=
  match (s.port p).link with
  | some l => decide (l.expiry ≤ s.crystal)
  | none => false

/-- LINK_TIMEOUT: an open set reaches its expiry and breaks (R105). With no set open, or before the second in which the expiry lies,
the timeout cannot arise, and nothing happens. -/
def execLinkTimeout (p : PortId) (s : State) : Host.Outcome State Fault Refusal :=
  .next (if s.linkExpired p then s.breakLink p false else s)

/-- CLEAR_CONDITIONS (R93). -/
def execClearConditions (p : PortId) (s : State) : Host.Outcome State Fault Refusal :=
  .next (s.serve p .clearConditions fun f s =>
    s.withArg p f (clearOf? f.payload) fun (z, cs) s =>
      s.withRight p f z .envelope fun s =>
        let s := s.modZone z fun zn => { zn with sticky := zn.sticky &&& ~~~cs }
        s.answer p f .done (u2 (s.zone z).sticky.toNat))

/-- BAD_CMD: a command code that is none of those of R181 (R172 step 1). -/
def execBadCmd (p : PortId) (s : State) : Host.Outcome State Fault Refusal :=
  .next (s.serve p .badCmd fun f s => s.refuse p f .badCmd)

end Sys2Proof.Machine
end

