-- ==== Sys2Proof/Machine/Tenure.lean ====
section
/-! DEFINITION. Tenure.lean: the commands TAKE_TENURE, RELEASE_TENURE, TENURE_LAPSE and SET_HOLD (R112 to R125). -/

namespace Sys2Proof.Machine

open Sys2Proof

/-- What TAKE_TENURE and RELEASE_TENURE responses carry: the holder and the wait list as they stand (R115, R118). -/
def tenureBytes (c : Channel) : List Byte := finOpt c.holder :: waitBytes c.waiters

/-- A TAKE_TENURE on a channel's record, and its status (R115, R117). The preempt flag of a port other than the conservation port
counts as clear. -/
def State.takeChannel (s : State) (p : PortId) (z : ZoneId) (ch : ChanKind) (preempt : Bool) : State × Status :=
  match (s.chan z ch).holder with
  | none => (s.changeHolder z ch (some p) .take, .done)
  | some q =>
    if q = p then (s, .done)
    else if preempt && s.isConservation p then (s.preempt p z ch, .done)
    else (s.modChan z ch fun c => { c with waiters := s.insertWaiter p c.waiters }, .waiting)

/-- TAKE_TENURE (R115). The lapse that a joining waiter brings on is taken after the answer (R120). -/
def execTakeTenure (p : PortId) (s : State) : Host.Outcome State Fault Refusal :=
  .next (s.serve p .takeTenure fun f s =>
    s.withArg p f (takeOf? f.payload) fun (z, ch, preempt) s =>
      s.withRight p f z (chanRight ch) fun s =>
        let (s, st) := s.takeChannel p z ch preempt
        let s := s.answer p f st (tenureBytes (s.chan z ch))
        if st = .waiting then s.takeLapse z ch else s)

/-- A RELEASE_TENURE on a channel's record (R118). -/
def State.releaseChannel (s : State) (p : PortId) (z : ZoneId) (ch : ChanKind) : State :=
  if (s.chan z ch).holder = some p then s.passOn z ch .release
  else s.modChan z ch fun c => { c with waiters := c.waiters.filter (· != p) }

/-- RELEASE_TENURE (R118). -/
def execReleaseTenure (p : PortId) (s : State) : Host.Outcome State Fault Refusal :=
  .next (s.serve p .releaseTenure fun f s =>
    s.withArg p f (releaseOf? f.payload) fun (z, ch) s =>
      let s := s.releaseChannel p z ch
      s.answer p f .done (tenureBytes (s.chan z ch)))

/-- TENURE_LAPSE: TA takes the lapse of a channel, if all of its conditions hold (R120). -/
def execTenureLapse (z : ZoneId) (ch : ChanKind) (s : State) : Host.Outcome State Fault Refusal := .next (s.takeLapse z ch)

/-- SET_HOLD (R119). Channels whose holder has been idle for the new time lapse straight after it is taken (R120). -/
def execSetHold (p : PortId) (s : State) : Host.Outcome State Fault Refusal :=
  .next (s.serve p .setHold fun f s =>
    s.asSystem p f fun s =>
      s.withArg p f (setHoldOf? f.payload) fun (ch, n) s =>
        let s := { s with holds := s.holds.set (chanIdx ch) n }
        (s.answer p f .done []).forZones fun z s => s.takeLapse z ch)

end Sys2Proof.Machine
end

