-- ==== Sys2Proof/Machine/Writes.lean ====
section
/-! DEFINITION. Writes.lean: the commands WRITE_ZONE, WRITE_ENVELOPE and WRITE_OBJECT, and what an accepted write hands on (R5 to
R12, R16, R120, R157). -/

namespace Sys2Proof.Machine

open Sys2Proof

/-! ## WRITE_ZONE (R6 to R9) -/

/-- The node kind a zone field requires (R6). -/
def fieldKind (n : Nat) : Option NodeKind :=
  match n with
  | 2 => some .climateSensor
  | 3 => some .lightSensor
  | 4 => some .lightAct
  | 5 => some .shadeAct
  | 6 => some .heatAct
  | 7 => some .moistAct
  | _ => none

/-- The node a zone record's node field holds (R1). -/
def ZoneRec.nodeAt (r : ZoneRec) (n : Nat) : Option NodeId :=
  match n with
  | 2 => r.climateNode
  | 3 => r.lightNode
  | 4 => r.lightAct
  | 5 => r.shadeAct
  | 6 => r.heatAct
  | 7 => r.moistAct
  | _ => none

/-- The cross-checks of R6 for one named field: a node of the kind required that no other zone binds. -/
def State.nodeFieldOk (s : State) (z : ZoneId) (new : ZoneRec) (n : Nat) : Bool :=
  match new.nodeAt n with
  | none => true
  | some nd =>
    decide (some (s.node nd).kind = fieldKind n) && allZones.all fun z' => z' == z || ((s.zone z').cfg.fieldOf nd).isNone

/-- A zone is turned OFF (R8, R157): EM closes its excursions and clears the rest, AU drops the grants, LC stops addressing its
actuators. Called with the old record still in force, so that LC acts on the nodes bound so far. -/
def State.turnOff (s : State) (z : ZoneId) : State :=
  let s := allKinds.foldl (fun s k => s.closeExc z k .zoneOff) s
  let s := s.modZone z fun zn =>
    { zn with det := .default, ovr := .empty, chans := Vector.ofFn fun i => { zn.chans[i] with granted := none } }
  s.stopZone z

/-- A zone is turned ON (R9, R120): horizon to now, detection afresh, last activities now. -/
def State.turnOn (s : State) (z : ZoneId) : State :=
  (s.modZone z fun zn => { zn with horizon := s.clock, det := .default, ovr := .empty }).touchZone z

/-- A channel's actuator node field changes from `old` to `new` (R7, R120, R157). Called with the new record in force. -/
def State.rebind (s : State) (z : ZoneId) (ch : ChanKind) (old new : Option NodeId) : State :=
  if old = new then s
  else
    let s := s.dropChannel z ch
    let s := match old with
      | some n => (s.abandon n).clearTimes n
      | none => s
    match new with
    | none => s
    | some n =>
      let s := if (s.zone z).cfg.use && s.supervised then s.makeActuatorDue n else s
      if old.isNone then s.touch z ch else s

/-- The effects of a changed sensor field or decimation on ZE and EM (R7, R130). -/
def State.sensorChanges (s : State) (z : ZoneId) (old new : ZoneRec) : State :=
  let s := if old.climateNode = new.climateNode then s else s.unseed z
  let s :=
    if old.lightNode = new.lightNode then s
    else (s.modZone z fun zn => { zn with est := { zn.est with d0 := none, d0Status := .unknown } }).dropPendingLight z
  s.modZone z fun zn =>
    { zn with est := { zn.est with
        climateCount := if old.climateDec = new.climateDec then zn.est.climateCount else 0
        lightCount := if old.lightDec = new.lightDec then zn.est.lightCount else 0 } }

/-- An accepted WRITE_ZONE that names a field (R7): the record, the changed fields handed on, and the recomputation of R16. -/
def State.applyZone (s : State) (z : ZoneId) (new : ZoneRec) : State :=
  let old := (s.zone z).cfg
  let s := if old.use && !new.use then s.turnOff z else s
  let s := s.modZone z fun zn => { zn with cfg := new }
  let s := if !old.use && new.use then s.turnOn z else s
  let s := s.forChans fun ch s => s.rebind z ch (old.act ch) (new.act ch)
  let s := if !old.use && new.use && s.supervised then s.makeZoneDue z else s
  (s.sensorChanges z old new).recomputeZone z

/-! ## The shape of the three writes (R5) -/

/-- Steps 3 to 7 of R5 for a record of type `α`: the ENVELOPE right is checked by the caller; the fields are read, the
cross-check made, the write applied, and the record answered as it then stands. -/
def State.writeFields {α : Type} (s : State) (p : PortId) (f : Frame) (mask : Nat) (fields : List Byte)
    (field : Nat → List Byte → α → Option (α × List Byte)) (held : α) (ok : α → Bool) (apply : α → State → State)
    (bytes : State → List Byte) : State :=
  match readFields field (namedFields mask) fields held with
  | none => s.refuse p f .badArg
  | some new =>
    if ok new then
      let s := apply new s
      s.answer p f .done (bytes s)
    else s.refuse p f .badArg

/-- A WRITE_ZONE that PI has taken (R5 to R9). -/
def State.writeZoneRequest (s : State) (p : PortId) (f : Frame) : State :=
  match f.payload with
  | target :: h :: l :: fields =>
    match zoneOf? target with
    | none => s.refuse p f .badArg
    | some z =>
      let bytes : State → List Byte := fun s => zoneRecBytes (s.zone z).cfg
      if u16 h l = 0 then s.withRight p f z .observe fun s => s.answer p f .done (bytes s)
      else s.withRight p f z .envelope fun s =>
        s.writeFields p f (u16 h l) fields zoneField (s.zone z).cfg
          (fun new => (namedFields (u16 h l)).all fun n => s.nodeFieldOk z new n) (fun new s => s.applyZone z new) bytes
  | _ => s.refuse p f .badArg

/-- WRITE_ZONE (R5 to R9). -/
def execWriteZone (p : PortId) (s : State) : Host.Outcome State Fault Refusal :=
  .next (s.serve p .writeZone fun f s => s.writeZoneRequest p f)

/-! ## WRITE_ENVELOPE (R10) -/

/-- The cross-check of R10: no inverted band in the envelope the write would leave. -/
def Envelope.ordered (e : Envelope) : Bool := decide (e.tLo ≤ e.tHi) && decide (e.rhLo ≤ e.rhHi)

/-- An accepted WRITE_ENVELOPE that names a field (R10, R16). -/
def State.applyEnvelope (s : State) (z : ZoneId) (new : Envelope) : State :=
  (s.modZone z fun zn => { zn with env := new }).recomputeZone z

/-- A WRITE_ENVELOPE that PI has taken (R5, R10). -/
def State.writeEnvelopeRequest (s : State) (p : PortId) (f : Frame) : State :=
  match f.payload with
  | target :: h :: l :: fields =>
    match zoneOf? target with
    | none => s.refuse p f .badArg
    | some z =>
      let bytes : State → List Byte := fun s => envelopeBytes (s.zone z).env
      if u16 h l = 0 then s.withRight p f z .observe fun s => s.answer p f .done (bytes s)
      else s.withRight p f z .envelope fun s =>
        s.writeFields p f (u16 h l) fields envelopeField (s.zone z).env Envelope.ordered
          (fun new s => s.applyEnvelope z new) bytes
  | _ => s.refuse p f .badArg

/-- WRITE_ENVELOPE (R5, R10). -/
def execWriteEnvelope (p : PortId) (s : State) : Host.Outcome State Fault Refusal :=
  .next (s.serve p .writeEnvelope fun f s => s.writeEnvelopeRequest p f)

/-! ## WRITE_OBJECT (R11, R12) -/

/-- Whether a port holds the ENVELOPE right that a WRITE_OBJECT needs: in the object's present zone, and in the zone the write
names (R11). -/
def State.mayWriteObject (s : State) (p : PortId) (o : ObjId) (mask : Nat) (fields : List Byte) : Bool :=
  s.may p (s.object o).cfg.zone .envelope &&
    match namedObjectZone mask fields with
    | some z => s.may p z .envelope
    | none => true

/-- The zones an object write touches: the zone it was in, and the zone it is in now if that is another (R12, R16). -/
def touchedZones (old new : ObjConf) : List ZoneId := if old.zone = new.zone then [old.zone] else [old.zone, new.zone]

/-- Whether a write changed what the zone ceiling takes from an object (R12, R72). -/
def ceilingInputs (old new : ObjConf) : Bool :=
  old.use != new.use || old.w != new.w || old.restricted != new.restricted || old.exhausted != new.exhausted ||
    old.zone != new.zone

/-- An accepted WRITE_OBJECT that names a field (R12): the record, the envelopes of the zones it touches, the pace state if A or S
changed, and C of those zones. -/
def State.applyObject (s : State) (o : ObjId) (new : ObjConf) : State :=
  let old := (s.object o).cfg
  let zones := touchedZones old new
  let s := s.modObject o fun ob => { ob with cfg := new }
  let s := zones.foldl (fun s z => s.recomputeZone z) s
  let s := if old.allowance = new.allowance ∧ old.slack = new.slack then s else s.reevalPace o
  if ceilingInputs old new then zones.foldl (fun s z => s.recomputeCeiling z) s else s

/-- A WRITE_OBJECT that PI has taken (R5, R11, R12). -/
def State.writeObjectRequest (s : State) (p : PortId) (f : Frame) : State :=
  match f.payload with
  | target :: h :: l :: fields =>
    match objOf? target with
    | none => s.refuse p f .badArg
    | some o =>
      let bytes : State → List Byte := fun s => objConfBytes (s.object o).cfg
      if u16 h l = 0 then s.withRight p f (s.object o).cfg.zone .observe fun s => s.answer p f .done (bytes s)
      else if s.mayWriteObject p o (u16 h l) fields then
        s.writeFields p f (u16 h l) fields objectField (s.object o).cfg (fun _ => true) (fun new s => s.applyObject o new) bytes
      else s.refuse p f .noRight
  | _ => s.refuse p f .badArg

/-- WRITE_OBJECT (R5, R11, R12). -/
def execWriteObject (p : PortId) (s : State) : Host.Outcome State Fault Refusal :=
  .next (s.serve p .writeObject fun f s => s.writeObjectRequest p f)

end Sys2Proof.Machine
end

