-- ==== Sys2Proof/Machine/Reads.lean ====
section
/-! DEFINITION. Reads.lean: the commands READ_OBJECT, READ_ZONE, READ_NODE, READ_PORT and READ_SYSTEM: what each carries, in the order
of its rule and the widths of R180 (R13, R37, R125, R158, R178, R179). -/

namespace Sys2Proof.Machine

open Sys2Proof

/-! ## READ_OBJECT (R13) -/

/-- The lesser of two values that may be absent. -/
def minOfOpts : Option Nat → Option Nat → Option Nat
  | some a, some b => some (min a b)
  | some a, none => some a
  | none, b => b

/-- The face ceiling in force, as the sensor-side value the object contributes to its zone now (R13 item 5). -/
def Object.contribution (ob : Object) : Option Nat :=
  if ob.cfg.use && decide (0 < ob.cfg.w) then minOfOpts (ob.cfg.luxCeil.map fun x => conv x ob.cfg.w) ob.paceCeiling
  else none

/-- The contribution in two bytes, none as 0xFFFF (R180); what stands for one above 65535 is a free value. -/
def contributionBytes : Option Nat → List Byte
  | some n => u2 (if n < 0x10000 then n else Config.wideCeiling n)
  | none => u2 0xFFFF

/-- The payload of READ_OBJECT (R13). -/
def Object.readBytes (ob : Object) : List Byte :=
  objConfBytes ob.cfg ++ u4 ob.acct.consumed ++ u2 ob.acct.frac ++ u4 ob.acct.previous ++ [u1 (paceCode ob.pace)] ++
    contributionBytes ob.contribution

/-- READ_OBJECT (R13). -/
def execReadObject (p : PortId) (s : State) : Host.Outcome State Fault Refusal :=
  .next (s.serve p .readObject fun f s =>
    s.withArg p f (match f.payload with | [b] => objOf? b | _ => none) fun o s =>
      s.withRight p f (s.object o).cfg.zone .observe fun s => s.answer p f .done (s.object o).readBytes)

/-! ## READ_ZONE (R37, R125, R178) -/

/-- A node field as READ_ZONE reports it: its address or none, then its state as LC holds it, if a node is bound. -/
def State.nodeBytes (s : State) (n : Option NodeId) : List Byte :=
  nodeOpt n :: presence (fun n => [u1 (nodeStateCode (s.node n).state)]) n

/-- Group 1, the estimate (R37). -/
def State.estimateBytes (s : State) (z : ZoneId) : List Byte :=
  let e := (s.zone z).est
  s2opt (e.filt.map Prod.fst) ++ rh2opt (e.filt.map Prod.snd) ++ flag1 e.seeded ++ flag1 (s.usable z) ++
    s2opt (e.raw.map Prod.fst) ++ rh2opt (e.raw.map Prod.snd) ++ s.nodeBytes (s.zone z).cfg.climateNode

/-- Group 2, the ring (R37). Where the ring holds no non-empty slot the source byte is 1, also when no filtered values stand in and
the extremes are absent: the reference names no value there, and this one is the model's (DESIGN CHOICE, notes/assumptions/20.md). -/
def Estimate.ringBytes (e : Estimate) : List Byte :=
  let x := e.extremes
  s2opt (x.map Slot.tMin) ++ s2opt (x.map Slot.tMax) ++ rh2opt (x.map Slot.rhMin) ++ rh2opt (x.map Slot.rhMax) ++
    u2 e.ring.length ++ [if (ringSpan e.ring).isSome then 0 else 1]

/-- A lux figure that can hold 65535: a presence byte, then two bytes, 0xFFFF when absent (R180). -/
def luxBytes (v : Option Nat) : List Byte := flag1 v.isSome ++ u2opt v

/-- D0: four bytes, none as 0xFFFFFFFF (R180). -/
def d0Bytes : Option Nat → List Byte
  | some d => u4 d
  | none => u4 0xFFFFFFFF

/-- Group 3, light (R37). -/
def State.lightBytes (s : State) (z : ZoneId) : List Byte :=
  let e := (s.zone z).est
  luxBytes e.eMeas ++ u2opt e.uv ++ flag1 e.saturated ++ luxBytes e.d ++ d0Bytes e.d0 ++ [u1 (d0Code e.d0Status)] ++
    s.nodeBytes (s.zone z).cfg.lightNode

/-- The override a channel is under (R137). -/
def Override.on (o : Override) : ChanKind → Option Nat
  | .light => o.light
  | .shade => o.shade
  | .heat => none
  | .moist => none

/-- The kinds that hold a channel's override: LUX bit 0, UV bit 1 (R137, R180). -/
def Override.holders (o : Override) : ChanKind → Nat
  | .light => if o.light.isSome then 1 else 0
  | .shade => (if o.shadeLux.isSome then 1 else 0) + (if o.shadeUv.isSome then 2 else 0)
  | .heat => 0
  | .moist => 0

/-- One channel of group 4 (R125, R178). -/
def State.channelBytes (s : State) (z : ZoneId) (ch : ChanKind) : List Byte :=
  let c := s.chan z ch
  let o := (s.zone z).ovr
  s2opt c.granted ++ s2opt c.applied ++ s2opt c.pending ++ [finOpt c.holder] ++ waitBytes c.waiters ++
    u4 (min 0xFFFFFFFF (s.idleTime z ch)) ++ s2opt ((o.on ch).map Int.ofNat) ++ [u1 (o.holders ch)]

/-- Group 5, the envelope (R178). -/
def Zone.envelopeGroup (zn : Zone) : List Byte :=
  s2 zn.eff.tLo ++ s2 zn.eff.tHi ++ s2 zn.eff.rhLo ++ s2 zn.eff.rhHi ++ s2 zn.eff.tSwing ++ s2 zn.eff.rhSwing ++
    u2 zn.eff.uv ++ u2 zn.eff.lux ++ u2 zn.ceiling ++ flag1 zn.conflict

/-- One kind of group 7 (R133): the open excursion, or absent. -/
def excursionBytes (k : ExcKind) (e : Excursion) : List Byte :=
  timeBytes e.start ++ [kindSide k e.side] ++ u2 e.peak ++ timeBytes e.peakTime

/-- Group 7, excursions (R178). -/
def Zone.excursionGroup (zn : Zone) : List Byte :=
  allKinds.flatMap (fun k => presence (excursionBytes k) (zn.exc k)) ++
    presence (fun (q : LuxPending) => timeBytes q.start ++ u2 q.peak ++ timeBytes q.peakTime) zn.det.luxPending ++
    u2 (if zn.det.uvFirst.isSome then 1 else 0)

/-- One group of READ_ZONE, numbered from 0 as in the group mask (R178, R180). -/
def State.zoneGroup (s : State) (z : ZoneId) (g : Nat) : List Byte :=
  match g with
  | 0 => s.estimateBytes z
  | 1 => (s.zone z).est.ringBytes
  | 2 => s.lightBytes z
  | 3 => allChans.flatMap fun ch => s.channelBytes z ch
  | 4 => (s.zone z).envelopeGroup
  | 5 => u2 (s.zone z).cause.toNat ++ u2 (s.zone z).sticky.toNat
  | 6 => (s.zone z).excursionGroup
  | _ => []

/-- The payload of READ_ZONE: each group named, in order (R178). -/
def State.zoneBytes (s : State) (z : ZoneId) (mask : Byte) : List Byte :=
  (List.range 7).flatMap fun g => if mask.getLsbD g then s.zoneGroup z g else []

/-- READ_ZONE (R178). -/
def execReadZone (p : PortId) (s : State) : Host.Outcome State Fault Refusal :=
  .next (s.serve p .readZone fun f s =>
    s.withArg p f (readZoneOf? f.payload) fun (z, mask) s =>
      s.withRight p f z .observe fun s => s.answer p f .done (s.zoneBytes z mask))

/-! ## READ_NODE (R158) -/

/-- The zone and node field that bind a node: the zone and the field's number, or none and 0 (R158). -/
def bindingBytes : Option (ZoneId × Nat) → List Byte
  | some (z, field) => [u1 z.val, u1 field]
  | none => [0xFF, 0]

/-- What READ_NODE carries of an actuator after its state (R158 item 5). What it shows between a retry taken and its outcome is
the model's choice (notes/assumptions/37.md). -/
def State.actuatorBytes (s : State) (n : NodeId) : List Byte :=
  let nd := s.node n
  let time := if nd.retry.isSome then nd.retry else nd.due
  u2 nd.attempts ++ timeOptBytes time ++
    match s.boundChan n with
    | some (z, ch) =>
      let c := s.chan z ch
      s2opt c.pending ++ s2opt c.sent ++ s2opt c.applied
    | none => []

/-- The payload of READ_NODE (R158). -/
def State.nodeReadBytes (s : State) (n : NodeId) : List Byte :=
  let nd := s.node n
  [u1 (kindCode nd.kind), u1 nd.code] ++ bindingBytes (s.boundAt n) ++
    match nd.kind with
    | .none => [0]
    | .climateSensor | .lightSensor => [1, u1 (nodeStateCode nd.state)] ++ u2 nd.misses ++ timeOptBytes nd.due
    | .lightAct | .shadeAct | .heatAct | .moistAct => [1, u1 (nodeStateCode nd.state)] ++ s.actuatorBytes n

/-- A READ_NODE that PI has taken: the OBSERVE right is needed in the zone that binds the node, if one does (R158). -/
def State.readNodeRequest (s : State) (p : PortId) (f : Frame) : State :=
  s.withArg p f (match f.payload with | [b] => nodeOf? b.toNat | _ => none) fun n s =>
    match s.boundZone n with
    | some z => s.withRight p f z .observe fun s => s.answer p f .done (s.nodeReadBytes n)
    | none => s.answer p f .done (s.nodeReadBytes n)

/-- READ_NODE (R158). -/
def execReadNode (p : PortId) (s : State) : Host.Outcome State Fault Refusal :=
  .next (s.serve p .readNode fun f s => s.readNodeRequest p f)

/-! ## READ_PORT (R179) -/

/-- The least and the most milliseconds that can still run to an expiry `d` seconds of the crystal ahead: a set's 2 s began within
its second, and now lies within its own (R105). -/
def linkBounds (d : Nat) : Nat × Nat :=
  match d with
  | 0 => (0, 1000)
  | 1 => (0, 2000)
  | _ => (1000, 2000)

/-- The milliseconds still to run to a set's expiry, as far as the seconds fix them; the rest is the free value `raw`. -/
def linkLeft (expiry now raw : Nat) : Nat :=
  if expiry < now then 0
  else
    let b := linkBounds (expiry - now)
    b.1 + raw % (b.2 - b.1 + 1)

/-- A link record as READ_PORT carries it, with the milliseconds given (R180). -/
def linkBytes (ms : Nat) : Option LinkRecord → List Byte
  | none => [0]
  | some l =>
    [1, u1 l.remaining, finOpt l.zone] ++ u2 ms ++ [u1 l.members.length] ++
      l.members.flatMap fun m => [m.tag, u1 (chanIdx m.ch).val] ++ s2 m.value

/-- The milliseconds READ_PORT reports for a port's link record; the free value is the one due now. -/
def State.linkMillis (s : State) (q : PortId) : Nat :=
  match (s.port q).link with
  | some l => linkLeft l.expiry s.crystal (Config.linkMillis s.draws)
  | none => 0

/-- A refusal record as READ_PORT carries it (R175, R180). -/
def refusalBytes (r : RefusalRecord) : List Byte :=
  [r.cmd, finOpt r.zone, chanOpt r.ch, u1 (statusCode r.code)] ++ timeBytes r.time

/-- A port's subscription, watermark, unread bytes, unread record count, lost count and watch (R179). -/
def State.subBytes (s : State) (q : PortId) : List Byte :=
  let sub := (s.port q).sub
  flag1 sub.isSome ++ u2opt (sub.map Subscription.watermark) ++ u2opt (sub.map (unreadBytes s.records)) ++
    u2opt (sub.map fun x => (unreadOf s.records x).length) ++ u2opt (sub.map Subscription.lost) ++
    presence selectionBytes (sub.bind Subscription.watch)

/-- The payload of READ_PORT (R179). -/
def State.portBytes (s : State) (q : PortId) : List Byte :=
  let pt := s.port q
  [u1 (roleCode pt.strap), u1 (roleCode pt.role)] ++ (allZones.map fun z => u1 pt.rights[z].toNat) ++ u2 pt.queue.length ++
    linkBytes (s.linkMillis q) pt.link ++ presence refusalBytes pt.refusal ++ u2 pt.taken ++ u2 pt.discards ++
    u2 pt.portFull ++ u2 pt.refusals ++ u2 pt.attn.toNat ++ u2 pt.enable.toNat ++ [u1 pt.zoneSet.toNat] ++
    u2 pt.condSet.toNat ++ [u1 (modeCode pt.mode)] ++ s.subBytes q

/-- A free value is drawn when the port read has an open set. -/
def State.drawFor (s : State) (q : PortId) : State :=
  if (s.port q).link.isSome then { s with draws := s.draws + 1 } else s

/-- READ_PORT (R179). -/
def execReadPort (p : PortId) (s : State) : Host.Outcome State Fault Refusal :=
  .next (s.serve p .readPort fun f s =>
    s.withArg p f (match f.payload with | [b] => portOf? b | _ => none) fun q s =>
      (s.drawFor q).answer p f .done (s.portBytes q))

/-! ## READ_SYSTEM (R179) -/

/-- The result of the last write of a section: written 0, failed 1, none 2 (R180). -/
def writeResult : Option Bool → Byte
  | some true => 0
  | some false => 1
  | none => 2

/-- The payload of READ_SYSTEM (R179, R187). That a pending save and a pending checkpoint are two bytes, in this order, between
the writer's state and the results is the model's (DESIGN CHOICE, notes/assumptions/20.md). -/
def State.systemBytes (s : State) : List Byte :=
  flag1 s.supervised ++ timeBytes s.clock ++ flag1 s.clockLost ++ [u1 (rateCode s.rate)] ++
    (allPorts.map fun p => u1 (roleCode (s.port p).role)) ++ u2 s.periodN ++ u2 s.periodStart ++
    (allChans.flatMap fun ch => u2 (s.hold ch)) ++ u2 s.used ++ u2 s.records.length ++ u2 s.sampleDrops ++
    flag1 s.store.writing.isSome ++ flag1 s.store.pendingSave ++ flag1 s.store.pendingCheck ++
    [writeResult s.store.lastConfig, writeResult s.store.lastDose]

/-- READ_SYSTEM (R179). -/
def execReadSystem (p : PortId) (s : State) : Host.Outcome State Fault Refusal :=
  .next (s.serve p .readSystem fun f s =>
    s.withArg p f (match f.payload with | [] => some () | _ => none) fun _ s => s.answer p f .done s.systemBytes)

end Sys2Proof.Machine
end

