-- ==== Sys2Proof/Machine/Subscribers.lean ====
section
/-! DEFINITION. Subscribers.lean: the commands SUBSCRIBE_ON, SUBSCRIBE_OFF, DRAIN, SCAN, SET_WATCH_ON, SET_WATCH_OFF and MARK of the
observation queue, and SET_ATTENTION and ACK_ATTENTION of the attention lines (R161 to R169, R176, R177). -/

namespace Sys2Proof.Machine

open Sys2Proof

/-! ## Subscriptions (R161, R169) -/

/-- The subscription of a port after a SUBSCRIBE on with watermark `w`, with `held` records in the list (R161). -/
def subscribed (old : Option Subscription) (held w : Nat) : Subscription :=
  match old with
  | none => { cursor := held, watermark := w, lost := 0, watch := none }
  | some sub => { sub with watermark := w }

/-- Whether a port stood at its watermark before the change. -/
def stood (records : List Record) : Option Subscription → Bool
  | some sub => standsAt records sub
  | none => false

/-- A SUBSCRIBE on (R161): the subscription, and the watermark test of R169. -/
def State.subscribe (s : State) (p : PortId) (w : Nat) : State :=
  let old := (s.port p).sub
  let new := subscribed old s.records.length w
  let s := s.modPort p fun pt => { pt with sub := some new }
  if standsAt s.records new && !stood s.records old then s.pend p .watermark else s

/-- What SUBSCRIBE responses carry: subscribed, watermark, unread bytes (R161). -/
def State.subscribeBytes (s : State) (p : PortId) : List Byte :=
  let sub := (s.port p).sub
  flag1 sub.isSome ++ u2opt (sub.map Subscription.watermark) ++ u2opt (sub.map (unreadBytes s.records))

/-- SUBSCRIBE_ON (R161). Frames with the code of SUBSCRIBE that are malformed come here too. -/
def execSubscribeOn (p : PortId) (s : State) : Host.Outcome State Fault Refusal :=
  .next (s.serve p .subscribeOn fun f s =>
    s.withArg p f (subscribeOf? f.payload) fun w s =>
      let s := s.subscribe p w
      s.answer p f .done (s.subscribeBytes p))

/-- A SUBSCRIBE off (R161, R162): the subscription goes, and the records no remaining cursor has to read are freed. -/
def State.unsubscribe (s : State) (p : PortId) : State :=
  if (s.port p).sub.isSome then (s.modPort p fun pt => { pt with sub := none }).freeRead else s

/-- SUBSCRIBE_OFF (R161). -/
def execSubscribeOff (p : PortId) (s : State) : Host.Outcome State Fault Refusal :=
  .next (s.serve p .subscribeOff fun f s =>
    let s := s.unsubscribe p
    s.answer p f .done (s.subscribeBytes p))

/-! ## DRAIN and SCAN (R166, R167) -/

/-- The payload of a DRAIN response (R166). -/
def drainPayload (lost : Nat) (taken : List Record) (unread : Nat) : List Byte :=
  u2 lost ++ [u1 taken.length] ++ taken.flatMap recordBytes ++ u2 unread

/-- A DRAIN of at most `n` records (R166). -/
def State.drainRequest (s : State) (p : PortId) (f : Frame) (sub : Subscription) (n : Nat) : State :=
  let unread := unreadOf s.records sub
  let k := drainCount n drainBytes unread
  let s := (s.modPort p fun pt => { pt with sub := pt.sub.map fun x => { x with lost := 0 } }).passRecords p k
  s.answer p f .done (drainPayload sub.lost (unread.take k) (totalSize (unread.drop k)))

/-- The count a DRAIN payload names, 1..16 (R166). -/
def drainOf? : List Byte → Option Nat
  | [b] => within 1 16 b.toNat
  | _ => none

/-- DRAIN (R166). The length is checked first (R172), then the subscription, then the range. -/
def execDrain (p : PortId) (s : State) : Host.Outcome State Fault Refusal :=
  .next (s.serve p .drain fun f s =>
    if f.payload.length ≠ 1 then s.refuse p f .badArg
    else
      s.withSub p f fun sub s =>
        s.withArg p f (drainOf? f.payload) fun n s => s.drainRequest p f sub n)

/-- The payload of a SCAN response (R167): records skipped, whether a match was found, and its kind if one was. That the found byte
stands for the presence byte of the kind, and that the kind takes one byte, is the model's (DESIGN CHOICE, notes/assumptions/20.md).
-/
def scanPayload (skipped : Nat) (found : Option Record) : List Byte :=
  u2 skipped ++ flag1 found.isSome ++ match found with
    | some r => [u1 (recordKind r)]
    | none => []

/-- A SCAN for a selection (R167). -/
def State.scanRequest (s : State) (p : PortId) (f : Frame) (sub : Subscription) (sel : Selection) : State :=
  let unread := unreadOf s.records sub
  let k := (unread.takeWhile fun r => !matchesSel sel r).length
  (s.passRecords p k).answer p f .done (scanPayload k (unread.drop k).head?)

/-- SCAN (R167). -/
def execScan (p : PortId) (s : State) : Host.Outcome State Fault Refusal :=
  .next (s.serve p .scan fun f s =>
    if f.payload.length ≠ 8 then s.refuse p f .badArg
    else
      s.withSub p f fun sub s =>
        s.withArg p f (selectionOf? f.payload) fun sel s => s.scanRequest p f sub sel)

/-! ## Watches (R168) -/

/-- A port's watch is replaced (R168). -/
def State.setWatch (s : State) (p : PortId) (watch : Option Selection) : State :=
  s.modPort p fun pt => { pt with sub := pt.sub.map fun x => { x with watch := watch } }

/-- The selection of a SET_WATCH on: the on byte must be 1 (R181). -/
def watchOf? : List Byte → Option Selection
  | on :: rest => if on = 1 then selectionOf? rest else none
  | [] => none

/-- SET_WATCH_ON (R168). Frames with the code of SET_WATCH that are malformed come here too. -/
def execSetWatchOn (p : PortId) (s : State) : Host.Outcome State Fault Refusal :=
  .next (s.serve p .setWatchOn fun f s =>
    if f.payload.length ≠ 9 then s.refuse p f .badArg
    else
      s.withSub p f fun _ s =>
        s.withArg p f (watchOf? f.payload) fun sel s => (s.setWatch p (some sel)).answer p f .done [])

/-- SET_WATCH_OFF (R168). The selection it carries is ignored (R181). -/
def execSetWatchOff (p : PortId) (s : State) : Host.Outcome State Fault Refusal :=
  .next (s.serve p .setWatchOff fun f s =>
    s.withSub p f fun _ s => (s.setWatch p none).answer p f .done [])

/-! ## MARK (R165) -/

/-- The pending MARK flag of each zone of a set is set (R36, R165). -/
def State.markZones (s : State) (zs : ZoneSet) : State :=
  s.forZones fun z s =>
    if inZoneSet zs z then s.modZone z fun zn => { zn with est := { zn.est with mark := true } } else s

/-- MARK (R165). -/
def execMark (p : PortId) (s : State) : Host.Outcome State Fault Refusal :=
  .next (s.serve p .mark fun f s =>
    s.withArg p f (match f.payload with | [b] => some b | _ => none) fun zs s =>
      if allZones.all fun z => !inZoneSet zs z || s.may p z .observe then (s.markZones zs).answer p f .done []
      else s.refuse p f .noRight)

/-! ## Attention (R177) -/

/-- SET_ATTENTION (R177). -/
def execSetAttention (p : PortId) (s : State) : Host.Outcome State Fault Refusal :=
  .next (s.serve p .setAttention fun f s =>
    s.withArg p f (setAttentionOf? f.payload) fun (enable, zones, conds, mode) s =>
      let s := s.modPort p fun pt => pt.setAttention enable zones conds mode
      s.answer p f .done (u2 (s.port p).attn.toNat))

/-- ACK_ATTENTION (R177). The LEVEL line follows the sets at once; a pulse being driven runs to its end. -/
def execAckAttention (p : PortId) (s : State) : Host.Outcome State Fault Refusal :=
  .next (s.serve p .ackAttention fun f s =>
    s.withArg p f (ackOf? f.payload) fun bits s =>
      let s := s.modPort p fun pt => { pt with attn := pt.attn &&& ~~~bits }
      s.answer p f .done (u2 (s.port p).attn.toNat))

end Sys2Proof.Machine
end

