-- ==== Sys2Proof/Machine/System.lean ====
section
/-! DEFINITION. System.lean: the system commands SUPERVISE_ON, SUPERVISE_OFF, SET_CLOCK, SAVE, WRITE_AUTHORITY, WRITE_NODE,
RESET_DOSE and SET_PERIOD (R73, R75, R76, R98, R142, R146, R147, R156, R174, R185, R188, R190). -/

namespace Sys2Proof.Machine

open Sys2Proof

/-! ## SUPERVISE (R190) -/

/-- STANDBY to SUPERVISED (R190): every last activity restarts, and every bound actuator of an ON zone is due (R156). -/
def State.enterSupervised (s : State) : State :=
  ({ s with supervised := true }.touchAll).forZones fun z s => if (s.zone z).cfg.use then s.makeZoneDue z else s

/-- Every granted value and every override part of a zone becomes absent (R98, R142). -/
def State.clearGrants (s : State) (z : ZoneId) : State :=
  s.modZone z fun zn =>
    { zn with ovr := .empty, chans := Vector.ofFn fun i => { zn.chans[i] with granted := none } }

/-- SUPERVISED to STANDBY (R190): linked sets break (R106), grants and overrides go, and LC drops every channel and stops addressing
actuators (R156). -/
def State.enterStandby (s : State) : State :=
  let s := { s with supervised := false }
  let s := s.forPorts fun p s => s.breakLink p false
  s.forZones fun z s => (s.clearGrants z).stopZone z

/-- The on byte of a SUPERVISE payload (R181, R190). -/
def superviseOf? : List Byte → Option Bool
  | [b] => flagOf? b
  | _ => none

/-- SUPERVISE_ON (R190). Frames with the code of SUPERVISE that are malformed come here too. -/
def execSuperviseOn (p : PortId) (s : State) : Host.Outcome State Fault Refusal :=
  .next (s.serve p .superviseOn fun f s =>
    s.asSystem p f fun s =>
      s.withArg p f (superviseOf? f.payload) fun _ s =>
        (if s.supervised then s else s.enterSupervised).answer p f .done [])

/-- SUPERVISE_OFF (R190). -/
def execSuperviseOff (p : PortId) (s : State) : Host.Outcome State Fault Refusal :=
  .next (s.serve p .superviseOff fun f s =>
    s.asSystem p f fun s => (if s.supervised then s.enterStandby else s).answer p f .done [])

/-! ## SET_CLOCK (R185) -/

/-- DI takes a new clock time (R75): horizons, period start, pace states. -/
def State.clockDose (s : State) : State :=
  let s := s.forZones fun z s => s.modZone z fun zn => { zn with horizon := s.clock }
  { s with periodStart := min s.periodStart s.clock.day }.reevalAll

/-- LC takes a new clock time (R148, R152, R153): every due and every retry time there is becomes the new time. -/
def State.clockLoop (s : State) : State :=
  s.forNodes fun n s =>
    let s := if (s.node n).due.isSome then s.setDue n s.clock else s
    if (s.node n).retry.isSome then s.modNode n fun nd => { nd with retry := some s.clock } else s

/-- The clock is set (R185): the CLOCK record, then each block takes the new time. No second up to the new time is a mark. -/
def State.setClock (s : State) (t : GTime) : State :=
  let before := s.clock
  let s := { s with clock := t, clockLost := false, minuteMarks := [], fiveMarks := [] }
  let s := s.offer (.clock before t)
  let s := s.forZones fun z s => s.modZone z fun zn => { zn with est := { zn.est with ring := [] } }
  let s := (s.clockDose.touchAll).clockLoop
  s.forZones fun z s => s.modZone z fun zn =>
    { zn with det := { zn.det with luxPending := zn.det.luxPending.map fun q => { q with start := t } } }

/-- SET_CLOCK (R185). -/
def execSetClock (p : PortId) (s : State) : Host.Outcome State Fault Refusal :=
  .next (s.serve p .setClock fun f s =>
    s.asSystem p f fun s =>
      s.withArg p f (setClockOf? f.payload) fun t s => (s.setClock t).answer p f .done [])

/-! ## SAVE (R188) -/

/-- SAVE (R188): handed to the writer, and answered at once. -/
def execSave (p : PortId) (s : State) : Host.Outcome State Fault Refusal :=
  .next (s.serve p .save fun f s =>
    s.asSystem p f fun s =>
      s.withArg p f (match f.payload with | [] => some () | _ => none) fun _ s => s.requestSave.answer p f .done [])

/-! ## WRITE_AUTHORITY (R122, R174) -/

/-- The channels whose tenure hangs on a right (R122). -/
def rightChans : Right → List ChanKind
  | .light => [.light, .shade]
  | .climate => [.heat, .moist]
  | .observe => []
  | .envelope => []

/-- A right of a port in a zone may have been removed: TA acts on the channels of that right (R122). -/
def State.loseRight (s : State) (z : ZoneId) (r : Right) (removed : Bool) : State :=
  if removed then (rightChans r).foldl (fun s ch => s.dropUnrighted z ch r) s else s

/-- A port's rights in one zone become the set given, and TA acts on a LIGHT or CLIMATE right removed (R174). -/
def State.writeRights (s : State) (q : PortId) (z : ZoneId) (rs : RightSet) : State :=
  let old := (s.port q).rights[z]
  let s := s.modPort q fun pt => { pt with rights := pt.rights.set z rs }
  (s.loseRight z .light (hasRight old .light && !hasRight rs .light)).loseRight z .climate
    (hasRight old .climate && !hasRight rs .climate)

/-- The rights of a port as a WRITE_AUTHORITY response carries them. -/
def State.rightsBytes (s : State) (q : PortId) : List Byte := allZones.map fun z => u1 (s.port q).rights[z].toNat

/-- WRITE_AUTHORITY (R174). -/
def execWriteAuthority (p : PortId) (s : State) : Host.Outcome State Fault Refusal :=
  .next (s.serve p .writeAuthority fun f s =>
    s.asSystem p f fun s =>
      s.withArg p f (authorityOf? f.payload) fun (q, zs, rs) s =>
        if s.isConservation q && !hasRight rs .envelope then s.refuse p f .badArg
        else
          let s := s.forZones fun z s => if inZoneSet zs z then s.writeRights q z rs else s
          s.answer p f .done (s.rightsBytes q))

/-! ## WRITE_NODE (R146, R147) -/

/-- Checks 3 and 4 of R146. -/
def State.nodeWriteOk (s : State) (n : NodeId) (kind : NodeKind) (code : Nat) : Bool :=
  (decide ((s.node n).kind = kind) || (s.boundAt n).isNone) && (isSensor kind || decide (code = 0))

/-- The effects of a kind that changes (R147). A node whose new kind has no polls has no due time. -/
def State.changeKind (s : State) (n : NodeId) (kind : NodeKind) (code : Nat) : State :=
  let s := s.setNodeState n .absent
  let s := s.modNode n fun nd =>
    { nd with kind := kind, code := code, misses := 0, attempts := 0, due := none, waiting := false, retry := none }
  let s := s.abandon n
  if isSensor kind && decide (0 < code) then s.setDue n s.clock else s

/-- The RATE_CHANGED flag of the zone that binds a sensor (R36, R147). -/
def State.flagRate (s : State) (n : NodeId) : State :=
  match s.boundAt n with
  | some (z, 2) => s.modZone z fun zn => { zn with est := { zn.est with rateClimate := true } }
  | some (z, 3) => s.modZone z fun zn => { zn with est := { zn.est with rateLight := true } }
  | _ => s

/-- The effects of a code that changes on a sensor (R147). -/
def State.changeCode (s : State) (n : NodeId) (code : Nat) : State :=
  let s := s.modNode n fun nd => { nd with code := code }
  let s :=
    if code = 0 then
      (s.setNodeState n .absent).modNode n fun nd => { nd with due := none, waiting := false }
    else s.setDue n s.clock
  s.flagRate n

/-- An accepted WRITE_NODE (R147): a kind that changes acts first, then a code that changes. -/
def State.applyNode (s : State) (n : NodeId) (kind : NodeKind) (code : Nat) : State :=
  let old := s.node n
  let s := if old.kind = kind then s else s.changeKind n kind code
  if old.code ≠ code ∧ isSensor kind = true then s.changeCode n code else s

/-- WRITE_NODE (R146). -/
def execWriteNode (p : PortId) (s : State) : Host.Outcome State Fault Refusal :=
  .next (s.serve p .writeNode fun f s =>
    s.asSystem p f fun s =>
      s.withArg p f (writeNodeOf? f.payload) fun (n, kind, code) s =>
        if s.nodeWriteOk n kind code then
          let s := s.applyNode n kind code
          s.answer p f .done [u1 (kindCode (s.node n).kind), u1 (s.node n).code]
        else s.refuse p f .badArg)

/-! ## RESET_DOSE and SET_PERIOD (R73, R76) -/

/-- A dose account is corrected, and the pace state evaluated at once (R76). -/
def State.resetDose (s : State) (o : ObjId) (dose : Nat) : State :=
  (s.modObject o fun ob => { ob with acct := { ob.acct with consumed := dose, frac := 0 } }).reevalPace o

/-- RESET_DOSE (R76). -/
def execResetDose (p : PortId) (s : State) : Host.Outcome State Fault Refusal :=
  .next (s.serve p .resetDose fun f s =>
    s.asSystem p f fun s =>
      s.withArg p f (resetDoseOf? f.payload) fun (o, dose) s => (s.resetDose o dose).answer p f .done [])

/-- Whether a start day given is no later than the current day (R73). -/
def State.startOk (s : State) (start : Option Nat) : Bool :=
  match start with
  | some d => decide (d ≤ s.clock.day)
  | none => true

/-- The period is set, and every pace state evaluated at once (R73). -/
def State.setPeriod (s : State) (n : Nat) (start : Option Nat) : State :=
  { s with periodN := n, periodStart := start.getD s.periodStart }.reevalAll

/-- SET_PERIOD (R73). -/
def execSetPeriod (p : PortId) (s : State) : Host.Outcome State Fault Refusal :=
  .next (s.serve p .setPeriod fun f s =>
    s.asSystem p f fun s =>
      s.withArg p f (setPeriodOf? f.payload) fun (n, start) s =>
        if s.startOk start then (s.setPeriod n start).answer p f .done [] else s.refuse p f .badArg)

end Sys2Proof.Machine
end

