-- ==== Sys2Proof/Machine/Marks.lean ====
section
/-! DEFINITION. Marks.lean: the commands CLOCK_SECOND, MINUTE_MARK, FIVE_MINUTE_MARK and STORE_WRITE_END (R26, R78, R184, R187). -/

namespace Sys2Proof.Machine

open Sys2Proof

/-- CLOCK_SECOND: one second of the crystal (R184). -/
def execClockSecond (s : State) : Host.Outcome State Fault Refusal := .next s.tick

/-- MINUTE_MARK: DI takes the oldest minute mark the clock has reached (R78). With none reached nothing happens. -/
def execMinuteMark (s : State) : Host.Outcome State Fault Refusal :=
  match s.minuteMarks with
  | [] => .next s
  | t :: rest => .next ({ s with minuteMarks := rest }.minuteWork t)

/-- FIVE_MINUTE_MARK: ZE takes the oldest five-minute mark the clock has reached, zone by zone (R26). With none reached nothing
happens. -/
def execFiveMinuteMark (s : State) : Host.Outcome State Fault Refusal :=
  match s.fiveMarks with
  | [] => .next s
  | _ :: rest => .next ({ s with fiveMarks := rest }.forZones fun z s => s.markZone z)

/-- STORE_WRITE_END: the section being written ends, verified or not (R187). With no section being written nothing happens. -/
def execStoreWriteEnd (verified : Bool) (s : State) : Host.Outcome State Fault Refusal := .next (s.endSection verified)

end Sys2Proof.Machine
end

