-- ==== Sys2Proof/Machine/Loop.lean ====
section
/-! DEFINITION. Loop.lean: the commands SENSOR_POLL_DUE, STATUS_DUE, ACTUATOR_RETRY, LOOP_TRANSACTION_START, LOOP_REPLY and
LOOP_REPLY_TIMEOUT of the field loop (R143, R144, R148, R152 to R154). -/

namespace Sys2Proof.Machine

open Sys2Proof

/-- Whether a time that may be none has been reached. -/
def State.reached (s : State) (t : Option GTime) : Bool :=
  match t with
  | some t => t.notAfter s.clock
  | none => false

/-- Put a node's READ or STATUS in the waiting set (R154). -/
def State.wait (s : State) (n : NodeId) : State := s.modNode n fun nd => { nd with waiting := true }

/-- SENSOR_POLL_DUE: the READ of a sensor whose due time is reached waits for the loop (R148, R154). Where no such time is reached
nothing happens. -/
def execSensorPollDue (addr : Nat) (s : State) : Host.Outcome State Fault Refusal :=
  match nodeOf? addr with
  | none => .next s
  | some n =>
    let nd := s.node n
    if isSensor nd.kind && decide (0 < nd.code) && s.reached nd.due then .next (s.wait n) else .next s

/-- Whether a node is an actuator that LC may address now: bound to a channel of an ON zone, the part SUPERVISED (R153, R154). -/
def State.actuatorOpen (s : State) (n : NodeId) : Bool :=
  match s.boundChan n with
  | some (z, ch) => s.addressable z ch
  | none => false

/-- STATUS_DUE: the STATUS of an actuator whose status due time is reached waits for the loop (R153, R154). Where no such time is
reached nothing happens. -/
def execStatusDue (addr : Nat) (s : State) : Host.Outcome State Fault Refusal :=
  match nodeOf? addr with
  | none => .next s
  | some n => if s.actuatorOpen n && s.reached (s.node n).due then .next (s.wait n) else .next s

/-- A retry of a SILENT node (R152): its channel's pending value joins the command list, or else a STATUS becomes due at once. The
retry time is none from here to the retry's outcome, and a STATUS due at once is held as a due time of now: the reference gives neither
(DESIGN CHOICE, notes/assumptions/37.md). -/
def State.retryNode (s : State) (n : NodeId) : State :=
  let s := s.modNode n fun nd => { nd with retry := none }
  match s.boundChan n with
  | some (z, ch) => if (s.chan z ch).pending.isSome then s.enlist z ch else s.setDue n s.clock
  | none => s

/-- ACTUATOR_RETRY: the retry time of a SILENT actuator is reached (R152). Where no such time is reached nothing happens. -/
def execActuatorRetry (addr : Nat) (s : State) : Host.Outcome State Fault Refusal :=
  match nodeOf? addr with
  | none => .next s
  | some n =>
    if s.actuatorOpen n && decide ((s.node n).state = .silent) && s.reached (s.node n).retry then .next (s.retryNode n)
    else .next s

/-- LOOP_TRANSACTION_START: with no transaction under way, the arbiter begins the one it chooses (R154). A COMMAND that is no longer
eligible leaves the list without being begun. -/
def execLoopTransactionStart (s : State) : Host.Outcome State Fault Refusal :=
  match s.txn with
  | some _ => .next s
  | none =>
    let s := s.pruneCommands
    match s.choice with
    | some c => .next (s.begin c)
    | none => .next s

/-- LOOP_REPLY: a frame arrives on the loop (R144). With no transaction under way, or to an abandoned one, it is discarded. -/
def execLoopReply (bytes : List Byte) (s : State) : Host.Outcome State Fault Refusal :=
  match s.txn with
  | none => .next s
  | some t =>
    if t.abandoned then .next s
    else .next (s.endTransaction t (replyData t.node t.op (s.node t.node).kind bytes))

/-- LOOP_REPLY_TIMEOUT: the window of the transaction under way closes with no reply taken (R143). An abandoned one ends without an
outcome. -/
def execLoopReplyTimeout (s : State) : Host.Outcome State Fault Refusal :=
  match s.txn with
  | none => .next s
  | some t => if t.abandoned then .next { s with txn := none } else .next (s.endTransaction t none)

end Sys2Proof.Machine
end

