-- ==== Sys2Proof/Machine/StartUp.lean ====
section
/-! DEFINITION. StartUp.lean: the commands POWER_ON and RESET_PIN: start-up in the order of R189, with the roles (R173), the
authority table (R174), the effective envelopes (R19), the restore charge (R67), the rejected DOSE section (R68) and the default
tenure (R113). -/

namespace Sys2Proof.Machine

open Sys2Proof

/-! ## Step 1: the roles (R173) -/

/-- The port that takes the CONSERVATION role: the lowest-numbered one strapped so, or P0 when none is (R173). -/
def conservationOf (straps : Vector Role 3) : PortId :=
  (allPorts.find? fun p => straps[p] == .conservation).getD 0

/-- The role of a port (R173). -/
def roleOf (straps : Vector Role 3) (p : PortId) : Role :=
  if p = conservationOf straps then .conservation
  else if straps[p] = .conservation then .none
  else straps[p]

/-! ## Step 2: CONFIG (R19, R174, R189) -/

/-- What every block takes when CONFIG is rejected (R1 to R4, R19, R62, R119, R145, R174). -/
def defaultConfig (straps : Vector Role 3) : ConfigImage :=
  { zones := Vector.replicate 8 .default
    envs := Vector.replicate 8 .default
    objects := Vector.replicate 32 .default
    nodes := Vector.replicate 32 (.none, 0)
    rights := Vector.ofFn fun p => Vector.replicate 8 (roleRights (roleOf straps p))
    periodN := 365
    holds := defaultHolds }

/-- A port's rights at start-up: those of CONFIG, with OBSERVE and ENVELOPE added for the conservation port (R174). -/
def startRights (straps : Vector Role 3) (cfg : ConfigImage) (p : PortId) : Vector RightSet 8 :=
  Vector.ofFn fun z => if roleOf straps p = .conservation then cfg.rights[p][z] ||| 0x9#4 else cfg.rights[p][z]

/-- The role whose ports are default holders of a channel (R113). -/
def defaultRole : ChanKind → Role
  | .heat | .moist => .climate
  | .light | .shade => .lighting

/-- The default holder of a channel: the lowest-numbered port with the channel's role and right (R113). -/
def defaultHolder (straps : Vector Role 3) (cfg : ConfigImage) (z : ZoneId) (ch : ChanKind) : Option PortId :=
  allPorts.find? fun p => roleOf straps p == defaultRole ch && hasRight (startRights straps cfg p)[z] (chanRight ch)

/-- The channel kind of a number (R180). -/
def chanAt : Fin 4 → ChanKind
  | 0 => .light
  | 1 => .shade
  | 2 => .heat
  | 3 => .moist

/-- A zone before its envelope and ceiling are computed. -/
def startZone (straps : Vector Role 3) (cfg : ConfigImage) (t : GTime) (z : ZoneId) : Zone :=
  { Zone.fresh t with
      cfg := cfg.zones[z]
      env := cfg.envs[z]
      chans := Vector.ofFn fun i => { Channel.fresh t with holder := defaultHolder straps cfg z (chanAt i) } }

/-- A node table entry at start-up: the state lost, a sensor with a code above 0 due at once (R145, R148, R152). -/
def startNode (t : GTime) (kind : NodeKind) (code : Nat) : Node :=
  let polled := isSensor kind && decide (0 < code)
  { Node.empty with kind := kind, code := code, due := if polled then some t else none, waiting := polled }

/-- A port at start-up (R159, R170, R171, R173 to R176). -/
def startPort (straps : Vector Role 3) (cfg : ConfigImage) (p : PortId) : Port :=
  { Port.fresh straps[p] (roleOf straps p) (startRights straps cfg p) with
      sub := if roleOf straps p = .conservation then some { cursor := 0, watermark := 2048, lost := 0, watch := none }
             else none }

/-! ## Step 3: DOSE (R67, R68) -/

/-- An account at start-up: from DOSE, or at the allowance when DOSE was rejected (R67, R68). -/
def startAccount (cfg : ObjConf) (saved : Option Account) : Account :=
  saved.getD { consumed := cfg.allowance, frac := 0, previous := 0 }

/-- The period start: from DOSE and no later than the current day, or the current day (R62, R68, R189 step 5). -/
def startPeriod (dose : Option DoseImage) (t : GTime) : Nat :=
  match dose with
  | some d => min d.periodStart t.day
  | none => t.day

/-! ## Step 4: the clock (R184, R189) -/

/-- The clock after step 4: restarted at the checkpoint time, or at day 0, second 0, when the backup domain was lost. -/
def startClock (lost : Bool) (dose : Option DoseImage) (running : GTime) : GTime :=
  if lost then
    match dose with
    | some d => d.checkpoint
    | none => .zero
  else running

/-! ## Step 5: envelopes, restore charge, pace and C (R19, R67, R71) -/

/-- The seconds of the restore charge: min(900, now − checkpoint), or 900 when the clock was lost or stands before the checkpoint
(R67). -/
def restoreSeconds (lost : Bool) (checkpoint now : GTime) : Nat :=
  if !lost && checkpoint.notAfter now then min 900 (now.since checkpoint) else 900

/-- The restore charge of an object: only while it is ON, in a zone that is ON (R67). -/
def State.restore (s : State) (d : DoseImage) (secs : Nat) (o : ObjId) : State :=
  let c := (s.object o).cfg
  if c.use && (s.zone c.zone).cfg.use then
    s.modObject o fun ob => { ob with acct := ob.acct.charge (secs * faceLux d.ceilings[c.zone] c.w) }
  else s

/-- ET computes a zone's effective envelope; a zone that comes up in CONFLICT has it in its sticky set (R19). -/
def State.startEnvelope (s : State) (z : ZoneId) : State :=
  s.modZone z fun zn =>
    let e := s.effOf z
    let c : Bool := e.rhHi < e.rhLo
    { zn with eff := e, conflict := c, sticky := condIf c .conflict }

/-- The first pace evaluation of an object, which appends no record (R67). -/
def State.startPace (s : State) (o : ObjId) : State := s.modObject o fun ob => { ob with pace := s.paceNow o }

/-- The first C of a zone (R67, R71). -/
def State.startCeiling (s : State) (z : ZoneId) : State := s.modZone z fun zn => { zn with ceiling := s.ceilingOf z }

/-! ## Start-up (R189) -/

/-- The part with its blocks in their after-reset state, CONFIG and DOSE loaded, before step 5. The store's sections and the model's
own queue of commands stay. -/
def State.loaded (s : State) (straps : Straps) (cfg : ConfigImage) (dose : Option DoseImage) (t : GTime) (flag : Bool) : State :=
  { supervised := false
    clock := t
    clockLost := flag
    crystal := s.crystal
    minuteMarks := []
    fiveMarks := []
    rate := straps.rate
    ports := Vector.ofFn fun p => startPort straps.roles cfg p
    zones := Vector.ofFn fun z => startZone straps.roles cfg t z
    objects := Vector.ofFn fun o =>
      { cfg := cfg.objects[o], acct := startAccount cfg.objects[o] (dose.map fun d => d.accounts[o]), pace := .onPace }
    periodN := cfg.periodN
    periodStart := startPeriod dose t
    holds := cfg.holds
    nodes := Vector.ofFn fun n => startNode t cfg.nodes[n].1 cfg.nodes[n].2
    txn := none
    commands := []
    records := []
    sampleDrops := 0
    store := .fresh s.store.config s.store.dose
    pending := s.pending
    draws := s.draws }

/-- Step 5 of R189 without the default tenure: envelopes (R19), restore charge, pace states and C (R67, R68). -/
def State.evaluateStart (s : State) (dose : Option DoseImage) (lost : Bool) : State :=
  let s := s.forZones fun z s => s.startEnvelope z
  let s := match dose with
    | some d => s.forObjects fun o s => s.restore d (restoreSeconds lost d.checkpoint s.clock) o
    | none => s
  let s := s.forObjects fun o s => s.startPace o
  s.forZones fun z s => s.startCeiling z

/-- Start-up (R189): `running` is the clock as it has run on, `flag` the clock-lost flag before, `lost` whether the backup domain was
lost at this start, `byPin` whether the reset pin started it. -/
def State.startUp (s : State) (straps : Straps) (running : GTime) (flag lost byPin : Bool) : State :=
  let cfg := s.store.config.getD (defaultConfig straps.roles)
  let dose := s.store.dose
  let t := startClock lost dose running
  let up := (s.loaded straps cfg dose t (flag || lost)).evaluateStart dose lost
  let up := up.offer (.start t s.store.config.isSome dose.isSome lost byPin)
  if flag || lost then up.pendWhere .clockLost fun _ => true else up

/-- POWER_ON (R184, R189): the clock has run on through the time without power, or the backup domain was lost. -/
def execPowerOn (straps : Straps) (kept : Option Nat) (s : State) : Host.Outcome State Fault Refusal :=
  match kept with
  | some n => .next (s.startUp straps (s.clock.runOn n) s.clockLost false false)
  | none => .next (s.startUp straps s.clock s.clockLost true false)

/-- RESET_PIN (R184, R189): the clock and its flag survive. -/
def execResetPin (straps : Straps) (s : State) : Host.Outcome State Fault Refusal :=
  .next (s.startUp straps s.clock s.clockLost false true)

end Sys2Proof.Machine
end

