-- ==== Sys2Proof/Machine/Dispatch.lean ====
section
/-! DEFINITION. Dispatch.lean: the meaning of each command, one arm per constructor. -/

namespace Sys2Proof.Machine

open Sys2Proof

def exec (i : Instr) (s : State) : Host.Outcome State Fault Refusal :=
  match i with
  | .powerOn straps kept => Sys2Proof.Machine.execPowerOn straps kept s
  | .resetPin straps => Sys2Proof.Machine.execResetPin straps s
  | .frame p bytes => Sys2Proof.Machine.execFrame p bytes s
  | .interByteGap p => Sys2Proof.Machine.execInterByteGap p s
  | .responseSent p => Sys2Proof.Machine.execResponseSent p s
  | .attentionPulseEnd p => Sys2Proof.Machine.execAttentionPulseEnd p s
  | .badCmd p => Sys2Proof.Machine.execBadCmd p s
  | .setPoint p => Sys2Proof.Machine.execSetPoint p s
  | .link p => Sys2Proof.Machine.execLink p s
  | .linkTimeout p => Sys2Proof.Machine.execLinkTimeout p s
  | .takeTenure p => Sys2Proof.Machine.execTakeTenure p s
  | .releaseTenure p => Sys2Proof.Machine.execReleaseTenure p s
  | .tenureLapse z ch => Sys2Proof.Machine.execTenureLapse z ch s
  | .clearConditions p => Sys2Proof.Machine.execClearConditions p s
  | .writeZone p => Sys2Proof.Machine.execWriteZone p s
  | .writeEnvelope p => Sys2Proof.Machine.execWriteEnvelope p s
  | .writeObject p => Sys2Proof.Machine.execWriteObject p s
  | .readObject p => Sys2Proof.Machine.execReadObject p s
  | .readZone p => Sys2Proof.Machine.execReadZone p s
  | .readNode p => Sys2Proof.Machine.execReadNode p s
  | .readPort p => Sys2Proof.Machine.execReadPort p s
  | .readSystem p => Sys2Proof.Machine.execReadSystem p s
  | .subscribeOn p => Sys2Proof.Machine.execSubscribeOn p s
  | .subscribeOff p => Sys2Proof.Machine.execSubscribeOff p s
  | .drain p => Sys2Proof.Machine.execDrain p s
  | .scan p => Sys2Proof.Machine.execScan p s
  | .setWatchOn p => Sys2Proof.Machine.execSetWatchOn p s
  | .setWatchOff p => Sys2Proof.Machine.execSetWatchOff p s
  | .mark p => Sys2Proof.Machine.execMark p s
  | .setAttention p => Sys2Proof.Machine.execSetAttention p s
  | .ackAttention p => Sys2Proof.Machine.execAckAttention p s
  | .superviseOn p => Sys2Proof.Machine.execSuperviseOn p s
  | .superviseOff p => Sys2Proof.Machine.execSuperviseOff p s
  | .setClock p => Sys2Proof.Machine.execSetClock p s
  | .save p => Sys2Proof.Machine.execSave p s
  | .writeAuthority p => Sys2Proof.Machine.execWriteAuthority p s
  | .writeNode p => Sys2Proof.Machine.execWriteNode p s
  | .resetDose p => Sys2Proof.Machine.execResetDose p s
  | .setPeriod p => Sys2Proof.Machine.execSetPeriod p s
  | .setHold p => Sys2Proof.Machine.execSetHold p s
  | .clockSecond => Sys2Proof.Machine.execClockSecond s
  | .minuteMark => Sys2Proof.Machine.execMinuteMark s
  | .fiveMinuteMark => Sys2Proof.Machine.execFiveMinuteMark s
  | .storeWriteEnd verified => Sys2Proof.Machine.execStoreWriteEnd verified s
  | .sensorPollDue addr => Sys2Proof.Machine.execSensorPollDue addr s
  | .statusDue addr => Sys2Proof.Machine.execStatusDue addr s
  | .actuatorRetry addr => Sys2Proof.Machine.execActuatorRetry addr s
  | .loopTransactionStart => Sys2Proof.Machine.execLoopTransactionStart s
  | .loopReply bytes => Sys2Proof.Machine.execLoopReply bytes s
  | .loopReplyTimeout => Sys2Proof.Machine.execLoopReplyTimeout s

end Sys2Proof.Machine
end

