-- ==== Sys2Proof/Machine/Step.lean ====
section
/-! DEFINITION. Step.lean: one step takes the command at the front of the queue and runs it; the host's way to put a command
there. -/

namespace Sys2Proof.Machine

open Sys2Proof

/-- One step: the command at the front of the queue, run with the rest of the queue. On an empty queue the part idles
(DESIGN CHOICE, notes/assumptions/3.md): time passes only by CLOCK_SECOND, which is a command of its own. -/
def step (s : State) : Host.Outcome State Fault Refusal :=
  match s.pending with
  | [] => .next s
  | c :: rest => exec c { s with pending := rest }

/-- The command a table word spells, put at the front of the queue. No table row has bits, so no word spells one. -/
def State.withFetchWord (s : State) (nbits w : Nat) : State :=
  match decodeTableWord nbits w with
  | some c => { s with pending := c :: s.pending }
  | none => s

end Sys2Proof.Machine
end

