-- ==== Sys2Proof/Machine/Parts.lean ====
section
/-! DEFINITION. Parts.lean: the parts of the state by name, and the frame of a change: which parts it leaves alone. The statements use
it to say what a command does not touch. -/

namespace Sys2Proof.Machine

open Sys2Proof

/-- The parts of the state: of the part as a whole, of each port, of each zone, of each channel and of each object. -/
inductive Part where
  | supervised | clock | clockLost | crystal | marks | rate | periodN | periodStart | holds | nodes | txn | commands | records | drops | store | pending | draws
  | roles | rights | rx | queue | tx | link | refusal | counters | attn | settings | sub
  | cfg | env | eff | conflict | est | horizon | ceiling | cause | sticky | det | ovr
  | granted | delivery | tenure | activity
  | objCfg | acct | pace
  deriving DecidableEq, Repr

/-- What a part is. -/
abbrev Part.Content : Part → Type
  | .supervised => Bool
  | .clock => GTime
  | .clockLost => Bool
  | .crystal => Nat
  | .marks => List GTime × List GTime
  | .rate => RateStrap
  | .periodN => Nat
  | .periodStart => Nat
  | .holds => Vector Nat 4
  | .nodes => Vector Node 32
  | .txn => Option Transaction
  | .commands => List (ZoneId × ChanKind)
  | .records => List Record
  | .drops => Nat
  | .store => Store
  | .pending => List Instr
  | .draws => Nat
  | .roles => PortId → Role × Role
  | .rights => PortId → Vector RightSet 8
  | .rx => PortId → Receiver
  | .queue => PortId → List Frame
  | .tx => PortId → List Response
  | .link => PortId → Option LinkRecord
  | .refusal => PortId → Option RefusalRecord × Nat
  | .counters => PortId → Nat × Nat × Nat
  | .attn => PortId → AttnSet × Bool
  | .settings => PortId → AttnSet × ZoneSet × CondSet × LineMode
  | .sub => PortId → Option Subscription
  | .cfg => ZoneId → ZoneRec
  | .env => ZoneId → Envelope
  | .eff => ZoneId → EffEnvelope
  | .conflict => ZoneId → Bool
  | .est => ZoneId → Estimate
  | .horizon => ZoneId → GTime
  | .ceiling => ZoneId → Nat
  | .cause => ZoneId → CondSet
  | .sticky => ZoneId → CondSet
  | .det => ZoneId → Detection
  | .ovr => ZoneId → Override
  | .granted => ZoneId → ChanKind → Option Int
  | .delivery => ZoneId → ChanKind → Option Int × Option Int × Bool × Option Int
  | .tenure => ZoneId → ChanKind → Option PortId × List PortId
  | .activity => ZoneId → ChanKind → GTime
  | .objCfg => ObjId → ObjConf
  | .acct => ObjId → Account
  | .pace => ObjId → Pace

/-- A part of a state. -/
def State.part (s : State) : (k : Part) → k.Content
  | .supervised => s.supervised
  | .clock => s.clock
  | .clockLost => s.clockLost
  | .crystal => s.crystal
  | .marks => (s.minuteMarks, s.fiveMarks)
  | .rate => s.rate
  | .periodN => s.periodN
  | .periodStart => s.periodStart
  | .holds => s.holds
  | .nodes => s.nodes
  | .txn => s.txn
  | .commands => s.commands
  | .records => s.records
  | .drops => s.sampleDrops
  | .store => s.store
  | .pending => s.pending
  | .draws => s.draws
  | .roles => fun p => ((s.port p).strap, (s.port p).role)
  | .rights => fun p => ((s.port p).rights)
  | .rx => fun p => ((s.port p).rx)
  | .queue => fun p => ((s.port p).queue)
  | .tx => fun p => ((s.port p).tx)
  | .link => fun p => ((s.port p).link)
  | .refusal => fun p => ((s.port p).refusal, (s.port p).refusals)
  | .counters => fun p => ((s.port p).taken, (s.port p).discards, (s.port p).portFull)
  | .attn => fun p => ((s.port p).attn, (s.port p).pulse)
  | .settings => fun p => ((s.port p).enable, (s.port p).zoneSet, (s.port p).condSet, (s.port p).mode)
  | .sub => fun p => ((s.port p).sub)
  | .cfg => fun z => (s.zone z).cfg
  | .env => fun z => (s.zone z).env
  | .eff => fun z => (s.zone z).eff
  | .conflict => fun z => (s.zone z).conflict
  | .est => fun z => (s.zone z).est
  | .horizon => fun z => (s.zone z).horizon
  | .ceiling => fun z => (s.zone z).ceiling
  | .cause => fun z => (s.zone z).cause
  | .sticky => fun z => (s.zone z).sticky
  | .det => fun z => (s.zone z).det
  | .ovr => fun z => (s.zone z).ovr
  | .granted => fun z c => ((s.chan z c).granted)
  | .delivery => fun z c => ((s.chan z c).pending, (s.chan z c).sent, (s.chan z c).replaced, (s.chan z c).applied)
  | .tenure => fun z c => ((s.chan z c).holder, (s.chan z c).waiters)
  | .activity => fun z c => ((s.chan z c).lastActivity)
  | .objCfg => fun o => (s.object o).cfg
  | .acct => fun o => (s.object o).acct
  | .pace => fun o => (s.object o).pace

/-- `t` agrees with `s` on every part outside `F`. -/
def Touches (F : List Part) (s t : State) : Prop := ∀ k, k ∉ F → t.part k = s.part k

end Sys2Proof.Machine
end

