-- ==== Sys2Proof/Safety.lean ====
section
/-! DEFINITION. Safety.lean: what holds of the part between any two steps, as the reference promises it. Each predicate is one
promise; `Safe` is all of them. The part has no fault and no refusal, so a safe run is one whose states keep them. -/

namespace Sys2Proof.Machine

open Sys2Proof

/-- The observation queue never holds more than 4096 bytes (R159). -/
def QueueFits (s : State) : Prop := s.used ≤ queueCapacity

/-- Every cursor stands on a held record or at end, and the oldest record held is one that some subscribed port has not read
(R159, R162). -/
def HeldRecordsUnread (s : State) : Prop :=
  (∀ p sub, (s.port p).sub = some sub → sub.cursor ≤ s.records.length) ∧
    (s.records ≠ [] → ∃ p sub, (s.port p).sub = some sub ∧ sub.cursor = 0)

/-- A request queue holds at most six frames (R171). -/
def RequestsFit (s : State) : Prop := ∀ p, (s.port p).queue.length ≤ queueLimit

/-- Exactly one port holds the CONSERVATION role (R173). -/
def OneConservation (s : State) : Prop :=
  ∃ p, (s.port p).role = .conservation ∧ ∀ q, (s.port q).role = .conservation → q = p

/-- The conservation port holds the ENVELOPE right in every zone (R174). -/
def ConservationKeepsEnvelope (s : State) : Prop :=
  ∀ p z, (s.port p).role = .conservation → s.may p z .envelope = true

/-- A channel's tenure record is in order (R112, R114): a free channel has no waiters, the holder does not wait, no port waits twice,
and the waiters stand in chain order. -/
def TenureInOrder (s : State) : Prop :=
  ∀ z ch, ((s.chan z ch).holder = none → (s.chan z ch).waiters = []) ∧
    (∀ p, (s.chan z ch).holder = some p → p ∉ (s.chan z ch).waiters) ∧
    (s.chan z ch).waiters = s.chain.filter fun q => (s.chan z ch).waiters.contains q

/-- An object's pace state is EXHAUSTED exactly when its consumed dose is at least its allowance (R70). -/
def ExhaustedExactly (s : State) : Prop :=
  ∀ o, (s.object o).pace = .exhausted ↔ (s.object o).cfg.allowance ≤ (s.object o).acct.consumed

/-- The envelope in force is the one computed from the configuration last written (R16), and a zone is in CONFLICT exactly while its
effective RH band is inverted (R17, R18). -/
def EnvelopeInForce (s : State) : Prop :=
  ∀ z, (s.zone z).eff = s.effOf z ∧ (s.zone z).conflict = decide ((s.zone z).eff.rhHi < (s.zone z).eff.rhLo)

/-- The zone ceiling C is the min of R71 over the envelope ceiling and the pace states as they stand (R71, R72). -/
def CeilingInForce (s : State) : Prop := ∀ z, (s.zone z).ceiling = s.ceilingOf z

/-- While an override is active on a channel, its granted value never lies on the brighter or more open side of the override value
(R84, R140). -/
def OverrideHolds (s : State) : Prop :=
  ∀ z, (∀ v g, (s.zone z).ovr.light = some v → (s.chan z .light).granted = some g → g ≤ (v : Int)) ∧
    (∀ v g, (s.zone z).ovr.shade = some v → (s.chan z .shade).granted = some g → (v : Int) ≤ g)

/-- An open link record holds a count of 1..4, and members for distinct channels of the one zone it has fixed (R100, R103). -/
def LinkRecord.WellFormed (l : LinkRecord) : Prop :=
  1 ≤ l.remaining ∧ l.remaining ≤ 4 ∧ (l.members.map Member.ch).Nodup ∧ (l.members ≠ [] → l.zone.isSome)

/-- Every open link record is well formed (R100). -/
def LinksWellFormed (s : State) : Prop := ∀ p l, (s.port p).link = some l → l.WellFormed

/-- A transaction under way to an actuator goes to a node bound to a channel that LC may address (the part SUPERVISED, the zone ON),
unless it has been abandoned (R7, R156, R157). -/
def TransactionsAddressed (s : State) : Prop :=
  ∀ t, s.txn = some t → t.op = .read ∨ t.abandoned = true ∨
    ∃ z ch, s.addressable z ch = true ∧ s.actNode z ch = some t.node

/-- In STANDBY no set is open (R106), nothing is granted (R98), no override stands (R142), and LC holds no value for any channel and
no command (R156). -/
def StandbyIsQuiet (s : State) : Prop :=
  s.supervised = false →
    (∀ p, (s.port p).link = none) ∧
    (∀ z, (s.zone z).ovr = .empty) ∧
    (∀ z ch, (s.chan z ch).granted = none ∧ (s.chan z ch).pending = none ∧ (s.chan z ch).sent = none ∧
      (s.chan z ch).replaced = false ∧ (s.chan z ch).applied = none) ∧
    s.commands = []

/-- A run is safe while every state of it keeps every promise above. -/
structure Safe (s : State) : Prop where
  queueFits             : QueueFits s
  heldRecordsUnread     : HeldRecordsUnread s
  requestsFit           : RequestsFit s
  oneConservation       : OneConservation s
  keepsEnvelope         : ConservationKeepsEnvelope s
  tenureInOrder         : TenureInOrder s
  exhaustedExactly      : ExhaustedExactly s
  envelopeInForce       : EnvelopeInForce s
  ceilingInForce        : CeilingInForce s
  overrideHolds         : OverrideHolds s
  linksWellFormed       : LinksWellFormed s
  transactionsAddressed : TransactionsAddressed s
  standbyIsQuiet        : StandbyIsQuiet s

end Sys2Proof.Machine
end

