-- ==== Sys2Proof/Certificates/Slice0/Obligations.lean ====
section
/-! DEFINITION. Obligations.lean: the statements for the provers, and the words they use. -/

namespace Sys2Proof.Machine

open Sys2Proof

/-! ## The words of the statements -/

/-- The next request of port `p` is the frame `f` with command code `cmd`; `rest` waits behind it (R171, R181). -/
def NextRequest (s : State) (p : PortId) (cmd : Byte) (f : Frame) (rest : List Frame) : Prop :=
  (s.port p).queue = f :: rest ∧ f.cmd = cmd

/-- A counter raised by one and held at 65535 (R175). -/
def raised (n : Nat) : Nat := min 65535 (n + 1)

/-- The state once PI has taken the next request of `p` (R171, R175). -/
def State.withTaken (s : State) (p : PortId) (rest : List Frame) : State :=
  s.modPort p fun pt => { pt with queue := rest, taken := raised pt.taken }

/-- The state once the next request of `p` has been taken and answered, with nothing else changed. -/
def State.answered (s : State) (p : PortId) (f : Frame) (rest : List Frame) (st : Status) (payload : List Byte) : State :=
  s.modPort p fun pt =>
    { pt with
        queue := rest
        taken := raised pt.taken
        tx := pt.tx ++ [{ tag := f.tag, status := st, payload := payload }] }

/-- The state once the next request of `p` has been taken and refused with `code`, naming `zone` and `ch` (R172, R175), with
nothing else changed. -/
def State.refusedWith (s : State) (p : PortId) (f : Frame) (rest : List Frame) (code : Status) (zone : Option ZoneId)
    (ch : Option ChanKind) : State :=
  s.modPort p fun pt =>
    { pt with
        queue := rest
        taken := raised pt.taken
        refusal := some { cmd := f.cmd, zone := zone, ch := ch, code := code, time := s.clock }
        refusals := raised pt.refusals
        tx := pt.tx ++ [{ tag := f.tag, status := code, payload := [] }] }

/-- What a request that is accepted does to the ports' queues, counters, responses and refusal records (R171, R175): port `p` has
`rest` left to take and one response more, and the other ports have what they had. -/
structure Accepted (s t : State) (p : PortId) (f : Frame) (rest : List Frame) (st : Status) (payload : List Byte) : Prop where
  queue    : (t.port p).queue = rest
  taken    : (t.port p).taken = raised (s.port p).taken
  response : (t.port p).tx = (s.port p).tx ++ [{ tag := f.tag, status := st, payload := payload }]
  faults   : (t.port p).discards = (s.port p).discards ∧ (t.port p).portFull = (s.port p).portFull
  others   : ∀ q, q ≠ p → (t.port q).queue = (s.port q).queue ∧ (t.port q).tx = (s.port q).tx ∧
    (t.port q).taken = (s.port q).taken ∧ (t.port q).discards = (s.port q).discards ∧
    (t.port q).portFull = (s.port q).portFull

/-- The parts every accepted request changes. -/
abbrev intake : List Part := [.queue, .counters, .tx]

/-- What an offered record and the attention bits that go with it can change (R163, R168, R169, R176). -/
abbrev reporting : List Part := [.records, .sub, .attn]

/-- Every zone but `z` is as it was. -/
def OtherZones (s t : State) (z : ZoneId) : Prop := ∀ z', z' ≠ z → t.zone z' = s.zone z'

/-- Every object but `o` is as it was. -/
def OtherObjects (s t : State) (o : ObjId) : Prop := ∀ o', o' ≠ o → t.object o' = s.object o'

/-- The record last in the list is `r`, if a port was subscribed (R162, R163). -/
def Reports (s t : State) (r : Record) : Prop := s.anySubscribed = true → ∃ old, t.records = old ++ [r]

/-- The records from the last in the list back are `rs`, if a port was subscribed (R162, R163). -/
def ReportsAll (s t : State) (rs : List Record) : Prop := s.anySubscribed = true → ∃ old, t.records = old ++ rs

/-- The records of the kind that `test` picks, among those appended from `s` to `t`, are `rs`, if a port was subscribed (R162, R163). -/
def RecordsOf (test : Record → Bool) (s t : State) (rs : List Record) : Prop :=
  s.anySubscribed = true → ∃ k new, t.records = s.records.drop k ++ new ∧ new.filter test = rs

/-- A CLOCK record. -/
def Record.isClock : Record → Bool
  | .clock .. => true
  | _ => false

/-- A NODE record. -/
def Record.isNode : Record → Bool
  | .node .. => true
  | _ => false

/-- A PACE record. -/
def Record.isPace : Record → Bool
  | .pace .. => true
  | _ => false

/-- A PACE record of an object. -/
def Record.isPaceOf (o : ObjId) : Record → Bool
  | .pace _ o' .. => o' == o
  | _ => false

/-- A ROLLOVER record of an object. -/
def Record.isRolloverOf (o : ObjId) : Record → Bool
  | .rollover _ o' .. => o' == o
  | _ => false

/-- A TENURE record of a channel. -/
def Record.isTenureOf (z : ZoneId) (ch : ChanKind) : Record → Bool
  | .tenure _ z' ch' .. => z' == z && ch' == ch
  | _ => false

/-- The record of an object's pace state that goes from `before` to `after`, if it changes (R70). -/
def paceChange (now : GTime) (o : ObjId) (z : ZoneId) (before after : Pace) (consumed : Nat) : List Record :=
  if before = after then [] else [.pace now o z before after consumed]

/-- The sticky set of a zone only grows, and a condition new in it makes ZONE_CONDITION pending on the ports that have it in their
condition enable set and the zone in their zone set, and on no other (R92). -/
structure StickyReported (s t : State) (z : ZoneId) : Prop where
  kept      : (s.zone z).sticky &&& ~~~(t.zone z).sticky = 0
  attention : ∀ p, hasAttn (t.port p).attn .zoneCondition = true ↔ hasAttn (s.port p).attn .zoneCondition = true ∨
    ((s.port p).zoneSet.getLsbD z.val = true ∧ (s.port p).condSet &&& ((t.zone z).sticky &&& ~~~(s.zone z).sticky) ≠ 0)

/-- A change of a node's state is reported, and nothing else about nodes is: a NODE record, and NODE pending on the ports whose zone
set holds the zone that binds the node, or on every port for a node that no zone binds (R149). -/
structure NodeReported (s t : State) (n : NodeId) : Prop where
  record    : RecordsOf Record.isNode s t
    (if (s.node n).state = (t.node n).state then [] else [.node s.clock n (s.node n).state (t.node n).state])
  attention : ∀ p, hasAttn (t.port p).attn .node = true ↔ hasAttn (s.port p).attn .node = true ∨
    ((s.node n).state ≠ (t.node n).state ∧ ∀ z, s.boundZone n = some z → (s.port p).zoneSet.getLsbD z.val = true)

/-- A refused request leaves its refusal and its count, and nothing else (R172, R175). -/
def Refuses (c : Instr) (s : State) (p : PortId) (f : Frame) (rest : List Frame) (code : Status) (zone : Option ZoneId) : Prop :=
  exec c s = .next ((s.refusedWith p f rest code zone none).countRequest p)

end Sys2Proof.Machine

/-! ## The words for excursions and overrides -/

namespace Sys2Proof.Machine

/-- An open excursion after a test that keeps it open, with the amount and the side by which the value stands beyond its limit
(R133). -/
def Excursion.tracked (e : Excursion) (now : GTime) (amount : Nat) (side : Side) : Excursion :=
  if e.peak < amount then { start := e.start, side := side, peak := amount, peakTime := now } else e

/-- What a test makes of the excursion of a kind (R127, R128, R133 to R135). -/
structure Tested (now : GTime) (opens closes : Prop) (amount : Nat) (side : Side) (before after : Option Excursion) : Prop where
  opened : before = none → opens → after = some { start := now, side := side, peak := amount, peakTime := now }
  quiet  : before = none → ¬ opens → after = none
  closed : ∀ e, before = some e → closes → after = none
  kept   : ∀ e, before = some e → ¬ closes → after = some (e.tracked now amount side)

/-- The test of a band lo..hi whose margin is at most `margin` (R127). -/
def BandTested (now : GTime) (margin lo hi v : Int) : Option Excursion → Option Excursion → Prop :=
  let m := min margin ((hi - lo) / 2)
  Tested now (v < lo ∨ hi < v) (lo + m ≤ v ∧ v ≤ hi - m) (if v < lo then (lo - v).toNat else (v - hi).toNat)
    (if v < lo then .low else .high)

/-- The test of a swing against its limit (R128). -/
def SwingTested (now : GTime) (margin limit swing : Int) : Option Excursion → Option Excursion → Prop :=
  Tested now (limit < swing) (swing ≤ max 0 (limit - margin)) (swing - limit).toNat .high

/-- `x` spans the non-empty slots of a ring: each of its ends is the least or the greatest of theirs (R27). -/
def Spans (ring : List (Option Slot)) (x : Slot) : Prop :=
  (∀ y, some y ∈ ring → x.tMin ≤ y.tMin ∧ y.tMax ≤ x.tMax ∧ x.rhMin ≤ y.rhMin ∧ y.rhMax ≤ x.rhMax) ∧
    (∃ y, some y ∈ ring ∧ y.tMin = x.tMin) ∧ (∃ y, some y ∈ ring ∧ y.tMax = x.tMax) ∧
    (∃ y, some y ∈ ring ∧ y.rhMin = x.rhMin) ∧ ∃ y, some y ∈ ring ∧ y.rhMax = x.rhMax

/-- The LUX test of a zone, from what it held to what it holds, at a sample `e` under the ceiling `c` (R129). -/
structure LuxTested (now : GTime) (grace c e : Nat) (before after : Zone) : Prop where
  idle : before.exc .lux = none → before.det.luxPending = none →
    if e ≤ c then after.exc .lux = none ∧ after.det.luxPending = none
    else if grace = 0 then
      after.exc .lux = some { start := now, side := .high, peak := e - c, peakTime := now } ∧ after.det.luxPending = none
    else after.exc .lux = none ∧ after.det.luxPending = some { start := now, peak := e - c, peakTime := now }
  pending : ∀ q, before.exc .lux = none → before.det.luxPending = some q →
    if e ≤ c then after.exc .lux = none ∧ after.det.luxPending = none
    else
      let peak := max q.peak (e - c)
      let time := if q.peak < e - c then now else q.peakTime
      if grace ≤ now.toSeconds - q.start.toSeconds then
        after.exc .lux = some { start := q.start, side := .high, peak := peak, peakTime := time } ∧ after.det.luxPending = none
      else after.exc .lux = none ∧ after.det.luxPending = some { start := q.start, peak := peak, peakTime := time }
  running : ∀ x, before.exc .lux = some x →
    after.exc .lux = (if e ≤ c then none else some (x.tracked now (e - c) .high)) ∧
      after.det.luxPending = before.det.luxPending

/-- The UV test of a zone, from what it held to what it holds, at a sample `uv` under the ceiling `c` (R131). -/
structure UvTested (now : GTime) (c uv : Nat) (before after : Zone) : Prop where
  under  : uv ≤ c → after.exc .uv = none ∧ after.det.uvFirst = none
  first  : c < uv → before.exc .uv = none → before.det.uvFirst = none →
    after.exc .uv = none ∧ after.det.uvFirst = some { time := now, amount := uv - c }
  second : ∀ u, c < uv → before.exc .uv = none → before.det.uvFirst = some u →
    after.exc .uv = some { start := u.time, side := .high, peak := max u.amount (uv - c),
                           peakTime := if u.amount < uv - c then now else u.time } ∧ after.det.uvFirst = none
  running : ∀ x, c < uv → before.exc .uv = some x →
    after.exc .uv = some (x.tracked now (uv - c) .high) ∧ after.det.uvFirst = before.det.uvFirst

/-- The record of a kind whose excursion opened or closed (R134, R135). -/
def excursionRecord (now : GTime) (z : ZoneId) (reason : CloseReason) (k : ExcKind) :
    Option Excursion → Option Excursion → List Record
  | none, some e => [.excursionOpen z k e.side e.start]
  | some e, none => [.excursionClose now z k e reason]
  | _, _ => []

/-- The reports of what opened and closed, in the order of the kinds: the records, and EXCURSION pending on the ports whose zone set
holds the zone (R134 to R136). -/
structure ExcursionsReported (s t : State) (z : ZoneId) (kinds : List ExcKind) (reason : CloseReason) : Prop where
  records : ReportsAll s t
    (kinds.flatMap fun k => excursionRecord s.clock z reason k ((s.zone z).exc k) ((t.zone z).exc k))
  attention : ∀ p, hasAttn (t.port p).attn .excursion = true ↔ hasAttn (s.port p).attn .excursion = true ∨
    ((s.port p).zoneSet.getLsbD z.val = true ∧ ∃ k ∈ kinds, ((s.zone z).exc k).isSome ≠ ((t.zone z).exc k).isSome)

/-- The test of a swing at a five-minute mark, which tracks or closes an excursion and opens none (R128). -/
def MarkTested (now : GTime) (margin limit swing : Int) (before after : Option Excursion) : Prop :=
  (before = none → after = none) ∧ ∀ e, before = some e →
    after = if swing ≤ max 0 (limit - margin) then none else some (e.tracked now (swing - limit).toNat .high)

/-- The SHADE override in force: the more closed of the parts present (R137). -/
def shadeInForce (o : Override) : Option Nat :=
  match o.shadeLux, o.shadeUv with
  | some a, some b => some (max a b)
  | some a, none => some a
  | none, b => b

end Sys2Proof.Machine

open Sys2Proof Sys2Proof.Machine

/-! ## Steps -/

/-- A step takes the command at the front of the queue and runs it with the queue's rest. The queue of waiting commands is the
model's own (notes/assumptions/3.md and 8.md). -/
def Obligations.StepTakesFrontCommand : Prop :=
  ∀ (c : Instr) (rest : List Instr) (s : State), s.pending = c :: rest → step s = exec c { s with pending := rest }

/-- Every command answers a next state in every state, and leaves the queue of commands to the step. That an event which cannot
arise in a state leaves it as it is, and that nothing faults or is refused, is the model's choice (notes/assumptions/2.md). -/
def Obligations.EveryCommandCompletes : Prop := ∀ (c : Instr) (s : State), ∃ t, exec c s = .next t ∧ t.pending = s.pending

/-! ## Start-up -/

namespace Sys2Proof.Machine

/-- What start-up leaves of everything that CONFIG, DOSE and the straps do not fill (R20, R86, R90, R100, R112, R126, R145, R148, R150,
R152, R159, R170, R171, R175, R176, R186, R189, R190). -/
structure StartedUp (straps : Straps) (s t : State) (lost byPin : Bool) : Prop where
  standby : t.supervised = false
  flag    : t.clockLost = (s.clockLost || lost)
  rate    : t.rate = straps.rate
  marks   : t.minuteMarks = [] ∧ t.fiveMarks = []
  loop    : t.txn = none ∧ t.commands = []
  ports   : ∀ p, t.port p =
    { Port.fresh straps.roles[p] (t.port p).role (t.port p).rights with
        attn := if t.clockLost then attnBit .clockLost else 0
        sub := if (t.port p).role = .conservation then some { cursor := 0, watermark := 2048, lost := 0, watch := none } else none }
  zones   : ∀ z, (t.zone z).est = .default ∧ (t.zone z).det = .default ∧ (t.zone z).ovr = .empty ∧ (t.zone z).cause = 0 ∧
    (t.zone z).horizon = t.clock
  chans   : ∀ z ch, t.chan z ch = { Channel.fresh t.clock with holder := (t.chan z ch).holder }
  nodes   : ∀ n, t.node n =
    { Node.empty with
        kind := (t.node n).kind
        code := (t.node n).code
        due := if isSensor (t.node n).kind = true ∧ 0 < (t.node n).code then some t.clock else none
        waiting := isSensor (t.node n).kind && decide (0 < (t.node n).code) }
  records : t.records = [.start t.clock s.store.config.isSome s.store.dose.isSome lost byPin]
  drops   : t.sampleDrops = 0
  store   : t.store = Store.fresh s.store.config s.store.dose
  own     : t.crystal = s.crystal ∧ t.pending = s.pending ∧ t.draws = s.draws

/-- The two commands that run start-up with the straps given, and whether the backup domain was lost at it. -/
def StartsUp (c : Instr) (straps : Straps) (lost : Bool) : Prop :=
  (c = .resetPin straps ∧ lost = false) ∨ ∃ kept, c = .powerOn straps kept ∧ lost = kept.isNone

end Sys2Proof.Machine

/-- Start-up leaves the part in STANDBY with every block in its after-reset state, reports itself, and leaves the clock at the
time that R184 and R189 give. The seconds the clock ran on while the part was off are the command's operand. That start-up keeps
the model's own queue, draw count and crystal seconds, and each value the reference does not state, are the model's choices
(notes/assumptions/8.md, 28.md and 29.md). -/
def Obligations.StartUpAfterResetState : Prop :=
  ∀ (straps : Straps) (s : State),
    (∀ n, ∃ t, exec (.powerOn straps (some n)) s = .next t ∧ StartedUp straps s t false false ∧
      t.clock = s.clock.runOn n) ∧
    (∃ t, exec (.powerOn straps none) s = .next t ∧ StartedUp straps s t true false ∧
      t.clock = (match s.store.dose with | some d => d.checkpoint | none => { day := 0, sec := 0 })) ∧
    (∃ t, exec (.resetPin straps) s = .next t ∧ StartedUp straps s t false true ∧ t.clock = s.clock)

/-- Start-up loads what CONFIG holds, or the defaults with every zone and object OFF, and computes every effective envelope (R19,
R174, R189 step 2); it gives exactly one port the CONSERVATION role, by the straps (R173), and every channel its default holder
(R113). A store section's validity stands in place of its checksum (notes/assumptions/23.md). -/
def Obligations.StartUpLoadsConfigAndRoles : Prop :=
  (∀ (c : Instr) (straps : Straps) (lost : Bool) (s : State), StartsUp c straps lost →
      ∃ t, exec c s = .next t ∧
        (∀ img, s.store.config = some img →
          (∀ z, (t.zone z).cfg = img.zones[z] ∧ (t.zone z).env = img.envs[z]) ∧
          (∀ o, (t.object o).cfg = img.objects[o]) ∧
          (∀ n, ((t.node n).kind, (t.node n).code) = img.nodes[n]) ∧
          (∀ (p : PortId) (z : ZoneId), (t.port p).rights[z] =
            if (t.port p).role = .conservation then img.rights[p][z] ||| 0x9#4 else img.rights[p][z]) ∧
          t.periodN = img.periodN ∧ t.holds = img.holds) ∧
        (s.store.config = none →
          (∀ z, (t.zone z).cfg = .default ∧ (t.zone z).env = .default) ∧ (∀ o, (t.object o).cfg = .default) ∧
          (∀ n, (t.node n).kind = .none) ∧ (∀ (p : PortId) (z : ZoneId), (t.port p).rights[z] = roleRights (t.port p).role) ∧
          t.periodN = 365 ∧ t.holds = #v[600, 600, 0, 0]) ∧
        (∀ z, (t.zone z).eff = t.effOf z ∧ (t.zone z).conflict = decide ((t.zone z).eff.rhHi < (t.zone z).eff.rhLo) ∧
          (t.zone z).sticky = if (t.zone z).conflict then condBit .conflict else 0)) ∧
  (∀ (c : Instr) (straps : Straps) (lost : Bool) (s : State), StartsUp c straps lost →
      ∃ t, exec c s = .next t ∧
        (∃ p, (t.port p).role = .conservation ∧
          (∀ q, q ≠ p → (t.port q).role = if straps.roles[q] = .conservation then .none else straps.roles[q]) ∧
          ((∃ q : PortId, straps.roles[q] = .conservation) →
            straps.roles[p] = .conservation ∧ ∀ q, q < p → straps.roles[q] ≠ .conservation) ∧
          ((∀ q : PortId, straps.roles[q] ≠ .conservation) → p = 0)) ∧
        (∀ z ch p, (t.chan z ch).holder = some p ↔
          ((t.port p).role = defaultRole ch ∧ t.may p z (chanRight ch) = true ∧
            ∀ q, q < p → ¬((t.port q).role = defaultRole ch ∧ t.may q z (chanRight ch) = true))))

/-- Start-up restores the dose accounts with the restore charge, or exhausts every object when DOSE was rejected, and then
evaluates every pace state and every C (R67, R68). A section's validity stands in place of its checksum (notes/assumptions/23.md).
-/
def Obligations.StartUpRestoresDose : Prop :=
  ∀ (c : Instr) (straps : Straps) (lost : Bool) (s : State), StartsUp c straps lost →
    ∃ t, exec c s = .next t ∧
      (∀ d, s.store.dose = some d →
        t.periodStart = min d.periodStart t.clock.day ∧
        ∀ o, (t.object o).acct =
          if (t.object o).cfg.use = true ∧ (t.zone (t.object o).cfg.zone).cfg.use = true then
            d.accounts[o].charge
              ((if lost = false ∧ d.checkpoint.notAfter t.clock = true then min 900 (t.clock.since d.checkpoint) else 900) *
                ((d.ceilings[(t.object o).cfg.zone] * (t.object o).cfg.w + 500) / 1000))
          else d.accounts[o]) ∧
      (s.store.dose = none →
        t.periodStart = t.clock.day ∧
        ∀ o, (t.object o).acct = { consumed := (t.object o).cfg.allowance, frac := 0, previous := 0 } ∧
          (t.object o).pace = .exhausted) ∧
      (∀ o, (t.object o).pace = t.paceNow o) ∧ (∀ z, (t.zone z).ceiling = t.ceilingOf z)

/-! ## Receivers and lines -/

/-- A frame written out as R180 writes it arrives whole on an idle port with room in its queue: the request joins the queue as it
was written, whatever its tag, command and payload (R170, R171). -/
def Obligations.WrittenFrameIsReceived : Prop :=
  ∀ (s : State) (p : PortId) (f : Frame), (s.port p).rx = .idle → f.payload.length ≤ 245 → (s.port p).queue.length < 6 →
    exec (.frame p (requestWire f)) s = .next (s.modPort p fun pt => { pt with queue := pt.queue ++ [f] })

/-- A good frame on a port whose queue holds six is answered PORT_FULL at once and not queued, and an open set on the port breaks
after that answer (R171, R106). A frame whose LEN is out of range, whose CRC does not match or that stops for 20 ms is discarded:
the discard counter rises, the receiver is idle, an open set breaks, and nothing else changes; an idle receiver ignores every byte
but the start byte, and a gap (R170). A response that has gone leaves the line to the next one, in the order of the answers
(R171); the pulse of an attention line ends (R176). That the PORT_FULL response has no payload and the timers are not guarded is
the model's choice (notes/assumptions/6.md and 19.md). -/
def Obligations.TurnedAwayFramesAndLineEvents : Prop :=
  (∀ (s : State) (p : PortId) (f : Frame), (s.port p).rx = .idle → f.payload.length ≤ 245 → 6 ≤ (s.port p).queue.length →
      exec (.frame p (requestWire f)) s = .next ((s.modPort p fun pt =>
        { pt with
            portFull := raised pt.portFull
            refusal := some { cmd := f.cmd, zone := none, ch := none, code := .portFull, time := s.clock }
            refusals := raised pt.refusals
            tx := pt.tx ++ [{ tag := f.tag, status := .portFull, payload := [] }] }).breakLink p false)) ∧
  (∀ (s : State) (p : PortId),
      let dropped := (s.modPort p fun pt => { pt with rx := .idle, discards := raised pt.discards }).breakLink p false
      ((s.port p).rx = .idle → ∀ len : Byte, len.toNat < 2 ∨ 247 < len.toNat →
        exec (.frame p [0xC3, len]) s = .next dropped) ∧
      ((s.port p).rx = .idle → ∀ (body : List Byte) (a b : Byte), 2 ≤ body.length → body.length ≤ 247 →
        [a, b] ≠ u2 (crc16 (u1 body.length :: body)) →
        exec (.frame p (0xC3 :: u1 body.length :: (body ++ [a, b]))) s = .next dropped) ∧
      ((s.port p).rx = .idle → ∀ bytes : List Byte, 0xC3 ∉ bytes → exec (.frame p bytes) s = .next s) ∧
      ((∃ bytes, (s.port p).rx = .inFrame bytes) → exec (.interByteGap p) s = .next dropped) ∧
      ((s.port p).rx = .idle → exec (.interByteGap p) s = .next s)) ∧
  (∀ (s : State) (p : PortId),
      exec (.responseSent p) s = .next (s.modPort p fun pt => { pt with tx := pt.tx.tail }) ∧
      exec (.attentionPulseEnd p) s = .next (s.modPort p fun pt => { pt with pulse := false }))

/-! ## Requests that are turned away, and counting -/

namespace Sys2Proof.Machine

/-- The command codes of the Layouts section (R181). -/
def commandCodes : List Nat :=
  [0x01, 0x02, 0x03, 0x04, 0x05, 0x10, 0x11, 0x12, 0x13, 0x14, 0x15, 0x16, 0x17, 0x20, 0x21, 0x22, 0x23, 0x24, 0x28, 0x29, 0x30,
    0x31, 0x32, 0x33, 0x34, 0x35, 0x36, 0x37]

/-- The commands of port `p` with which a system command of code `cmd` can be taken (R172, R181). -/
def systemCommands (p : PortId) : List (Byte × Instr) :=
  [(0x30, .superviseOn p), (0x30, .superviseOff p), (0x31, .setClock p), (0x32, .save p), (0x33, .writeAuthority p),
    (0x34, .writeNode p), (0x35, .resetDose p), (0x36, .setPeriod p), (0x37, .setHold p)]

/-- The requests of port `p` with a payload of one length: code, command and length (R181). LINK and SET_POINT have more to do on a payload
that is malformed, and the three configuration writes have no one length. -/
def payloadLengths (p : PortId) : List (Byte × Instr × Nat) :=
  [(0x03, .takeTenure p, 3), (0x04, .releaseTenure p, 2), (0x05, .clearConditions p, 3), (0x13, .readObject p, 1),
    (0x14, .readZone p, 2), (0x15, .readNode p, 1), (0x16, .readPort p, 1), (0x17, .readSystem p, 0), (0x20, .subscribeOn p, 3),
    (0x21, .drain p, 1), (0x22, .scan p, 8), (0x23, .setWatchOn p, 9), (0x24, .mark p, 1), (0x28, .setAttention p, 6),
    (0x29, .ackAttention p, 2), (0x30, .superviseOn p, 1), (0x31, .setClock p, 5), (0x32, .save p, 0), (0x33, .writeAuthority p, 3),
    (0x34, .writeNode p, 3), (0x35, .resetDose p, 5), (0x36, .setPeriod p, 5), (0x37, .setHold p, 3)]

end Sys2Proof.Machine

/-- A taken request with a code that is none of those of R181 is answered BAD_CMD; a system command from a port without the
CONSERVATION role is answered ROLE before its payload is looked at; a payload that has not the length of its command's layout is
answered BAD_ARG. None of them does anything else but count (R172 steps 1 to 3). Which zone and channel a refused request named is
read as notes/assumptions/18.md says, and malformed SUBSCRIBE, SET_WATCH and SUPERVISE frames go to the on row
(notes/assumptions/5.md). -/
def Obligations.RequestsTurnedAwayBeforeTheirChecks : Prop :=
  (∀ (s : State) (p : PortId) (cmd : Byte) (f : Frame) (rest : List Frame), NextRequest s p cmd f rest →
      cmd.toNat ∉ commandCodes → exec (.badCmd p) s = .next ((s.refusedWith p f rest .badCmd none none).countRequest p)) ∧
  (∀ (s : State) (p : PortId) (cmd : Byte) (c : Instr) (f : Frame) (rest : List Frame), NextRequest s p cmd f rest →
      (s.port p).role ≠ .conservation → (cmd, c) ∈ systemCommands p →
      (c = .superviseOff p → f.payload = [0]) → (c = .superviseOn p → f.payload ≠ [0]) →
      exec c s = .next ((s.refusedWith p f rest .role (namedBy f).1 (namedBy f).2).countRequest p)) ∧
  (∀ (s : State) (p : PortId) (cmd : Byte) (c : Instr) (len : Nat) (f : Frame) (rest : List Frame), NextRequest s p cmd f rest →
    (cmd, c, len) ∈ payloadLengths p → f.payload.length ≠ len → (0x30 ≤ cmd.toNat → (s.port p).role = .conservation) →
    exec c s = .next ((s.refusedWith p f rest .badArg none none).countRequest p))

/-! ## Reads -/

namespace Sys2Proof.Machine

/-- A node field as READ_ZONE carries it: address or none, then the node's state if one is bound (R37). -/
def nodeItems (s : State) (n : Option NodeId) : List Byte :=
  match n with
  | some n => [u1 (n.val + 1), 1, u1 (nodeStateCode (s.node n).state)]
  | none => [0, 0]

/-- The items of the groups 1 to 7 of READ_ZONE, in the order of R37, R125, R133 and R178 and the widths of R180. -/
def zoneItems (s : State) (z : ZoneId) : Nat → List Byte
  | 1 =>
    let e := (s.zone z).est
    s2opt (e.filt.map Prod.fst) ++ rh2opt (e.filt.map Prod.snd) ++ flag1 e.seeded ++ flag1 (s.usable z) ++
      s2opt (e.raw.map Prod.fst) ++ rh2opt (e.raw.map Prod.snd) ++ nodeItems s (s.zone z).cfg.climateNode
  | 2 =>
    let e := (s.zone z).est
    s2opt (e.extremes.map Slot.tMin) ++ s2opt (e.extremes.map Slot.tMax) ++ rh2opt (e.extremes.map Slot.rhMin) ++
      rh2opt (e.extremes.map Slot.rhMax) ++ u2 e.ring.length ++ [if ∀ x ∈ e.ring, x = none then 1 else 0]
  | 3 =>
    let e := (s.zone z).est
    flag1 e.eMeas.isSome ++ u2opt e.eMeas ++ u2opt e.uv ++ flag1 e.saturated ++ flag1 e.d.isSome ++ u2opt e.d ++
      u4 (e.d0.getD 0xFFFFFFFF) ++ [u1 (d0Code e.d0Status)] ++ nodeItems s (s.zone z).cfg.lightNode
  | 4 => [ChanKind.light, .shade, .heat, .moist].flatMap fun ch =>
    let c := s.chan z ch
    let o := (s.zone z).ovr
    let on : Option Nat := match ch with
      | .light => o.light
      | .shade => [o.shadeLux, o.shadeUv].reduceOption.max?
      | .heat | .moist => none
    let kinds : Nat := match ch with
      | .light => if o.light.isSome then 1 else 0
      | .shade => (if o.shadeLux.isSome then 1 else 0) + if o.shadeUv.isSome then 2 else 0
      | .heat | .moist => 0
    s2opt c.granted ++ s2opt c.applied ++ s2opt c.pending ++ [finOpt c.holder, finOpt c.waiters[0]?, finOpt c.waiters[1]?] ++
      u4 (min 0xFFFFFFFF (s.clock.toSeconds - c.lastActivity.toSeconds)) ++ s2opt (on.map Int.ofNat) ++ [u1 kinds]
  | 5 =>
    let e := (s.zone z).eff
    s2 e.tLo ++ s2 e.tHi ++ s2 e.rhLo ++ s2 e.rhHi ++ s2 e.tSwing ++ s2 e.rhSwing ++ u2 e.uv ++ u2 e.lux ++
      u2 (s.zone z).ceiling ++ flag1 (s.zone z).conflict
  | 6 => u2 (s.zone z).cause.toNat ++ u2 (s.zone z).sticky.toNat
  | 7 =>
    ([ExcKind.tBand, .rhBand, .tSwing, .rhSwing, .lux, .uv].flatMap fun k => match (s.zone z).exc k with
      | some x => 1 :: (timeBytes x.start ++ [kindSide k x.side] ++ u2 x.peak ++ timeBytes x.peakTime)
      | none => [0]) ++
      (match (s.zone z).det.luxPending with
      | some q => 1 :: (timeBytes q.start ++ u2 q.peak ++ timeBytes q.peakTime)
      | none => [0]) ++ u2 (if (s.zone z).det.uvFirst.isSome then 1 else 0)
  | _ => []

/-- The items of READ_NODE, in the order of R158: the entry, the zone and node field that bind it, the state, and those of a sensor
or of an actuator. -/
def nodeReadItems (s : State) (n : NodeId) : List Byte :=
  let nd := s.node n
  let state := [1, u1 (nodeStateCode nd.state)]
  [u1 (kindCode nd.kind), u1 nd.code] ++
    (match s.boundAt n with
    | some (z, field) => [u1 z.val, u1 field]
    | none => [0xFF, 0]) ++
    if nd.kind = .none then [0]
    else if isSensor nd.kind then state ++ u2 nd.misses ++ timeOptBytes nd.due
    else state ++ u2 nd.attempts ++ timeOptBytes (nd.retry.orElse fun _ => nd.due) ++
      match s.boundChan n with
      | some (z, ch) => s2opt (s.chan z ch).pending ++ s2opt (s.chan z ch).sent ++ s2opt (s.chan z ch).applied
      | none => []

/-- The items of READ_PORT, in the order of R179, with `ms` milliseconds to the expiry of an open set. -/
def portItems (s : State) (q : PortId) (ms : Nat) : List Byte :=
  let pt := s.port q
  [u1 (roleCode pt.strap), u1 (roleCode pt.role)] ++ ((List.finRange 8).map fun z => u1 pt.rights[z].toNat) ++ u2 pt.queue.length ++
    (match pt.link with
    | some l => [1, u1 l.remaining, finOpt l.zone] ++ u2 ms ++ [u1 l.members.length] ++
        l.members.flatMap fun m => [m.tag, u1 (chanIdx m.ch).val] ++ s2 m.value
    | none => [0]) ++
    (match pt.refusal with
    | some r => [1, r.cmd, finOpt r.zone, chanOpt r.ch, u1 (statusCode r.code)] ++ timeBytes r.time
    | none => [0]) ++
    u2 pt.taken ++ u2 pt.discards ++ u2 pt.portFull ++ u2 pt.refusals ++ u2 pt.attn.toNat ++ u2 pt.enable.toNat ++
    [u1 pt.zoneSet.toNat] ++ u2 pt.condSet.toNat ++ [u1 (modeCode pt.mode)] ++
    match pt.sub with
    | some x => 1 :: (u2 x.watermark ++ u2 (totalSize (s.records.drop x.cursor)) ++ u2 (s.records.drop x.cursor).length ++ u2 x.lost ++
        match x.watch with
        | some sel => 1 :: selectionBytes sel
        | none => [0])
    | none => [0, 0xFF, 0xFF, 0xFF, 0xFF, 0xFF, 0xFF, 0xFF, 0xFF, 0]

end Sys2Proof.Machine

/-- The five reads answer what they read and change nothing else (R13, R37, R125, R158, R178, R179). READ_OBJECT: the configuration,
the account, the pace state and the ceiling in force; READ_SYSTEM: the items in R179's order; READ_ZONE: each group named, in
order, with the items of zoneItems; READ_NODE and READ_PORT: the items of nodeReadItems and portItems. Where a zone is read the
OBSERVE right is needed. A read of a port with an open set draws the free milliseconds of its expiry, which are 0 past it and at
most 2000; READ_PORT of the reading port counts the read's own frame. Layouts the reference leaves open, the source byte of a ring
without extremes and the two bytes of a pending save and checkpoint (notes/assumptions/20.md), the refusal record's layout and what
a refused read named (18.md), the value 0 of a watch that has no test (15.md), the resulting roles alone in READ_SYSTEM, without
the strapped ones (21.md), the bytes of an absent subscription (30.md), the free milliseconds (4.md), the free bytes of a
contribution above 65535 (34.md) and the time of a SILENT node whose retry is taken (37.md) are the model's. -/
def Obligations.ReadsAnswerAndChangeNothing : Prop :=
  (∀ (s : State) (p : PortId) (o : ObjId) (f : Frame) (rest : List Frame), NextRequest s p 0x13 f rest → f.payload = [u1 o.val] →
      (s.may p (s.object o).cfg.zone .observe = true →
        exec (.readObject p) s = .next ((s.answered p f rest .done
          (objConfBytes (s.object o).cfg ++ u4 (s.object o).acct.consumed ++ u2 (s.object o).acct.frac ++
            u4 (s.object o).acct.previous ++ [u1 (paceCode (s.object o).pace)] ++
            contributionBytes (s.object o).contribution)).countRequest p)) ∧
      (s.may p (s.object o).cfg.zone .observe = false →
        exec (.readObject p) s = .next ((s.refusedWith p f rest .noRight none none).countRequest p))) ∧
  (∀ (s : State) (p : PortId) (f : Frame) (rest : List Frame), NextRequest s p 0x17 f rest → f.payload = [] →
      exec (.readSystem p) s = .next ((s.answered p f rest .done
        ((if s.supervised then 1 else 0) :: (u2 s.clock.day ++ u3 s.clock.sec ++ [if s.clockLost then 1 else 0] ++
          [u1 (rateCode s.rate)] ++ [u1 (roleCode (s.port 0).role), u1 (roleCode (s.port 1).role), u1 (roleCode (s.port 2).role)] ++
          u2 s.periodN ++ u2 s.periodStart ++ u2 (s.hold .light) ++ u2 (s.hold .shade) ++ u2 (s.hold .heat) ++ u2 (s.hold .moist) ++
          u2 s.used ++ u2 s.records.length ++ u2 s.sampleDrops ++
          [if s.store.writing.isSome then 1 else 0, if s.store.pendingSave then 1 else 0, if s.store.pendingCheck then 1 else 0,
            writeResult s.store.lastConfig, writeResult s.store.lastDose]))).countRequest p)) ∧
  (∀ (s : State) (p : PortId) (f : Frame) (rest : List Frame),
      (∀ (z : ZoneId) (mask : Byte), NextRequest s p 0x14 f rest → f.payload = [u1 z.val, mask] → mask ≠ 0 →
        mask.getLsbD 7 = false →
        (s.may p z .observe = true →
          exec (.readZone p) s = .next ((s.answered p f rest .done
            ([1, 2, 3, 4, 5, 6, 7].flatMap fun g => if mask.getLsbD (g - 1) then zoneItems s z g else [])).countRequest p)) ∧
        (s.may p z .observe = false →
          exec (.readZone p) s = .next ((s.refusedWith p f rest .noRight (some z) none).countRequest p))) ∧
      (∀ n : NodeId, NextRequest s p 0x15 f rest → f.payload = [u1 (n.val + 1)] →
        ((∀ z, s.boundZone n = some z → s.may p z .observe = true) →
          exec (.readNode p) s = .next ((s.answered p f rest .done (nodeReadItems s n)).countRequest p)) ∧
        (∀ z, s.boundZone n = some z → s.may p z .observe = false →
          exec (.readNode p) s = .next ((s.refusedWith p f rest .noRight none none).countRequest p))) ∧
      (∀ q : PortId, NextRequest s p 0x16 f rest → f.payload = [u1 q.val] →
        ∃ ms, ms ≤ 2000 ∧ (∀ l, (s.port q).link = some l → l.expiry < s.crystal → ms = 0) ∧
          exec (.readPort p) s = .next
            (({ s with draws := s.draws + if (s.port q).link.isSome then 1 else 0 }.answered p f rest .done
              (portItems (s.withTaken p rest) q ms)).countRequest p)))

/-! ## The observation queue -/

namespace Sys2Proof.Machine

/-- What a request that reads or leaves the queue leaves of the other subscribers (R162): their settings, their lost counts and every
record they have not read. -/
def OthersKeepUnread (s t : State) (p : PortId) : Prop :=
  ∀ q, q ≠ p → ((s.port q).sub = none → (t.port q).sub = none) ∧
    ∀ x, (s.port q).sub = some x → ∃ y, (t.port q).sub = some y ∧ y.watermark = x.watermark ∧ y.lost = x.lost ∧
      y.watch = x.watch ∧ t.records.drop y.cursor = s.records.drop x.cursor

/-- The oldest record held is one that some subscribed port has not read (R162). -/
def OldestUnread (t : State) : Prop := t.records ≠ [] → ∃ q x, (t.port q).sub = some x ∧ x.cursor = 0

/-- A selection that SCAN takes (R167): kinds of the thirteen, a value in −32768..65535. -/
def Selection.Taken (sel : Selection) : Prop :=
  sel.kinds.toNat < 0x2000 ∧ ∀ x, sel.test = some x → -32768 ≤ x.value ∧ x.value ≤ 65535

end Sys2Proof.Machine

/-- SUBSCRIBE on with a watermark 0..4096 (R161, R169): a new subscriber starts at end, an old one keeps all but its watermark;
WATERMARK becomes pending when the port comes to stand at it. SUBSCRIBE off (R161, R162): the subscription goes, the others keep
what they have not read, and the records no remaining cursor has to read are freed. That the watermark bytes of an off are not
looked at, also above 4096, and the bytes sent for a port that is not subscribed, are the model's choice (notes/assumptions/15.md
and 30.md). -/
def Obligations.SubscribeOnAndOff : Prop :=
  ∀ (s : State) (p : PortId) (f : Frame) (rest : List Frame), NextRequest s p 0x20 f rest →
    (∀ w, w ≤ 4096 → f.payload = 1 :: u2 w →
      ∃ t x, exec (.subscribeOn p) s = .next (t.countRequest p) ∧ (t.port p).sub = some x ∧ x.watermark = w ∧
        (match (s.port p).sub with
          | none => x.cursor = s.records.length ∧ x.lost = 0 ∧ x.watch = none
          | some old => x.cursor = old.cursor ∧ x.lost = old.lost ∧ x.watch = old.watch) ∧
        (hasAttn (t.port p).attn .watermark = true ↔
          hasAttn (s.port p).attn .watermark = true ∨
            (standsAt s.records x = true ∧ ∀ old, (s.port p).sub = some old → standsAt s.records old = false)) ∧
        (∀ q, q ≠ p → t.port q = s.port q) ∧
        Accepted s t p f rest .done (1 :: (u2 w ++ u2 (totalSize (s.records.drop x.cursor)))) ∧
        Touches (intake ++ [.sub, .attn]) s t) ∧
    (∀ a b, f.payload = [0, a, b] →
      ∃ t, exec (.subscribeOff p) s = .next (t.countRequest p) ∧ (t.port p).sub = none ∧ OthersKeepUnread s t p ∧
        ((s.port p).sub.isSome = true → OldestUnread t) ∧
        ((s.port p).sub = none → t.records = s.records) ∧
        Accepted s t p f rest .done [0, 0xFF, 0xFF, 0xFF, 0xFF] ∧ Touches (intake ++ [.sub, .records]) s t)

/-- DRAIN (R166): the records from the port's cursor on, at most n and at most 240 bytes and no fewer than that allows, whole and
in order, with the lost count before and the unread bytes after; the lost count becomes 0 and the cursor stands after the last
record taken. A port that is not subscribed is refused. The order of the checks is read as notes/assumptions/16.md says. -/
def Obligations.DrainTakesRecordsInOrder : Prop :=
  ∀ (s : State) (p : PortId) (n : Byte) (f : Frame) (rest : List Frame), NextRequest s p 0x21 f rest → f.payload = [n] →
    (∀ x, (s.port p).sub = some x → 1 ≤ n.toNat → n.toNat ≤ 16 →
      ∃ t k y, exec (.drain p) s = .next (t.countRequest p) ∧
        k ≤ n.toNat ∧ k ≤ (s.records.drop x.cursor).length ∧ totalSize ((s.records.drop x.cursor).take k) ≤ 240 ∧
        (k = n.toNat ∨ k = (s.records.drop x.cursor).length ∨ 240 < totalSize ((s.records.drop x.cursor).take (k + 1))) ∧
        (t.port p).sub = some y ∧ y.lost = 0 ∧ y.watermark = x.watermark ∧ y.watch = x.watch ∧
        t.records.drop y.cursor = (s.records.drop x.cursor).drop k ∧ OthersKeepUnread s t p ∧ OldestUnread t ∧
        Accepted s t p f rest .done (u2 x.lost ++ [u1 k] ++ ((s.records.drop x.cursor).take k).flatMap recordBytes ++
          u2 (totalSize ((s.records.drop x.cursor).drop k))) ∧
        Touches (intake ++ [.sub, .records]) s t) ∧
    ((s.port p).sub = none → exec (.drain p) s = .next ((s.refusedWith p f rest .notSubscribed none none).countRequest p))

/-- SCAN (R167): the cursor passes the records that do not match and stops on the first that does, or at end; the response tells
how many were skipped and the kind found, in a layout that is the model's (notes/assumptions/20.md). The lost count is not touched.
A port that is not subscribed is refused. The order of the checks is read as 16.md says, a REFUSAL record with no zone matches
no non-empty zone set (27.md), and a refused SCAN names no zone (18.md). -/
def Obligations.ScanStopsAtFirstMatch : Prop :=
  ∀ (s : State) (p : PortId) (sel : Selection) (f : Frame) (rest : List Frame), NextRequest s p 0x22 f rest →
    sel.Taken → f.payload = selectionBytes sel →
    (∀ x, (s.port p).sub = some x →
      ∃ t k y, exec (.scan p) s = .next (t.countRequest p) ∧ k ≤ (s.records.drop x.cursor).length ∧
        (∀ r ∈ (s.records.drop x.cursor).take k, matchesSel sel r = false) ∧
        (∀ r, (s.records.drop x.cursor)[k]? = some r → matchesSel sel r = true) ∧
        (t.port p).sub = some y ∧ y.lost = x.lost ∧ y.watermark = x.watermark ∧ y.watch = x.watch ∧
        t.records.drop y.cursor = (s.records.drop x.cursor).drop k ∧ OthersKeepUnread s t p ∧ OldestUnread t ∧
        Accepted s t p f rest .done (u2 k ++ (match (s.records.drop x.cursor)[k]? with
          | some r => [1, u1 (recordKind r)]
          | none => [0])) ∧
        Touches (intake ++ [.sub, .records]) s t) ∧
    ((s.port p).sub = none → exec (.scan p) s = .next ((s.refusedWith p f rest .notSubscribed none none).countRequest p))

/-- MARK (R165): with the OBSERVE right in every zone named, the pending MARK flag of each zone named is set, a flag already set
stays set, and no record is appended; otherwise NO_RIGHT and no flag is set. That the refusal record of a request with a zone set
names no zone is the model's choice (notes/assumptions/18.md). -/
def Obligations.MarkSetsTheFlags : Prop :=
  ∀ (s : State) (p : PortId) (zs : Byte) (f : Frame) (rest : List Frame), NextRequest s p 0x24 f rest → f.payload = [zs] →
    ((∀ z : ZoneId, zs.getLsbD z.val = true → s.may p z .observe = true) →
      ∃ t, exec (.mark p) s = .next (t.countRequest p) ∧
        (∀ z : ZoneId, (t.zone z).est = { (s.zone z).est with mark := (s.zone z).est.mark || zs.getLsbD z.val }) ∧
        Accepted s t p f rest .done [] ∧ Touches (.est :: intake) s t) ∧
    ((∃ z : ZoneId, zs.getLsbD z.val = true ∧ s.may p z .observe = false) →
      exec (.mark p) s = .next ((s.refusedWith p f rest .noRight none none).countRequest p))

/-- SET_WATCH (R168): a subscribed port's watch becomes the selection, or absent for off; nothing else changes. A port that is not
subscribed is refused. SET_ATTENTION replaces the four settings and leaves the pending set; a pending bit that PULSE mode newly
shows gives a pulse. ACK_ATTENTION takes bits out of the pending set. In LEVEL mode the line then shows whether the pending and the
enable set share a bit (R176, R177). The order of SET_WATCH's checks is read as notes/assumptions/16.md says and what a refused one
named as 18.md says; what a change of mode does to a pulse under way is the model's choice (32.md). -/
def Obligations.WatchAndAttentionSettings : Prop :=
  (∀ (s : State) (p : PortId) (f : Frame) (rest : List Frame), NextRequest s p 0x23 f rest →
    (∀ sel : Selection, sel.Taken → f.payload = 1 :: selectionBytes sel →
      (∀ x, (s.port p).sub = some x → exec (.setWatchOn p) s = .next (((s.modPort p fun pt =>
        { pt with sub := some { x with watch := some sel } }).answered p f rest .done []).countRequest p)) ∧
      ((s.port p).sub = none →
        exec (.setWatchOn p) s = .next ((s.refusedWith p f rest .notSubscribed none none).countRequest p))) ∧
    (∀ ignored : List Byte, ignored.length = 8 → f.payload = 0 :: ignored →
      (∀ x, (s.port p).sub = some x → exec (.setWatchOff p) s = .next (((s.modPort p fun pt =>
        { pt with sub := some { x with watch := none } }).answered p f rest .done []).countRequest p)) ∧
      ((s.port p).sub = none →
        exec (.setWatchOff p) s = .next ((s.refusedWith p f rest .notSubscribed none none).countRequest p)))) ∧
  (∀ (s : State) (p : PortId) (f : Frame) (rest : List Frame),
    (∀ (en : AttnSet) (zs : ZoneSet) (cs : CondSet) (m : LineMode), NextRequest s p 0x28 f rest →
      f.payload = u2 en.toNat ++ [zs] ++ u2 cs.toNat ++ [u1 (modeCode m)] →
      exec (.setAttention p) s = .next (((s.modPort p fun pt =>
        { pt with
            enable := en
            zoneSet := zs
            condSet := cs
            mode := m
            pulse := decide (m = .pulse) && (pt.pulse || decide (pt.attn &&& en &&& ~~~pt.enable ≠ 0)) }).answered p f rest .done
          (u2 (s.port p).attn.toNat)).countRequest p)) ∧
    (∀ bits : AttnSet, NextRequest s p 0x29 f rest → f.payload = u2 bits.toNat →
      exec (.ackAttention p) s = .next (((s.modPort p fun pt => { pt with attn := pt.attn &&& ~~~bits }).answered p f rest .done
        (u2 ((s.port p).attn &&& ~~~bits).toNat)).countRequest p)) ∧
    (∀ pt : Port, pt.mode = .level → (pt.lineActive = true ↔ pt.attn &&& pt.enable ≠ 0)))

/-- Every record is as long on the wire as R160 says its kind is. An event record offered while a port is subscribed is appended,
after just enough records have left the head of the list; each port loses the dropped records it had not read and no others;
WATCH_MATCH and WATERMARK become pending as R168 and R169 say; with no subscriber it is discarded (R162, R163). A sample record is
appended only if 512 bytes stay free after it, and then carries the zone's pending flags away; otherwise it is counted as dropped
and the flags stay (R164, R36). That a REFUSAL record with no zone matches no watch with a zone set is the model's choice
(notes/assumptions/27.md). -/
def Obligations.RecordsAreOfferedWithinCapacity : Prop :=
  (∀ r : Record, (recordBytes r).length = recordSize r ∧ 7 ≤ recordSize r ∧ recordSize r ≤ 21 ∧
      ∀ z t T rh raw m c, r = .climateSample z t T rh raw m c → recordSize r = if raw.isSome then 15 else 11) ∧
  (∀ (s : State) (r : Record),
      (s.anySubscribed = true →
        ∃ k, k ≤ s.records.length ∧ (s.offer r).records = s.records.drop k ++ [r] ∧
          (totalSize (s.records.drop k) + recordSize r ≤ 4096) ∧
          (∀ j, j < k → 4096 < totalSize (s.records.drop j) + recordSize r) ∧
          ∀ p, ((s.port p).sub = none → ((s.offer r).port p) = s.port p) ∧
            ∀ x, (s.port p).sub = some x → x.lost ≤ 65535 →
              ((s.offer r).port p).sub =
                some { x with cursor := x.cursor - k, lost := min 65535 (x.lost + (k - x.cursor)) } ∧
              (hasAttn ((s.offer r).port p).attn .watchMatch = true ↔
                hasAttn (s.port p).attn .watchMatch = true ∨ ∃ sel, x.watch = some sel ∧ matchesSel sel r = true) ∧
              (hasAttn ((s.offer r).port p).attn .watermark = true ↔
                hasAttn (s.port p).attn .watermark = true ∨
                  (0 < x.watermark ∧ totalSize ((s.records.drop k).drop (x.cursor - k)) < x.watermark ∧
                    x.watermark ≤ totalSize (((s.records.drop k) ++ [r]).drop (x.cursor - k))))) ∧
      (s.anySubscribed = false → s.offer r = s) ∧ Touches reporting s (s.offer r)) ∧
  (∀ (s : State) (z : ZoneId) (time : GTime), s.anySubscribed = true →
      (∀ (T rh : Int) (raw : Option (Int × Int)),
        let r := Record.climateSample z time T rh raw (s.zone z).est.mark (s.zone z).est.rateClimate
        let t := s.offerClimateSample z time T rh raw
        (s.used + (if raw.isSome then 15 else 11) + 512 ≤ 4096 →
          t.records = s.records ++ [r] ∧ (t.zone z).est = { (s.zone z).est with mark := false, rateClimate := false }) ∧
        (4096 < s.used + (if raw.isSome then 15 else 11) + 512 → t = { s with sampleDrops := min 65535 (s.sampleDrops + 1) })) ∧
      (∀ (e uv : Nat) (sat : Bool),
        let r := Record.lightSample z time e uv sat (s.zone z).est.mark (s.zone z).est.rateLight
        let t := s.offerLightSample z time e uv sat
        (s.used + 11 + 512 ≤ 4096 →
          t.records = s.records ++ [r] ∧ (t.zone z).est = { (s.zone z).est with mark := false, rateLight := false }) ∧
        (4096 < s.used + 11 + 512 → t = { s with sampleDrops := min 65535 (s.sampleDrops + 1) })))

/-! ## Zones, objects and the effective envelope -/

namespace Sys2Proof.Machine

/-- How the fields of a record are written: how many there are, a field's bytes, its range, and when two records agree on it. -/
structure Fields (α : Type) where
  count   : Nat
  bytes   : α → Nat → List Byte
  InRange : α → Nat → Prop
  Same    : α → α → Nat → Prop

/-- The zone record (R1, R181). -/
def zoneFields : Fields ZoneRec where
  count := 16
  bytes r
    | 1 => flag1 r.use
    | 2 => [nodeOpt r.climateNode]
    | 3 => [nodeOpt r.lightNode]
    | 4 => [nodeOpt r.lightAct]
    | 5 => [nodeOpt r.shadeAct]
    | 6 => [nodeOpt r.heatAct]
    | 7 => [nodeOpt r.moistAct]
    | 8 => u2 r.eFull
    | 9 => u2 r.tc
    | 10 => u2 r.g
    | 11 => [u1 r.filterCode]
    | 12 => [u1 r.staleLimit]
    | 13 => u2 r.lightGrace
    | 14 => [u1 r.climateDec]
    | 15 => [u1 r.lightDec]
    | 16 => flag1 r.raw
    | _ => []
  InRange r
    | 8 => r.eFull ≤ 5000
    | 9 => r.tc ≤ 1000
    | 10 => r.g ≤ 3000
    | 11 => r.filterCode ≤ 5
    | 12 => 2 ≤ r.staleLimit ∧ r.staleLimit ≤ 16
    | 13 => r.lightGrace ≤ 600
    | 14 => r.climateDec ≤ 255
    | 15 => r.lightDec ≤ 255
    | _ => True
  Same a b
    | 1 => a.use = b.use
    | 2 => a.climateNode = b.climateNode
    | 3 => a.lightNode = b.lightNode
    | 4 => a.lightAct = b.lightAct
    | 5 => a.shadeAct = b.shadeAct
    | 6 => a.heatAct = b.heatAct
    | 7 => a.moistAct = b.moistAct
    | 8 => a.eFull = b.eFull
    | 9 => a.tc = b.tc
    | 10 => a.g = b.g
    | 11 => a.filterCode = b.filterCode
    | 12 => a.staleLimit = b.staleLimit
    | 13 => a.lightGrace = b.lightGrace
    | 14 => a.climateDec = b.climateDec
    | 15 => a.lightDec = b.lightDec
    | 16 => a.raw = b.raw
    | _ => True

/-- The zone envelope (R2, R181). -/
def envelopeFields : Fields Envelope where
  count := 8
  bytes e
    | 1 => s2 e.tLo
    | 2 => s2 e.tHi
    | 3 => s2 e.rhLo
    | 4 => s2 e.rhHi
    | 5 => s2 e.tSwing
    | 6 => s2 e.rhSwing
    | 7 => u2 e.lux
    | 8 => u2 e.uv
    | _ => []
  InRange e
    | 1 => -2000 ≤ e.tLo ∧ e.tLo ≤ 6000
    | 2 => -2000 ≤ e.tHi ∧ e.tHi ≤ 6000
    | 3 => 0 ≤ e.rhLo ∧ e.rhLo ≤ 10000
    | 4 => 0 ≤ e.rhHi ∧ e.rhHi ≤ 10000
    | 5 => 0 ≤ e.tSwing ∧ e.tSwing ≤ 2000
    | 6 => 0 ≤ e.rhSwing ∧ e.rhSwing ≤ 5000
    | 7 => e.lux ≤ 5000
    | 8 => e.uv ≤ 2000
    | _ => True
  Same a b
    | 1 => a.tLo = b.tLo
    | 2 => a.tHi = b.tHi
    | 3 => a.rhLo = b.rhLo
    | 4 => a.rhHi = b.rhHi
    | 5 => a.tSwing = b.tSwing
    | 6 => a.rhSwing = b.rhSwing
    | 7 => a.lux = b.lux
    | 8 => a.uv = b.uv
    | _ => True

/-- The object record (R3, R4, R11, R181). -/
def objectFields : Fields ObjConf where
  count := 11
  bytes c
    | 1 => flag1 c.use
    | 2 => [u1 c.zone.val]
    | 3 => u2 c.w
    | 4 => u4 c.allowance
    | 5 => [u1 c.slack]
    | 6 => u2 c.restricted
    | 7 => u2 c.exhausted
    | 8 => match c.rhBand with
      | some (lo, hi) => s2 lo ++ s2 hi
      | none => [0xFF, 0xFF, 0xFF, 0xFF]
    | 9 => rh2opt c.rhSwing
    | 10 => u2opt c.luxCeil
    | 11 => u1 c.label.length :: c.label
    | _ => []
  InRange c
    | 3 => c.w ≤ 2000
    | 4 => c.allowance ≤ 10000000
    | 5 => c.slack ≤ 100
    | 6 => c.restricted ≤ 5000
    | 7 => c.exhausted ≤ 5000
    | 8 => ∀ lo hi, c.rhBand = some (lo, hi) → 0 ≤ lo ∧ lo ≤ hi ∧ hi ≤ 10000
    | 9 => ∀ x, c.rhSwing = some x → 0 ≤ x ∧ x ≤ 5000
    | 10 => ∀ x, c.luxCeil = some x → x ≤ 5000
    | 11 => c.label.length ≤ 16 ∧ ∀ b ∈ c.label, 0x20 ≤ b.toNat ∧ b.toNat ≤ 0x7E
    | _ => True
  Same a b
    | 1 => a.use = b.use
    | 2 => a.zone = b.zone
    | 3 => a.w = b.w
    | 4 => a.allowance = b.allowance
    | 5 => a.slack = b.slack
    | 6 => a.restricted = b.restricted
    | 7 => a.exhausted = b.exhausted
    | 8 => a.rhBand = b.rhBand
    | 9 => a.rhSwing = b.rhSwing
    | 10 => a.luxCeil = b.luxCeil
    | 11 => a.label = b.label
    | _ => True

/-- The fields that a presence set names, in order: bit n − 1 names field n (R5, R181). -/
def named (mask : Nat) : List Nat := (List.range' 1 16).filter fun n => mask.testBit (n - 1)

/-- The named fields spelt by the bytes: each one in range, one after the other, and no byte more (R5 steps 4 and 5). -/
def Spells {α : Type} (L : Fields α) (mask : Nat) (r : α) (bytes : List Byte) : Prop :=
  bytes = (named mask).flatMap (L.bytes r) ∧ ∀ n ∈ named mask, n ≤ L.count ∧ L.InRange r n

/-- A write of the named fields makes `r` of the record held: the fields not named keep their values (R5 step 7). -/
def Makes {α : Type} (L : Fields α) (mask : Nat) (held r : α) (bytes : List Byte) : Prop :=
  Spells L mask r bytes ∧ ∀ n, n ∉ named mask → L.Same held r n

/-- A node of the kind that the field requires, bound in no other zone (R6). -/
def NodeFits (s : State) (z : ZoneId) (k : Nat) (n : NodeId) : Prop :=
  some (s.node n).kind = fieldKind k ∧ ∀ z', z' ≠ z → (s.zone z').cfg.fieldOf n = none

/-- The cross-checks of R6, for the node fields named. -/
def NodesFit (s : State) (z : ZoneId) (mask : Nat) (r : ZoneRec) : Prop :=
  ∀ k ∈ named mask, ∀ n, r.nodeAt k = some n → NodeFits s z k n

/-- The byte of the new zone in the fields of a WRITE_OBJECT, if its presence set names the zone and the byte is there (R11). -/
def newZoneByte (mask : Nat) (bytes : List Byte) : Option Byte :=
  if mask.testBit 1 then bytes[if mask.testBit 0 then 1 else 0]? else none

/-- The port has the ENVELOPE right in the object's zone, and in the new zone if one is named (R11). -/
def MayWriteObject (s : State) (p : PortId) (o : ObjId) (mask : Nat) (bytes : List Byte) : Prop :=
  s.may p (s.object o).cfg.zone .envelope = true ∧
    ∀ z : ZoneId, newZoneByte mask bytes = some (u1 z.val) → s.may p z .envelope = true

/-- What a new effective envelope can change in a zone (R16, R17, R72, R95). -/
abbrev envelopeEffects : List Part :=
  [.eff, .conflict, .ceiling, .cause, .sticky, .det, .ovr, .granted, .delivery, .commands] ++ reporting

/-- The effective envelope, CONFLICT and C of a zone stand as the configuration and the pace states of `t` give them (R14, R16 to
R18, R71). -/
def EnvelopeCurrent (t : State) (z : ZoneId) : Prop :=
  (t.zone z).eff = t.effOf z ∧ (t.zone z).conflict = decide ((t.zone z).eff.rhHi < (t.zone z).eff.rhLo) ∧
    (t.zone z).ceiling = t.ceilingOf z

end Sys2Proof.Machine

namespace Sys2Proof.Machine

/-- What a recomputed envelope does to a zone's CONFLICT state (R17, R18): on entry the sticky set holds CONFLICT and the open T_BAND
and RH_BAND excursions are closed with reason CONFLICT; otherwise no excursion closes and CONFLICT is added nowhere. -/
structure ConflictFollowed (s t : State) (z : ZoneId) : Prop where
  entered : (s.zone z).conflict = false → (t.zone z).conflict = true →
    hasCond (t.zone z).sticky .conflict = true ∧ (t.zone z).exc .tBand = none ∧ (t.zone z).exc .rhBand = none ∧
      ExcursionsReported s t z [.tBand, .rhBand] .conflict
  stayed  : (s.zone z).conflict = true ∨ (t.zone z).conflict = false →
    (t.zone z).det = (s.zone z).det ∧ hasCond (t.zone z).sticky .conflict = hasCond (s.zone z).sticky .conflict ∧
      ∀ p, hasAttn (t.port p).attn .excursion = hasAttn (s.port p).attn .excursion
  others  : (∀ k, k ≠ .tBand → k ≠ .rhBand → (t.zone z).exc k = (s.zone z).exc k) ∧
    (t.zone z).det.luxPending = (s.zone z).det.luxPending ∧ (t.zone z).det.uvFirst = (s.zone z).det.uvFirst
  cause   : hasCond (t.zone z).cause .conflict = true → hasCond (s.zone z).cause .conflict = true

end Sys2Proof.Machine

/-- A WRITE_ZONE whose bytes spell the fields its presence set names, past the cross-checks, from a port with the ENVELOPE right,
writes those fields and no other, answers DONE with the record, recomputes the envelope, and acts on use as R8 and R9 say: turned
OFF, the zone's excursions close with reason ZONE_OFF, detection, overrides, grants and LC's values go, and its actuators have no
due or retry time; turned ON, the horizon and the last activities are now, and in SUPERVISED its actuators are due. Other zones,
objects and tenure holders stand (R1, R5 to R9, R16, R130, R135, R153, R157). The order in which zones, channels and blocks take
their effects, and the flag that says that a poll waits, are the model's choice (notes/assumptions/10.md, 11.md and 25.md). -/
def Obligations.WriteZoneWritesTheRecord : Prop :=
  ∀ (s : State) (p : PortId) (z : ZoneId) (mask : Nat) (r : ZoneRec) (bytes : List Byte) (f : Frame) (rest : List Frame),
    NextRequest s p 0x10 f rest → f.payload = u1 z.val :: (u2 mask ++ bytes) → 0 < mask → mask < 0x10000 →
    Makes zoneFields mask (s.zone z).cfg r bytes → NodesFit s z mask r → s.may p z .envelope = true →
    ∃ t, exec (.writeZone p) s = .next (t.countRequest p) ∧ (t.zone z).cfg = r ∧ EnvelopeCurrent t z ∧
      ((s.zone z).cfg.use = true → r.use = false →
        (t.zone z).det = .default ∧ (t.zone z).ovr = .empty ∧ ExcursionsReported s t z allKinds .zoneOff ∧
        (∀ ch, (t.chan z ch).granted = none ∧ (t.chan z ch).pending = none ∧ (t.chan z ch).sent = none ∧
          (t.chan z ch).applied = none ∧ (z, ch) ∉ t.commands) ∧
        ∀ ch n, (s.zone z).cfg.act ch = some n → (t.node n).due = none ∧ (t.node n).retry = none ∧ (t.node n).waiting = false ∧
          (t.node n).state = (s.node n).state ∧ (t.node n).attempts = (s.node n).attempts) ∧
      ((s.zone z).cfg.use = false → r.use = true →
        (t.zone z).horizon = s.clock ∧ (t.zone z).det = .default ∧ (∀ ch, (t.chan z ch).lastActivity = s.clock) ∧
        (s.supervised = true → ∀ ch n, r.act ch = some n →
          ((s.node n).state = .silent → (t.node n).retry = some s.clock) ∧
          ((s.node n).state ≠ .silent → (t.node n).due = some s.clock ∧ (t.node n).waiting = true))) ∧
      ((s.zone z).cfg.climateNode ≠ r.climateNode → (t.zone z).est.seeded = false) ∧
      ((s.zone z).cfg.lightNode ≠ r.lightNode → (t.zone z).est.d0 = none ∧ (t.zone z).est.d0Status = .unknown ∧
        (t.zone z).det.luxPending = none ∧ (t.zone z).det.uvFirst = none) ∧
      (∀ ch, (s.zone z).cfg.act ch ≠ r.act ch → (t.chan z ch).applied = none) ∧
      OtherZones s t z ∧ Accepted s t p f rest .done (zoneRecBytes r) ∧
      Touches (intake ++ envelopeEffects ++ [.cfg, .est, .horizon, .activity, .nodes, .txn]) s t

/-- A WRITE_ENVELOPE whose bytes spell the fields its presence set names, from a port with the ENVELOPE right, makes of the envelope
held one in which only those fields differ. If its bands are not inverted it is written, answered DONE with, and the effective
envelope is recomputed; a zone that so enters CONFLICT has CONFLICT added to its sticky set and its T_BAND and RH_BAND excursions
closed with their records; a condition new in the sticky set is reported. If a band would be inverted, also by one end that crosses
the end held, the write is refused BAD_ARG and changes nothing (R2, R5, R10, R16 to R18, R92). That the CONFLICT state follows
after C and any ceiling follow, that T_BAND closes before RH_BAND, and what a refused write named, is the model's choice
(notes/assumptions/10.md, 13.md and 18.md). -/
def Obligations.WriteEnvelopeWritesTheEnvelope : Prop :=
  ∀ (s : State) (p : PortId) (z : ZoneId) (mask : Nat) (e : Envelope) (bytes : List Byte) (f : Frame) (rest : List Frame),
    NextRequest s p 0x11 f rest → f.payload = u1 z.val :: (u2 mask ++ bytes) → 0 < mask → mask < 0x10000 →
    Makes envelopeFields mask (s.zone z).env e bytes → s.may p z .envelope = true →
    (e.tLo ≤ e.tHi → e.rhLo ≤ e.rhHi →
      ∃ t, exec (.writeEnvelope p) s = .next (t.countRequest p) ∧ (t.zone z).env = e ∧ EnvelopeCurrent t z ∧
        ConflictFollowed s t z ∧ StickyReported s t z ∧ OtherZones s t z ∧ Accepted s t p f rest .done (envelopeBytes e) ∧
        Touches (intake ++ envelopeEffects ++ [.env]) s t) ∧
    (e.tHi < e.tLo ∨ e.rhHi < e.rhLo → Refuses (.writeEnvelope p) s p f rest .badArg (some z))

/-- A WRITE_OBJECT whose bytes spell the fields its presence set names, from a port with the ENVELOPE right in the old and the new
zone, writes those fields and no other, leaves the account as it was, answers DONE with the configuration, and recomputes both
zones; a change of A or S evaluates the pace state (R3, R4, R5, R11, R12, R16, R70). The order of the effects is the model's
choice (notes/assumptions/12.md). -/
def Obligations.WriteObjectWritesTheObject : Prop :=
  ∀ (s : State) (p : PortId) (o : ObjId) (mask : Nat) (c : ObjConf) (bytes : List Byte) (f : Frame) (rest : List Frame),
    NextRequest s p 0x12 f rest → f.payload = u1 o.val :: (u2 mask ++ bytes) → 0 < mask → mask < 0x10000 →
    Makes objectFields mask (s.object o).cfg c bytes → s.may p (s.object o).cfg.zone .envelope = true →
    s.may p c.zone .envelope = true →
    ∃ t, exec (.writeObject p) s = .next (t.countRequest p) ∧ (t.object o).cfg = c ∧
      EnvelopeCurrent t (s.object o).cfg.zone ∧ EnvelopeCurrent t c.zone ∧
      (t.object o).pace = (if (s.object o).cfg.allowance = c.allowance ∧ (s.object o).cfg.slack = c.slack then (s.object o).pace
        else paceFor (s.object o).acct.consumed c.allowance c.slack s.periodN s.elapsed) ∧
      OtherObjects s t o ∧ (∀ z, z ≠ (s.object o).cfg.zone → z ≠ c.zone → t.zone z = s.zone z) ∧
      Accepted s t p f rest .done (objConfBytes c) ∧
      Touches (intake ++ envelopeEffects ++ [.objCfg, .pace]) s t

/-- The three writes refuse as R5 orders it, and a refused write changes nothing. A target outside the zones or objects, or a
payload too short to hold the presence set: BAD_ARG. An empty presence set: a read, which needs OBSERVE, answers the record as it
stands and changes nothing. No ENVELOPE right in the target zone, and for WRITE_OBJECT in the object's zone or in the new zone
named (R11): NO_RIGHT, before the fields are looked at. Bytes that spell no values in range of the fields named (a field unknown, a
wrong length, a value out of range): BAD_ARG. A node field that fails the cross-checks of R6: BAD_ARG. What a refused write named
is read as notes/assumptions/18.md says, the bytes after an empty presence set as 15.md says, and the new zone of a WRITE_OBJECT as
35.md says: its byte decides NO_RIGHT although other fields are malformed, and one that is missing or names no zone is BAD_ARG. -/
def Obligations.WritesNeedRightsAndEmptyOnesRead : Prop :=
  ∀ (s : State) (p : PortId) (f : Frame) (rest : List Frame) (mask : Nat) (bytes : List Byte), mask < 0x10000 →
    (∀ c cmd, (c, cmd) ∈ [(Instr.writeZone p, (0x10 : Byte)), (.writeEnvelope p, 0x11), (.writeObject p, 0x12)] →
      NextRequest s p cmd f rest →
      (f.payload.length < 3 → Refuses c s p f rest .badArg none) ∧
      (∀ b, f.payload = b :: (u2 mask ++ bytes) → (if cmd = 0x12 then 32 else 8) ≤ b.toNat → Refuses c s p f rest .badArg none)) ∧
    (∀ z : ZoneId, NextRequest s p 0x10 f rest → f.payload = u1 z.val :: (u2 mask ++ bytes) →
      (mask = 0 → s.may p z .observe = true →
        exec (.writeZone p) s = .next ((s.answered p f rest .done (zoneRecBytes (s.zone z).cfg)).countRequest p)) ∧
      (mask = 0 → s.may p z .observe = false → Refuses (.writeZone p) s p f rest .noRight (some z)) ∧
      (0 < mask → s.may p z .envelope = false → Refuses (.writeZone p) s p f rest .noRight (some z)) ∧
      (0 < mask → s.may p z .envelope = true → (∀ r, ¬ Spells zoneFields mask r bytes) →
        Refuses (.writeZone p) s p f rest .badArg (some z)) ∧
      (∀ r k n, 0 < mask → s.may p z .envelope = true → Makes zoneFields mask (s.zone z).cfg r bytes → k ∈ named mask →
        r.nodeAt k = some n → ¬ NodeFits s z k n → Refuses (.writeZone p) s p f rest .badArg (some z))) ∧
    (∀ z : ZoneId, NextRequest s p 0x11 f rest → f.payload = u1 z.val :: (u2 mask ++ bytes) →
      (mask = 0 → s.may p z .observe = true →
        exec (.writeEnvelope p) s = .next ((s.answered p f rest .done (envelopeBytes (s.zone z).env)).countRequest p)) ∧
      (mask = 0 → s.may p z .observe = false → Refuses (.writeEnvelope p) s p f rest .noRight (some z)) ∧
      (0 < mask → s.may p z .envelope = false → Refuses (.writeEnvelope p) s p f rest .noRight (some z)) ∧
      (0 < mask → s.may p z .envelope = true → (∀ e, ¬ Spells envelopeFields mask e bytes) →
        Refuses (.writeEnvelope p) s p f rest .badArg (some z))) ∧
    (∀ o : ObjId, NextRequest s p 0x12 f rest → f.payload = u1 o.val :: (u2 mask ++ bytes) →
      (mask = 0 → s.may p (s.object o).cfg.zone .observe = true →
        exec (.writeObject p) s = .next ((s.answered p f rest .done (objConfBytes (s.object o).cfg)).countRequest p)) ∧
      (mask = 0 → s.may p (s.object o).cfg.zone .observe = false → Refuses (.writeObject p) s p f rest .noRight none) ∧
      (0 < mask → s.may p (s.object o).cfg.zone .envelope = false → Refuses (.writeObject p) s p f rest .noRight none) ∧
      (∀ z : ZoneId, 0 < mask → newZoneByte mask bytes = some (u1 z.val) → s.may p z .envelope = false →
        Refuses (.writeObject p) s p f rest .noRight none) ∧
      (0 < mask → MayWriteObject s p o mask bytes → (∀ c, ¬ Spells objectFields mask c bytes) →
        Refuses (.writeObject p) s p f rest .badArg none))

/-- The effective envelope of a zone is the tightest that the zone envelope and its ON objects allow: no bound is looser than the
zone's or than that of any ON object in the zone, and each bound is one of those (R14, R15). -/
def Obligations.EffectiveEnvelopeIsTightest : Prop :=
  ∀ (s : State) (z : ZoneId),
    let e := (s.zone z).env
    let eff := s.effOf z
    let inZone := fun o : ObjId => (s.object o).cfg.use = true ∧ (s.object o).cfg.zone = z
    eff.tLo = e.tLo ∧ eff.tHi = e.tHi ∧ eff.tSwing = e.tSwing ∧ eff.uv = e.uv ∧
    (e.rhLo ≤ eff.rhLo ∧ eff.rhHi ≤ e.rhHi ∧ eff.rhSwing ≤ e.rhSwing ∧ eff.lux ≤ e.lux) ∧
    (∀ o, inZone o → (∀ lo hi, (s.object o).cfg.rhBand = some (lo, hi) → lo ≤ eff.rhLo ∧ eff.rhHi ≤ hi) ∧
      (∀ x, (s.object o).cfg.rhSwing = some x → eff.rhSwing ≤ x) ∧
      (∀ x, (s.object o).cfg.luxCeil = some x → 0 < (s.object o).cfg.w → eff.lux ≤ x * 1000 / (s.object o).cfg.w)) ∧
    (eff.rhLo = e.rhLo ∨ ∃ o hi, inZone o ∧ (s.object o).cfg.rhBand = some (eff.rhLo, hi)) ∧
    (eff.rhHi = e.rhHi ∨ ∃ o lo, inZone o ∧ (s.object o).cfg.rhBand = some (lo, eff.rhHi)) ∧
    (eff.rhSwing = e.rhSwing ∨ ∃ o, inZone o ∧ (s.object o).cfg.rhSwing = some eff.rhSwing) ∧
    (eff.lux = e.lux ∨ ∃ o x, inZone o ∧ (s.object o).cfg.luxCeil = some x ∧ 0 < (s.object o).cfg.w ∧
      eff.lux = x * 1000 / (s.object o).cfg.w)

/-- The zone ceiling C is the least of the envelope ceiling and the ceilings that the pace states of the zone's ON objects with w
> 0 put on it (R71). -/
def Obligations.ZoneCeilingIsTheLeast : Prop :=
  ∀ (s : State) (z : ZoneId),
    let c := s.ceilingOf z
    let puts := fun (o : ObjId) (x : Nat) => (s.object o).cfg.use = true ∧ (s.object o).cfg.zone = z ∧ 0 < (s.object o).cfg.w ∧
      (((s.object o).pace = .ahead ∧ x = (s.object o).cfg.restricted * 1000 / (s.object o).cfg.w) ∨
        ((s.object o).pace = .exhausted ∧ x = (s.object o).cfg.exhausted * 1000 / (s.object o).cfg.w))
    c ≤ (s.zone z).eff.lux ∧ (∀ o x, puts o x → c ≤ x) ∧ (c = (s.zone z).eff.lux ∨ ∃ o, puts o c)

/-! ## Readings and prediction -/

/-- The filter (R22): on a seeded zone each filtered value moves toward the sample by |d| × k div 256, rounded half-up and at
least one unit, and never past the sample. An unseeded zone takes the sample itself (R23). -/
def Obligations.FilterFollowsTheSample : Prop :=
  ∀ (e : Estimate) (code : Nat) (t rh ft frh : Int), code ≤ 5 →
    (e.seeded = true → e.filt = some (ft, frh) →
      ∃ yt yrh, (e.takeClimate code t rh).filt = some (yt, yrh) ∧
        ∀ x y y' : Int, (x, y, y') = (t, ft, yt) ∨ (x, y, y') = (rh, frh, yrh) →
          let step := max 1 (((x - y).natAbs * [256, 128, 64, 32, 16, 8].getD code 0 + 128) / 256)
          (x = y → y' = y) ∧ (y < x → y' = y + step ∧ y' ≤ x) ∧ (x < y → y' = y - step ∧ x ≤ y')) ∧
    (e.seeded = false → (e.takeClimate code t rh).filt = some (t, rh)) ∧
    (e.takeClimate code t rh).seeded = true ∧ (e.takeClimate code t rh).raw = some (t, rh)

/-- Saturation vapour pressure lies in 611..7381 and rises with T (R38, R39), so the transferred RH (R42) lies in 0..10000, is
RH_now when T_target is T_now, and does not rise with T_target. -/
def Obligations.RhTransferBehaves : Prop :=
  (∀ t, 611 ≤ satPressure t ∧ satPressure t ≤ 7381) ∧ (∀ a b, a ≤ b → satPressure a ≤ satPressure b) ∧
  ∀ tNow rh, 0 ≤ rh → rh ≤ 10000 →
    rhTrans tNow rh tNow = rh ∧ (∀ x, 0 ≤ rhTrans tNow rh x ∧ rhTrans tNow rh x ≤ 10000) ∧
    ∀ a b, a ≤ b → rhTrans tNow rh b ≤ rhTrans tNow rh a

/-- The allowed interval of MOIST values (R49) holds exactly the values −100..100 whose predicted RH lies in the band, and is
empty exactly when there are none; the clamp (R50) leaves a value of the interval alone, moves any other to the nearer end, and
with an empty interval takes the end −100 or +100 that predicts nearer the band, +100 when they are equally near. With G = 0
nothing is clamped. -/
def Obligations.MoistClampKeepsTheInterval : Prop :=
  ∀ (b : Band) (trans granted : Int) (g : Nat),
    (∀ iv, moistInterval b trans granted g = some iv →
      (-100 ≤ iv.lo ∧ iv.lo ≤ iv.hi ∧ iv.hi ≤ 100) ∧
      (∀ d, -100 ≤ d → d ≤ 100 → (iv.lo ≤ d ∧ d ≤ iv.hi ↔ b.dist (predWith trans granted g d) = 0)) ∧
      (0 < g → ∀ d, moistClamp b trans granted g d = max iv.lo (min iv.hi d))) ∧
    (moistInterval b trans granted g = none →
      (∀ d, -100 ≤ d → d ≤ 100 → b.dist (predWith trans granted g d) ≠ 0) ∧
      (0 < g → ∀ d,
        (b.dist (predWith trans granted g (-100)) < b.dist (predWith trans granted g 100) →
          moistClamp b trans granted g d = -100) ∧
        (b.dist (predWith trans granted g 100) ≤ b.dist (predWith trans granted g (-100)) →
          moistClamp b trans granted g d = 100))) ∧
    (g = 0 → ∀ d, moistClamp b trans granted g d = d)

/-- Without a usable estimate a climate candidate always passes (R52); its HEAT value ends in the T band when none is granted or
the granted value lies within 50 of the band, and never more than 50 from the granted value (R51); its MOIST value is 0 when none
is granted and never more than 10 from the granted value (R52); BLIND_STEP is raised exactly when a value changed, and nothing
else is. -/
def Obligations.BlindStepsAreSmall : Prop :=
  ∀ (s : State) (z : ZoneId) (heat moist : Option Int), s.usable z = false →
    let r := s.climateCandidate z heat moist
    let lo := (s.zone z).eff.tLo
    let hi := (s.zone z).eff.tHi
    r.pass = true ∧ r.pred = none ∧ (heat = none ↔ r.heat = none) ∧ (moist = none ↔ r.moist = none) ∧
    (r.conds = if r.heat ≠ heat ∨ r.moist ≠ moist then condBit .blindStep else 0) ∧
    (lo ≤ hi → ∀ h h', heat = some h → r.heat = some h' →
      ((s.chan z .heat).granted = none → lo ≤ h' ∧ h' ≤ hi ∧ (lo ≤ h → h ≤ hi → h' = h)) ∧
      (∀ g, (s.chan z .heat).granted = some g →
        (g - 50 ≤ h' ∧ h' ≤ g + 50) ∧
        (lo - 50 ≤ g → g ≤ hi + 50 → lo ≤ h' ∧ h' ≤ hi ∧ (lo ≤ h → h ≤ hi → g - 50 ≤ h → h ≤ g + 50 → h' = h)) ∧
        (g < lo - 50 → h' = g + 50) ∧ (hi + 50 < g → h' = g - 50))) ∧
    (∀ d d', moist = some d → r.moist = some d' →
      ((s.chan z .moist).granted = none → d' = 0) ∧
      ∀ g, (s.chan z .moist).granted = some g → -100 ≤ g → g ≤ 100 →
        (-100 ≤ d' ∧ d' ≤ 100 ∧ g - 10 ≤ d' ∧ d' ≤ g + 10) ∧
        (-100 ≤ d → d ≤ 100 → g - 10 ≤ d → d ≤ g + 10 → d' = d))

/-! ## Light and dose -/

/-- The LIGHT clamp (R58) gives the largest level not above the request that keeps the predicted illuminance at or under C, with
the closed form for E_full > 0; where daylight alone is over C it gives 0 and raises DAYLIGHT_OVER. A light candidate (R59 to
R61): a LIGHT value that comes out is 0 or predicts no more than C at the SHADE value that comes out or stands in prospect. While D0
is KNOWN or HELD and the blind is not clear, a SHADE value that comes out is the smallest position not below the request that keeps
daylight and the LIGHT value together under C, or 100 when there is none; with a clear blind it is the request. While D0 is UNKNOWN
it is 100 if the last D and the LIGHT value are over C, and otherwise opens by at most 10 from the applied position. DAYLIGHT_OVER
is raised exactly when SHADE finds no position under C or LIGHT no level, CLAMP_LIGHT and CLAMP_SHADE when a value changed, and
DAYLIGHT_HELD while D0 is not KNOWN. -/
def Obligations.LightClampsStayUnderCeiling : Prop :=
  (∀ (inp : LightInput) (s req : Nat),
      (inp.dpart s ≤ inp.ceiling →
        (inp.lightClamp s req).2 = false ∧ (inp.lightClamp s req).1 ≤ req ∧
        inp.epred (inp.lightClamp s req).1 s ≤ inp.ceiling ∧
        (∀ l, l ≤ req → inp.epred l s ≤ inp.ceiling → l ≤ (inp.lightClamp s req).1) ∧
        (0 < inp.eFull →
          (inp.lightClamp s req).1 = min req (((inp.ceiling - inp.dpart s + 1) * 1000 - 1) / inp.eFull)) ∧
        (inp.eFull = 0 → (inp.lightClamp s req).1 = req)) ∧
      (inp.ceiling < inp.dpart s → inp.lightClamp s req = (0, true))) ∧
  (∀ (inp : LightInput) (light shade : Option Nat),
      let r := inp.run light shade
      let ep := inp.epart (light.getD inp.light)
      (∀ l, r.light = some l → l = 0 ∨ inp.epred l (r.shade.getD inp.shade) ≤ inp.ceiling) ∧
      (∀ l l', light = some l → r.light = some l' → l' ≤ l) ∧
      (∀ q q', inp.d0Status ≠ .unknown → inp.tc ≠ 1000 → shade = some q → q ≤ 100 → r.shade = some q' →
        q ≤ q' ∧ q' ≤ 100 ∧
        (q' < 100 → inp.dpart q' + ep ≤ inp.ceiling) ∧
        ∀ x, q ≤ x → x < q' → inp.ceiling < inp.dpart x + ep) ∧
      (∀ q, inp.d0Status ≠ .unknown → inp.tc = 1000 → shade = some q → r.shade = some q) ∧
      (∀ q, inp.d0Status = .unknown → shade = some q →
        r.shade = some (if inp.ceiling < inp.d.getD 0 + ep then 100 else max q (inp.shadeNow - 10))) ∧
      ((∀ q, shade = some q → q ≤ 100) →
        (hasCond r.conds .daylightOver = true ↔
          (∃ q, shade = some q ∧
            ((inp.d0Status = .unknown ∧ inp.ceiling < inp.d.getD 0 + ep) ∨
              (inp.d0Status ≠ .unknown ∧ inp.tc = 1000 ∧ inp.ceiling < inp.dpart q + ep) ∨
              (inp.d0Status ≠ .unknown ∧ inp.tc ≠ 1000 ∧ ∀ x, q ≤ x → x ≤ 100 → inp.ceiling < inp.dpart x + ep))) ∨
          (light.isSome = true ∧ inp.ceiling < inp.dpart (r.shade.getD inp.shade)))) ∧
      (hasCond r.conds .clampLight = true ↔ r.light ≠ light) ∧ (hasCond r.conds .clampShade = true ↔ r.shade ≠ shade) ∧
      (hasCond r.conds .daylightHeld = true ↔ inp.d0Status ≠ .known))

/-! ## Admission of setpoints -/

namespace Sys2Proof.Machine

/-- The payload of a SET_POINT for a channel and a value (R181). -/
def setPointBytes (z : ZoneId) (ch : ChanKind) (v : Int) : List Byte := [u1 z.val, u1 (chanIdx ch).val] ++ s2 v

/-- A value that a SET_POINT can carry (R79): two signed bytes but for 0x8000. -/
def Sendable (v : Int) : Prop := -32767 ≤ v ∧ v ≤ 32767

/-- Checks 1 to 4 of a SET_POINT pass (R80, R81). -/
def PassesToCheckFour (s : State) (p : PortId) (z : ZoneId) (ch : ChanKind) : Prop :=
  s.supervised = true ∧ (s.zone z).cfg.use = true ∧ ((s.zone z).cfg.act ch).isSome = true ∧
    s.may p z (chanRight ch) = true ∧ ((s.chan z ch).holder = none ∨ (s.chan z ch).holder = some p)

/-- The code of the first of checks 1 to 4 that a SET_POINT fails, if it fails one (R80, R81). -/
def firstFailed (s : State) (p : PortId) (z : ZoneId) (ch : ChanKind) : Option Status :=
  if s.supervised = false then some .standby
  else if (s.zone z).cfg.use = false ∨ (s.zone z).cfg.act ch = none then some .noChannel
  else if s.may p z (chanRight ch) = false then some .noRight
  else if (s.chan z ch).holder ≠ none ∧ (s.chan z ch).holder ≠ some p then some .notTenured
  else none

/-- What check 4 leaves (R81): the port holds the channel, whose last activity is now, and the waiters stand. -/
def HoldsNow (s t : State) (p : PortId) (z : ZoneId) (ch : ChanKind) : Prop :=
  (t.chan z ch).holder = some p ∧ (t.chan z ch).waiters = (s.chan z ch).waiters ∧ (t.chan z ch).lastActivity = s.clock

/-- Another channel of any zone keeps its grant, its holder and its waiters. -/
def OtherChannels (s t : State) (z : ZoneId) (ch : ChanKind) : Prop :=
  ∀ z' ch', (z', ch') ≠ (z, ch) → t.chan z' ch' = s.chan z' ch'

/-- A SET_POINT frame whose payload spells no zone, channel and value (R79). -/
def Misspelt (f : Frame) : Prop := ∀ z ch v, Sendable v → f.payload ≠ setPointBytes z ch v

/-- The response of a refused SET_POINT: no value granted, and the channel given (R85). -/
def refusedResponse (tag : Byte) (chan : Option (ZoneId × ChanKind)) (code : Status) (conds : CondSet) : Response :=
  { tag := tag, status := code,
    payload := [finOpt (chan.map Prod.fst), chanOpt (chan.map Prod.snd), 0x80, 0] ++ u2 conds.toNat }

/-- The refusal record and count of a refused SET_POINT that asked for `asked`; those of the other ports stand (R88, R175). -/
structure RefusalNoted (s t : State) (p : PortId) (asked : Option (ZoneId × ChanKind)) (code : Status) : Prop where
  refusal : (t.port p).refusal =
    some { cmd := 0x01, zone := asked.map Prod.fst, ch := asked.map Prod.snd, code := code, time := s.clock }
  count   : (t.port p).refusals = raised (s.port p).refusals
  others  : ∀ q, q ≠ p → (t.port q).refusal = (s.port q).refusal ∧ (t.port q).refusals = (s.port q).refusals

/-- A SET_POINT alone that asked for `asked` is refused (R85, R88): the response, which names `told`, and the refusal record. -/
structure SetPointRefused (s t : State) (p : PortId) (f : Frame) (rest : List Frame) (asked told : Option (ZoneId × ChanKind))
    (code : Status) (conds : CondSet) : Prop where
  intake : Accepted s t p f rest code (refusedResponse f.tag told code conds).payload
  noted  : RefusalNoted s t p asked code

/-- A SET_POINT that is refused and breaks the set `l` (R104, R107): its own response, then LINK_BROKEN for each member in arrival
order, the link record closed, and its own refusal in the refusal record. -/
structure SetPointBreaks (s t : State) (p : PortId) (l : LinkRecord) (f : Frame) (rest : List Frame)
    (asked told : Option (ZoneId × ChanKind)) (code : Status) : Prop where
  intake    : (t.port p).queue = rest ∧ (t.port p).taken = raised (s.port p).taken
  responses : (t.port p).tx = (s.port p).tx ++ refusedResponse f.tag told code 0 ::
    l.members.map fun m => refusedResponse m.tag (l.zone.map fun z => (z, m.ch)) .linkBroken 0
  noted     : RefusalNoted s t p asked code
  closed    : (t.port p).link = none
  others    : ∀ q, q ≠ p → (t.port q).queue = (s.port q).queue ∧ (t.port q).tx = (s.port q).tx ∧ (t.port q).link = (s.port q).link

end Sys2Proof.Machine

/-- A SET_POINT alone that passes every check is granted the value its evaluation gives (R83 to R87, R89): DONE when that is the
value sent, CLAMPED otherwise; the value is granted and handed to LC, the port holds the channel, the cause set is the
evaluation's, a condition that is new in the sticky set makes ZONE_CONDITION pending on the ports that ask for it (R92), and only the
channel, the zone's condition sets, the command list and the reports change. -/
def Obligations.SetPointIsGranted : Prop :=
  ∀ (s : State) (p : PortId) (z : ZoneId) (ch : ChanKind) (v : Int) (f : Frame) (rest : List Frame), NextRequest s p 0x01 f rest →
    f.payload = setPointBytes z ch v → Sendable v → (s.port p).link = none → PassesToCheckFour s p z ch →
    (isClimate ch = true → (s.zone z).conflict = false) → (s.evaluate z (.only ch v)).pass = true →
    ∃ t g, exec (.setPoint p) s = .next t ∧ (s.evaluate z (.only ch v)).values.get ch = some g ∧
      (t.chan z ch).granted = some g ∧ (t.chan z ch).pending = some g ∧
      (t.chan z ch).replaced = ((s.chan z ch).replaced || (s.chan z ch).sent.isSome) ∧
      (t.chan z ch).sent = (s.chan z ch).sent ∧ (t.chan z ch).applied = (s.chan z ch).applied ∧
      HoldsNow s t p z ch ∧ OtherChannels s t z ch ∧
      (t.zone z).cause = (s.evaluate z (.only ch v)).conds ∧
      (t.zone z).sticky = (s.zone z).sticky ||| (s.evaluate z (.only ch v)).conds ∧ StickyReported s t z ∧
      (∀ z', z' ≠ z → (t.zone z').cause = (s.zone z').cause ∧ (t.zone z').sticky = (s.zone z').sticky) ∧
      Reports s t (.grant s.clock (some p) z ch (some v) g (decide (g ≠ v))) ∧
      Accepted s t p f rest (if g = v then .done else .clamped)
        (setPointBytes z ch g ++ u2 (s.evaluate z (.only ch v)).conds.toNat) ∧
      Touches (intake ++ reporting ++ [.granted, .delivery, .commands, .cause, .sticky, .tenure, .activity]) s t

/-- A SET_POINT alone that fails a check is refused with the code of the first it fails (R79 to R82, R84, R88): at checks 1 to 3
nothing but the reports changes, at check 4 the holder stands, at checks 6 and 8 the port holds the channel and the granted value
stands; only check 8 runs an evaluation, whose conditions go to the cause and the sticky set and are reported (R89, R92). One whose payload spells no zone, channel and value (R79: a wrong length, a number out of
range, the value 0x8000) is refused BAD_ARG before any other check, naming neither zone nor channel; that its record carries the
value of a payload of four bytes, and that STANDBY does not come before it, is the model's choice (notes/assumptions/17.md and
36.md). -/
def Obligations.SetPointIsRefusedAtFirstFailure : Prop :=
  ∀ (s : State) (p : PortId) (f : Frame) (rest : List Frame), NextRequest s p 0x01 f rest → (s.port p).link = none →
    (Misspelt f →
      ∃ t, exec (.setPoint p) s = .next t ∧ SetPointRefused s t p f rest none none .badArg 0 ∧
        Reports s t (.refusal s.clock p none (setPointValue f.payload) .badArg) ∧ Touches (intake ++ reporting ++ [.refusal]) s t) ∧
    ∀ (z : ZoneId) (ch : ChanKind) (v : Int), f.payload = setPointBytes z ch v → Sendable v →
    (∀ code, firstFailed s p z ch = some code →
      ∃ t, exec (.setPoint p) s = .next t ∧ SetPointRefused s t p f rest (some (z, ch)) (some (z, ch)) code 0 ∧
        Reports s t (.refusal s.clock p (some (z, ch)) (some v) code) ∧ Touches (intake ++ reporting ++ [.refusal]) s t) ∧
    (firstFailed s p z ch = none → isClimate ch = true → (s.zone z).conflict = true →
      ∃ t, exec (.setPoint p) s = .next t ∧ SetPointRefused s t p f rest (some (z, ch)) (some (z, ch)) .conflict 0 ∧
        HoldsNow s t p z ch ∧ Reports s t (.refusal s.clock p (some (z, ch)) (some v) .conflict) ∧
        Touches (intake ++ reporting ++ [.refusal, .tenure, .activity]) s t) ∧
    (firstFailed s p z ch = none → (isClimate ch = true → (s.zone z).conflict = false) →
      (s.evaluate z (.only ch v)).pass = false →
      ∃ t, exec (.setPoint p) s = .next t ∧
        SetPointRefused s t p f rest (some (z, ch)) (some (z, ch)) .rhPredict (s.evaluate z (.only ch v)).conds ∧
        HoldsNow s t p z ch ∧ (t.zone z).cause = (s.evaluate z (.only ch v)).conds ∧
        (t.zone z).sticky = (s.zone z).sticky ||| (s.evaluate z (.only ch v)).conds ∧ StickyReported s t z ∧
        Reports s t (.refusal s.clock p (some (z, ch)) (some v) .rhPredict) ∧
        Touches (intake ++ reporting ++ [.refusal, .tenure, .activity, .cause, .sticky]) s t)

/-- A SET_POINT taken while a set is open (R102 to R104, R107). One that passes checks 1 to 5 is held, not answered and not
evaluated: it joins the members as sent, fixes the set's zone, and is counted. One that is misspelt, fails a check of 1 to 4, or
fails check 5 (another zone, or a channel that a member names already) is refused with its own code and breaks the set: the members
are answered LINK_BROKEN after it in arrival order, the link record closes, and the refusal record is the SET_POINT's own. A
response with BAD_ARG names no channel (R85); its record at check 5 names the one asked for, the model's choice, as is BAD_ARG
before STANDBY (notes/assumptions/17.md and 36.md). -/
def Obligations.SetPointJoinsOrBreaksAnOpenSet : Prop :=
  ∀ (s : State) (p : PortId) (l : LinkRecord) (f : Frame) (rest : List Frame),
    NextRequest s p 0x01 f rest → (s.port p).link = some l →
    (Misspelt f → ∃ t, exec (.setPoint p) s = .next t ∧ SetPointBreaks s t p l f rest none none .badArg ∧
      Touches (intake ++ reporting ++ [.refusal, .link]) s t) ∧
    ∀ (z : ZoneId) (ch : ChanKind) (v : Int), f.payload = setPointBytes z ch v → Sendable v →
    (PassesToCheckFour s p z ch → (l.zone = none ∨ l.zone = some z) → (∀ m ∈ l.members, m.ch ≠ ch) →
      ∃ t, exec (.setPoint p) s = .next (t.countRequest p) ∧
        (t.port p).link = some { l with zone := some z, members := l.members ++ [{ tag := f.tag, ch := ch, value := v }] } ∧
        (t.port p).queue = rest ∧ (t.port p).taken = raised (s.port p).taken ∧ HoldsNow s t p z ch ∧ OtherChannels s t z ch ∧
        Touches (reporting ++ [.queue, .counters, .link, .tenure, .activity]) s t) ∧
    (∀ code, firstFailed s p z ch = some code → ∃ t, exec (.setPoint p) s = .next t ∧
      SetPointBreaks s t p l f rest (some (z, ch)) (some (z, ch)) code ∧
      Touches (intake ++ reporting ++ [.refusal, .link]) s t) ∧
    (PassesToCheckFour s p z ch → ((∃ z', l.zone = some z' ∧ z' ≠ z) ∨ ∃ m ∈ l.members, m.ch = ch) →
      ∃ t, exec (.setPoint p) s = .next t ∧ SetPointBreaks s t p l f rest (some (z, ch)) none .badArg ∧
        HoldsNow s t p z ch ∧ OtherChannels s t z ch ∧
        Touches (intake ++ reporting ++ [.refusal, .link, .tenure, .activity]) s t)

namespace Sys2Proof.Machine

/-- The code of the first re-check that the member for a channel fails, if it fails one (R108). -/
def recheckFailed (s : State) (p : PortId) (z : ZoneId) (ch : ChanKind) : Option Status :=
  if (s.zone z).cfg.use = false ∨ (s.zone z).cfg.act ch = none then some .noChannel
  else if s.may p z (chanRight ch) = false then some .noRight
  else if (s.chan z ch).holder ≠ none ∧ (s.chan z ch).holder ≠ some p then some .notTenured
  else if isClimate ch = true ∧ (s.zone z).conflict = true then some .conflict
  else none

/-- What each member gives, in the order in which a set is re-checked, granted and refused: HEAT, MOIST, SHADE, LIGHT (R108, R110). -/
def inCloseOrder {α : Type} (l : LinkRecord) (f : Member → α) : List α :=
  [ChanKind.heat, .moist, .shade, .light].flatMap fun ch => (l.members.filter fun m => m.ch = ch).map f

/-- The culprit of the re-checks of a set and its code, if one fails (R108). -/
def firstCulprit (s : State) (p : PortId) (z : ZoneId) (l : LinkRecord) : Option (ChanKind × Status) :=
  (inCloseOrder l fun m => (recheckFailed s p z m.ch).map fun code => (m.ch, code)).findSome? id

/-- A set granted whole (R110): its values `g`, with the evaluation's conditions. -/
structure SetGranted (s t : State) (p : PortId) (z : ZoneId) (l : LinkRecord) (g : Member → Int) (conds : CondSet) : Prop where
  responses : (t.port p).tx = (s.port p).tx ++ l.members.map fun m =>
    { tag := m.tag, status := if g m = m.value then .done else .clamped,
      payload := setPointBytes z m.ch (g m) ++ u2 conds.toNat }
  members   : ∀ m ∈ l.members,
    (t.chan z m.ch).granted = some (g m) ∧ (t.chan z m.ch).pending = some (g m) ∧ (t.chan z m.ch).holder = some p
  others    : ∀ z' ch, z' ≠ z ∨ (∀ m ∈ l.members, m.ch ≠ ch) → (t.chan z' ch).granted = (s.chan z' ch).granted
  records   : ReportsAll s t
    (inCloseOrder l fun m => .grant s.clock (some p) z m.ch (some m.value) (g m) (decide (g m ≠ m.value)))

/-- A set refused whole for its culprit (R110), with the evaluation's conditions. -/
structure SetRefused (s t : State) (p : PortId) (z : ZoneId) (l : LinkRecord) (culprit : ChanKind) (code : Status)
    (conds : CondSet) : Prop where
  member    : ∃ m ∈ l.members, m.ch = culprit
  responses : (t.port p).tx = (s.port p).tx ++ l.members.map fun m =>
    { tag := m.tag, status := if m.ch = culprit then code else .linkRefused,
      payload := [u1 z.val, u1 (chanIdx m.ch).val, 0x80, 0] ++ u2 conds.toNat }
  noted     : RefusalNoted s t p (some (z, culprit)) code
  others    : ∀ z' ch, (t.chan z' ch).granted = (s.chan z' ch).granted ∧ (t.chan z' ch).pending = (s.chan z' ch).pending
  records   : ReportsAll s t (inCloseOrder l fun m =>
    .refusal s.clock p (some (z, m.ch)) (some m.value) (if m.ch = culprit then code else .linkRefused))

/-- The conditions of a close are those of its zone evaluation (R89, R92, R109). -/
structure CloseRaises (s t : State) (z : ZoneId) (conds : CondSet) : Prop where
  cause  : (t.zone z).cause = conds
  sticky : (t.zone z).sticky = (s.zone z).sticky ||| conds
  report : StickyReported s t z

end Sys2Proof.Machine

/-- The close of a set with members is all or nothing (R108 to R110). If a member fails a re-check, in the order HEAT, MOIST, SHADE,
LIGHT, the set is refused for it with its code and no conditions. If none does, the members' values are evaluated as one candidate:
if it passes, every member is granted the value that comes out, answered DONE or CLAMPED, with a GRANT record each; if not, the set
is refused RH_PREDICT for its MOIST member, or its HEAT member if it has none. A refused set grants nothing: the culprit has its own
code, every other member LINK_REFUSED, each a REFUSAL record. The records stand in the order of the re-checks, the answers in the
order of arrival, and the link record closes. That a close refused at a re-check empties the cause set and adds nothing is read as
notes/assumptions/17.md says. -/
def Obligations.LinkedSetIsAllOrNothing : Prop :=
  ∀ (s : State) (p : PortId) (l : LinkRecord) (z : ZoneId), (s.port p).link = some l → l.WellFormed → l.zone = some z →
    l.members ≠ [] →
    let t := s.closeLink p
    let e := s.evaluate z l.values
    (t.port p).link = none ∧
    (∀ culprit code, firstCulprit s p z l = some (culprit, code) →
      SetRefused s t p z l culprit code 0 ∧ CloseRaises s t z 0) ∧
    (firstCulprit s p z l = none → e.pass = true →
      (∀ m ∈ l.members, (e.values.get m.ch).isSome = true) ∧
      SetGranted s t p z l (fun m => (e.values.get m.ch).getD m.value) e.conds ∧ CloseRaises s t z e.conds) ∧
    (firstCulprit s p z l = none → e.pass = false →
      SetRefused s t p z l (if ∃ m ∈ l.members, m.ch = .moist then .moist else .heat) .rhPredict e.conds ∧
        CloseRaises s t z e.conds) ∧
    Touches (reporting ++ [.tx, .link, .refusal, .granted, .delivery, .commands, .cause, .sticky, .tenure, .activity]) s t

/-- LINK in each of its four cases (R101): out of range it is refused and counted in an open set, whose expiry moves; in STANDBY
it is refused; on a closed record it opens a set with the count given; on an open one it replaces the count and moves the expiry;
nothing else changes. The count (R102): a request taken lowers it by one; at 0 a set with no members ends there, and a set with
members closes; with no set open nothing is counted. A set that reaches its expiry breaks (R105, R107): every member is answered
LINK_BROKEN in arrival order with no conditions, the refusal record is replaced once, with the last member, and granted values,
pending values, tenure and the condition sets stand; a set with no members ends there. That a timeout with no set open, or before
the second of the expiry, changes nothing is the model's choice (notes/assumptions/2.md). So is BAD_ARG before STANDBY for a count
out of range (36.md). The expiry is held in whole seconds of the crystal (4.md), and the record names a last member with its set's
zone (17.md). -/
def Obligations.LinkOpensCountsAndTimesOut : Prop :=
  (∀ (s : State) (p : PortId) (n : Byte) (f : Frame) (rest : List Frame), NextRequest s p 0x02 f rest → f.payload = [n] →
      (n.toNat = 0 ∨ 4 < n.toNat →
        ((s.port p).link = none → exec (.link p) s = .next (s.refusedWith p f rest .badArg none none)) ∧
        (∀ l, (s.port p).link = some l → exec (.link p) s = .next (((s.refusedWith p f rest .badArg none none).modPort p fun pt =>
          { pt with link := some { l with expiry := s.crystal + 2 } }).countRequest p))) ∧
      (1 ≤ n.toNat → n.toNat ≤ 4 →
        (s.supervised = false → exec (.link p) s = .next (s.refusedWith p f rest .standby none none)) ∧
        (s.supervised = true → (s.port p).link = none →
          exec (.link p) s = .next ((s.answered p f rest .done []).modPort p fun pt =>
            { pt with link := some { remaining := n.toNat, zone := none, members := [], expiry := s.crystal + 2 } })) ∧
        (∀ l, s.supervised = true → (s.port p).link = some l →
          exec (.link p) s = .next ((s.answered p f rest .done []).modPort p fun pt =>
            { pt with link := some { l with remaining := n.toNat, expiry := s.crystal + 2 } })))) ∧
  (∀ (s : State) (p : PortId),
    ((s.port p).link = none → s.countRequest p = s) ∧
    (∀ l, (s.port p).link = some l → 2 ≤ l.remaining →
      s.countRequest p = s.modPort p fun pt => { pt with link := some { l with remaining := l.remaining - 1 } }) ∧
    (∀ l, (s.port p).link = some l → l.remaining = 1 → l.members = [] →
      s.countRequest p = s.modPort p fun pt => { pt with link := none }) ∧
    (∀ l, (s.port p).link = some l → l.remaining = 1 → s.countRequest p = s.closeLink p)) ∧
  (∀ (s : State) (p : PortId),
      ((s.port p).link = none → exec (.linkTimeout p) s = .next s) ∧
      (∀ l, (s.port p).link = some l → s.crystal < l.expiry → exec (.linkTimeout p) s = .next s) ∧
      (∀ l, (s.port p).link = some l → l.expiry ≤ s.crystal → l.members = [] →
        exec (.linkTimeout p) s = .next (s.modPort p fun pt => { pt with link := none })) ∧
      (∀ l m, (s.port p).link = some l → l.expiry ≤ s.crystal → l.members.getLast? = some m →
        ∃ t, exec (.linkTimeout p) s = .next t ∧ (t.port p).link = none ∧
          (t.port p).tx = (s.port p).tx ++ l.members.map (fun m =>
            { tag := m.tag, status := .linkBroken,
              payload := [finOpt l.zone, chanOpt (l.zone.map fun _ => m.ch), 0x80, 0, 0, 0] }) ∧
          (t.port p).refusal = some { cmd := 0x01, zone := l.zone, ch := some m.ch, code := .linkBroken, time := s.clock } ∧
          (t.port p).refusals = raised (s.port p).refusals ∧
          (∀ q, q ≠ p → (t.port q).link = (s.port q).link ∧ (t.port q).tx = (s.port q).tx ∧
            (t.port q).refusal = (s.port q).refusal) ∧
          Touches (reporting ++ [.link, .tx, .refusal]) s t))

/-- CLEAR_CONDITIONS (R93) removes the conditions named from the zone's sticky set, answers with what is left, and touches nothing
else; without the ENVELOPE right it is refused NO_RIGHT, and for a zone outside Z0..Z7 BAD_ARG. -/
def Obligations.ClearConditionsClearsSticky : Prop :=
  ∀ (s : State) (p : PortId) (zb : Byte) (cs : CondSet) (f : Frame) (rest : List Frame), NextRequest s p 0x05 f rest →
    f.payload = zb :: u2 cs.toNat →
    (∀ z : ZoneId, zb = u1 z.val →
      (s.may p z .envelope = true →
        exec (.clearConditions p) s = .next (((s.modZone z fun zn => { zn with sticky := zn.sticky &&& ~~~cs }).answered p f rest
          .done (u2 ((s.zone z).sticky &&& ~~~cs).toNat)).countRequest p)) ∧
      (s.may p z .envelope = false →
        exec (.clearConditions p) s = .next ((s.refusedWith p f rest .noRight (some z) none).countRequest p))) ∧
    (8 ≤ zb.toNat → exec (.clearConditions p) s = .next ((s.refusedWith p f rest .badArg none none).countRequest p))

/-! ## Tenure -/

namespace Sys2Proof.Machine

/-- The holder and wait list of a channel as a response carries them (R115, R118). -/
def holderBytes (c : Channel) : List Byte := [finOpt c.holder, finOpt c.waiters[0]?, finOpt c.waiters[1]?]

/-- Chain order (R114): a conservation port before the others, and otherwise ascending. -/
def InChainOrder (s : State) (l : List PortId) : Prop :=
  l.Pairwise fun a b => (s.port a).role = .conservation ∨ ((s.port b).role ≠ .conservation ∧ a < b)

/-- The six conditions of R120. -/
def Lapses (s : State) (z : ZoneId) (ch : ChanKind) : Prop :=
  s.supervised = true ∧ (s.zone z).cfg.use = true ∧ ((s.zone z).cfg.act ch).isSome = true ∧
    (s.chan z ch).holder.isSome = true ∧ 0 < s.hold ch ∧ (s.chan z ch).waiters ≠ [] ∧
    s.hold ch ≤ s.clock.since (s.chan z ch).lastActivity

end Sys2Proof.Machine

/-- TAKE_TENURE (R115, R117, R123). With the channel's right: a free channel is taken; the holder's own request changes nothing;
the conservation port with the preempt flag displaces another holder; any other port joins the wait list at its place in chain
order, keeps it if it waits already, and is answered WAITING. Without the right it is answered NO_RIGHT; with a zone, a channel or a
flag byte out of range BAD_ARG, before the right is looked at. A lapse that a joining waiter brings on is taken in the same step,
after the answer, the flag is checked with the zone and the channel, and a refused request names what of it can be read: the model's
choice (notes/assumptions/9.md, 24.md and 18.md). -/
def Obligations.TakeTenureByTheChannelsState : Prop :=
  ∀ (s : State) (p : PortId) (f : Frame) (rest : List Frame), NextRequest s p 0x03 f rest →
    (∀ (z : ZoneId) (ch : ChanKind) (pre : Bool), f.payload = [u1 z.val, u1 (chanIdx ch).val, if pre then 1 else 0] →
      (s.may p z (chanRight ch) = false →
        exec (.takeTenure p) s = .next ((s.refusedWith p f rest .noRight (some z) (some ch)).countRequest p)) ∧
      (s.may p z (chanRight ch) = true →
        ((s.chan z ch).holder = none →
          ∃ t, exec (.takeTenure p) s = .next (t.countRequest p) ∧ (t.chan z ch).holder = some p ∧
            (t.chan z ch).waiters = (s.chan z ch).waiters ∧ (t.chan z ch).lastActivity = s.clock ∧ OtherChannels s t z ch ∧
            hasAttn (t.port p).attn .tenureGained = true ∧ Reports s t (.tenure s.clock z ch none (some p) .take) ∧
            Accepted s t p f rest .done (holderBytes (t.chan z ch)) ∧
            Touches (intake ++ reporting ++ [.tenure, .activity]) s t) ∧
        ((s.chan z ch).holder = some p →
          exec (.takeTenure p) s = .next ((s.answered p f rest .done (holderBytes (s.chan z ch))).countRequest p)) ∧
        (∀ q, (s.chan z ch).holder = some q → q ≠ p →
          (pre = true → (s.port p).role = .conservation →
            ∃ t, exec (.takeTenure p) s = .next (t.countRequest p) ∧ (t.chan z ch).holder = some p ∧
              (t.chan z ch).waiters = (s.chan z ch).waiters.filter (· ≠ p) ∧ (t.chan z ch).lastActivity = s.clock ∧
              OtherChannels s t z ch ∧ hasAttn (t.port p).attn .tenureGained = true ∧
              hasAttn (t.port q).attn .tenureLost = true ∧ Reports s t (.tenure s.clock z ch (some q) (some p) .preempt) ∧
              Accepted s t p f rest .done (holderBytes (t.chan z ch)) ∧
              Touches (intake ++ reporting ++ [.tenure, .activity]) s t) ∧
          (pre = false ∨ (s.port p).role ≠ .conservation →
            ∃ w, (∀ r, r ∈ w ↔ r = p ∨ r ∈ (s.chan z ch).waiters) ∧ w.Nodup ∧ InChainOrder s w ∧
              exec (.takeTenure p) s = .next ((((s.modChan z ch fun c => { c with waiters := w }).answered p f rest .waiting
                (holderBytes { (s.chan z ch) with waiters := w })).takeLapse z ch).countRequest p))))) ∧
    (∀ zb cb fb : Byte, f.payload = [zb, cb, fb] → 8 ≤ zb.toNat ∨ 4 ≤ cb.toNat ∨ 2 ≤ fb.toNat →
      exec (.takeTenure p) s = .next ((s.refusedWith p f rest .badArg (zoneOf? zb) (chanOf? cb)).countRequest p))

/-- RELEASE_TENURE (R118): the holder passes the channel to its first waiter or frees it, a waiter leaves the list, any other port
changes nothing; each is answered DONE with the holder and wait list as they then stand. A channel lapses when the six conditions
of R120 hold and only then: its first waiter becomes holder and leaves the list, with a TENURE record and the two attention bits. A
lapse that cannot arise changes nothing: the model's choice (notes/assumptions/2.md). -/
def Obligations.ReleaseAndLapsePassTheChannelOn : Prop :=
  (∀ (s : State) (p : PortId) (z : ZoneId) (ch : ChanKind) (f : Frame) (rest : List Frame), NextRequest s p 0x04 f rest →
    f.payload = [u1 z.val, u1 (chanIdx ch).val] →
    ((s.chan z ch).holder = some p →
      ∃ t, exec (.releaseTenure p) s = .next (t.countRequest p) ∧ (t.chan z ch).holder = (s.chan z ch).waiters.head? ∧
        (t.chan z ch).waiters = (s.chan z ch).waiters.tail ∧
        (∀ w, (s.chan z ch).waiters.head? = some w →
          (t.chan z ch).lastActivity = s.clock ∧ hasAttn (t.port w).attn .tenureGained = true) ∧
        OtherChannels s t z ch ∧ Reports s t (.tenure s.clock z ch (some p) (s.chan z ch).waiters.head? .release) ∧
        Accepted s t p f rest .done (holderBytes (t.chan z ch)) ∧ Touches (intake ++ reporting ++ [.tenure, .activity]) s t) ∧
    ((s.chan z ch).holder ≠ some p →
      exec (.releaseTenure p) s = .next (((s.modChan z ch fun c => { c with waiters := c.waiters.filter (· ≠ p) }).answered p f rest
        .done (holderBytes { (s.chan z ch) with waiters := (s.chan z ch).waiters.filter (· ≠ p) })).countRequest p))) ∧
  (∀ (s : State) (z : ZoneId) (ch : ChanKind),
    (¬ Lapses s z ch → exec (.tenureLapse z ch) s = .next s) ∧
    (∀ q w ws, Lapses s z ch → (s.chan z ch).holder = some q → (s.chan z ch).waiters = w :: ws →
      ∃ t, exec (.tenureLapse z ch) s = .next t ∧ (t.chan z ch).holder = some w ∧ (t.chan z ch).waiters = ws ∧
        (t.chan z ch).lastActivity = s.clock ∧ OtherChannels s t z ch ∧ hasAttn (t.port w).attn .tenureGained = true ∧
        hasAttn (t.port q).attn .tenureLost = true ∧ Reports s t (.tenure s.clock z ch (some q) (some w) .lapse) ∧
        Touches (reporting ++ [.tenure, .activity]) s t))

/-- SET_HOLD from the conservation port (R119, R120): the hold time of the kind becomes the time given, DONE is answered, and the
channels of the kind whose lapse the new time brings on lapse straight after; the other kinds' tenure stands. That the lapses are
taken in the same step, and what a refused request named, is the model's choice (notes/assumptions/9.md and 18.md). -/
def Obligations.SetHoldReplacesTheTime : Prop :=
  ∀ (s : State) (p : PortId) (ch : ChanKind) (n : Nat) (f : Frame) (rest : List Frame), NextRequest s p 0x37 f rest →
    f.payload = u1 (chanIdx ch).val :: u2 n → (s.port p).role = .conservation →
    (n ≤ 3600 → ∃ t, exec (.setHold p) s = .next (t.countRequest p) ∧ t.hold ch = n ∧ (∀ ch', ch' ≠ ch → t.hold ch' = s.hold ch') ∧
      (∀ z ch', ch' ≠ ch → t.chan z ch' = s.chan z ch') ∧
      (∀ z, Lapses { s with holds := s.holds.set (chanIdx ch) n } z ch →
        (t.chan z ch).holder = (s.chan z ch).waiters.head? ∧ (t.chan z ch).waiters = (s.chan z ch).waiters.tail) ∧
      (∀ z, ¬ Lapses { s with holds := s.holds.set (chanIdx ch) n } z ch → t.chan z ch = s.chan z ch) ∧
      Accepted s t p f rest .done [] ∧ Touches (intake ++ reporting ++ [.holds, .tenure, .activity]) s t) ∧
    (3600 < n → n < 0x10000 → exec (.setHold p) s = .next ((s.refusedWith p f rest .badArg none (some ch)).countRequest p))

/-! ## System commands -/

namespace Sys2Proof.Machine

/-- What a change of C or of pace can change (R70, R72, R95). -/
abbrev paceEffects : List Part := [.pace, .ceiling, .cause, .sticky, .granted, .delivery, .commands] ++ reporting

/-- Every object's pace state is the one R69 gives it now. -/
def PaceCurrent (t : State) : Prop := ∀ o, (t.object o).pace = t.paceNow o

end Sys2Proof.Machine

/-- SUPERVISE on (R190, R120, R156): in STANDBY the part becomes SUPERVISED, every last activity is now, and every actuator bound
in an ON zone is due now, or to be retried now if SILENT; in SUPERVISED it changes nothing. SUPERVISE off (R190, R98, R106, R142,
R156): in SUPERVISED the part enters STANDBY, every set is closed, every granted value and every override is gone, LC holds no
value and no command, and no bound actuator is due; node states, tenure and conditions stand; in STANDBY it changes nothing. Each
is answered DONE, after the members of the sender's own set. The flag that says that a poll waits is the model's
(notes/assumptions/25.md). -/
def Obligations.SuperviseChangesSupervision : Prop :=
  (∀ (s : State) (p : PortId) (f : Frame) (rest : List Frame), NextRequest s p 0x30 f rest → f.payload = [1] →
      (s.port p).role = .conservation →
      (s.supervised = true → exec (.superviseOn p) s = .next ((s.answered p f rest .done []).countRequest p)) ∧
      (s.supervised = false → ∃ t, exec (.superviseOn p) s = .next (t.countRequest p) ∧ t.supervised = true ∧
        (∀ z ch, (t.chan z ch).lastActivity = s.clock) ∧
        (∀ n, (t.node n).kind = (s.node n).kind ∧ (t.node n).code = (s.node n).code ∧ (t.node n).state = (s.node n).state ∧
          (t.node n).misses = (s.node n).misses ∧ (t.node n).attempts = (s.node n).attempts) ∧
        (∀ z ch n, (s.zone z).cfg.use = true → (s.zone z).cfg.act ch = some n →
          ((s.node n).state = .silent → (t.node n).retry = some s.clock) ∧
          ((s.node n).state ≠ .silent → (t.node n).due = some s.clock ∧ (t.node n).waiting = true)) ∧
        (∀ n, (∀ z ch, (s.zone z).cfg.use = true → (s.zone z).cfg.act ch ≠ some n) → t.node n = s.node n) ∧
        Accepted s t p f rest .done [] ∧ Touches (intake ++ [.supervised, .activity, .nodes]) s t)) ∧
  (∀ (s : State) (p : PortId) (f : Frame) (rest : List Frame), NextRequest s p 0x30 f rest → f.payload = [0] →
      (s.port p).role = .conservation →
      (s.supervised = false → exec (.superviseOff p) s = .next ((s.answered p f rest .done []).countRequest p)) ∧
      (s.supervised = true → ∃ t, exec (.superviseOff p) s = .next t ∧ t.supervised = false ∧
        (∀ q, (t.port q).link = none) ∧ (∀ z, (t.zone z).ovr = .empty) ∧
        (∀ z ch, (t.chan z ch).granted = none ∧ (t.chan z ch).pending = none ∧ (t.chan z ch).sent = none ∧
          (t.chan z ch).replaced = false ∧ (t.chan z ch).applied = none) ∧
        t.commands = [] ∧
        (∀ z ch n, (s.zone z).cfg.act ch = some n → (t.node n).due = none ∧ (t.node n).retry = none ∧ (t.node n).waiting = false ∧
          (t.node n).state = (s.node n).state ∧ (t.node n).attempts = (s.node n).attempts) ∧
        (t.port p).queue = rest ∧ (t.port p).taken = raised (s.port p).taken ∧
        (t.port p).tx.getLast? = some { tag := f.tag, status := .done, payload := [] } ∧
        Touches (intake ++ reporting ++ [.supervised, .link, .refusal, .ovr, .granted, .delivery, .commands, .nodes, .txn]) s t))

/-- SET_CLOCK from the conservation port (R185, R28, R66, R75, R120, R148, R152, R153): the clock is the time given and no longer
lost, marks not taken are gone, swing rings are empty, horizons, last activities and every due and retry time there is are at the
new time, the period starts no later than the new day and every pace state is evaluated. One CLOCK record carries the time before
and after, and a PACE record each change of a pace state (R70). Running time does not move. That marks reached and not yet taken go
with the old time is the model's choice (notes/assumptions/7.md). -/
def Obligations.SetClockMovesEveryBlock : Prop :=
  ∀ (s : State) (p : PortId) (time : GTime) (f : Frame) (rest : List Frame), NextRequest s p 0x31 f rest →
    time.day < 0x10000 → time.sec < 0x1000000 → f.payload = u2 time.day ++ u3 time.sec → (s.port p).role = .conservation →
    (time.sec ≤ 86399 → ∃ t, exec (.setClock p) s = .next (t.countRequest p) ∧ t.clock = time ∧ t.clockLost = false ∧
      t.minuteMarks = [] ∧ t.fiveMarks = [] ∧ t.periodStart = min s.periodStart time.day ∧ PaceCurrent t ∧
      (∀ z, (t.zone z).est = { (s.zone z).est with ring := [] } ∧ (t.zone z).horizon = time ∧
        (t.zone z).det = { (s.zone z).det with luxPending := (s.zone z).det.luxPending.map fun q => { q with start := time } }) ∧
      (∀ z ch, (t.chan z ch).lastActivity = time) ∧
      (∀ n, (t.node n).due = (s.node n).due.map (fun _ => time) ∧ (t.node n).retry = (s.node n).retry.map (fun _ => time) ∧
        (t.node n).state = (s.node n).state ∧ (t.node n).misses = (s.node n).misses ∧
        (t.node n).attempts = (s.node n).attempts) ∧
      RecordsOf Record.isClock s t [.clock s.clock time] ∧
      (∀ o, RecordsOf (Record.isPaceOf o) s t
        (paceChange time o (s.object o).cfg.zone (s.object o).pace (t.object o).pace (s.object o).acct.consumed)) ∧
      Accepted s t p f rest .done [] ∧
      Touches (intake ++ paceEffects ++ [.clock, .clockLost, .marks, .periodStart, .est, .horizon, .det, .activity, .nodes]) s t) ∧
    (86399 < time.sec → exec (.setClock p) s = .next ((s.refusedWith p f rest .badArg none none).countRequest p))

/-- SAVE (R186, R188) begins a full save on an idle writer, with CONFIG taken now, or is left pending on a busy one, and is
answered DONE at once. The end of a section (R186, R187): what was written is in the store if it verified and the section is
invalid if not; a full save goes on from CONFIG to DOSE; at the end of a write the result is recorded, STORE_FAULT is pending
everywhere if it failed, and the pending save, else the pending checkpoint, begins. The outcome of the verification is the
command's operand (notes/assumptions/23.md); that an end with nothing being written changes nothing is the model's choice (2.md).
-/
def Obligations.StoreKeepsOnlyVerifiedSections : Prop :=
  (∀ (s : State) (p : PortId) (f : Frame) (rest : List Frame), NextRequest s p 0x32 f rest → f.payload = [] →
      (s.port p).role = .conservation →
      (s.store.writing = none → exec (.save p) s = .next (({ s with store := { s.store with
          config := none
          writing := some (.saveConfig s.configImage)
          pendingSave := false
          pendingCheck := false } }.answered p f rest .done []).countRequest p)) ∧
      (s.store.writing ≠ none → exec (.save p) s = .next (({ s with store := { s.store with pendingSave := true } }.answered p f rest
          .done []).countRequest p))) ∧
  (∀ (s : State) (v : Bool),
      (s.store.writing = none → exec (.storeWriteEnd v) s = .next s) ∧
      (∀ img, s.store.writing = some (.saveConfig img) →
        exec (.storeWriteEnd v) s = .next { s with store := { s.store with
          config := if v then some img else none
          lastConfig := some v
          dose := none
          writing := some (.saveDose s.doseImage v) } }) ∧
      (∀ img ok full, (full = true ∧ s.store.writing = some (.saveDose img ok)) ∨
          (full = false ∧ ok = true ∧ s.store.writing = some (.checkpoint img)) →
        ∃ t, exec (.storeWriteEnd v) s = .next t ∧ t.store.lastDose = some v ∧
          (s.store.pendingSave = false → s.store.pendingCheck = false →
            t.store = { s.store with dose := if v then some img else none, lastDose := some v, writing := none }) ∧
          (s.store.pendingSave = true → t.store.config = none ∧ t.store.dose = (if v then some img else none) ∧
            t.store.writing = some (.saveConfig s.configImage) ∧ t.store.pendingSave = false ∧ t.store.pendingCheck = false) ∧
          (s.store.pendingSave = false → s.store.pendingCheck = true → t.store.config = s.store.config ∧ t.store.dose = none ∧
            t.store.writing = some (.checkpoint s.doseImage) ∧ t.store.pendingCheck = false) ∧
          Reports s t (.store s.clock full true (ok && v)) ∧
          ((ok && v) = false → ∀ q, hasAttn (t.port q).attn .storeFault = true) ∧
          Touches (.store :: reporting) s t))

namespace Sys2Proof.Machine

/-- What a right removed does to one tenure record (R122, R123): waiters without the channel's right leave the list; a holder without
it loses the channel to the first port left, or to none, with a TENURE record of reason RIGHT and the attention bits; a holder that
keeps it stays. -/
structure RightLost (s t : State) (z : ZoneId) (ch : ChanKind) (left : List PortId) : Prop where
  passed : ∀ h, (s.chan z ch).holder = some h → t.may h z (chanRight ch) = false →
    t.chan z ch = { (s.chan z ch) with
      holder := left.head?
      waiters := left.tail
      lastActivity := if left = [] then (s.chan z ch).lastActivity else s.clock } ∧
    RecordsOf (Record.isTenureOf z ch) s t [.tenure s.clock z ch (some h) left.head? .right] ∧
    hasAttn (t.port h).attn .tenureLost = true ∧ ∀ w, left.head? = some w → hasAttn (t.port w).attn .tenureGained = true
  kept   : (∀ h, (s.chan z ch).holder = some h → t.may h z (chanRight ch) = true) →
    t.chan z ch = { (s.chan z ch) with waiters := left } ∧ RecordsOf (Record.isTenureOf z ch) s t []

end Sys2Proof.Machine

/-- WRITE_AUTHORITY from the conservation port (R122, R123, R174): the port's rights in each zone named become the set given, and no
other right changes. Where the port so loses the LIGHT or the CLIMATE right, the waiters without it leave the channels that hang on
it there, and a holder without it loses the channel to the first waiter left, or to none, with a TENURE record of reason RIGHT; every
other channel stands, and so does its record of tenure. A write that would take ENVELOPE from the conservation port, or that names no
zone, is refused and changes nothing. That the refusal record of a request that names a port and a zone set names no zone is the
model's choice (notes/assumptions/18.md). -/
def Obligations.WriteAuthorityActsOnTenure : Prop :=
  ∀ (s : State) (p q : PortId) (zs : Byte) (rs : RightSet) (f : Frame) (rest : List Frame), NextRequest s p 0x33 f rest →
    f.payload = [u1 q.val, zs, u1 rs.toNat] → (s.port p).role = .conservation →
    (zs ≠ 0 → ((s.port q).role = .conservation → hasRight rs .envelope = true) →
      ∃ t, exec (.writeAuthority p) s = .next (t.countRequest p) ∧
        (∀ z : ZoneId, (t.port q).rights[z] = if zs.getLsbD z.val then rs else (s.port q).rights[z]) ∧
        (∀ p', p' ≠ q → (t.port p').rights = (s.port p').rights) ∧
        (∀ z ch, zs.getLsbD z.val = false ∨ s.may q z (chanRight ch) = false ∨ hasRight rs (chanRight ch) = true →
          t.chan z ch = s.chan z ch ∧ RecordsOf (Record.isTenureOf z ch) s t []) ∧
        (∀ z ch, zs.getLsbD z.val = true → s.may q z (chanRight ch) = true → hasRight rs (chanRight ch) = false →
          (t.chan z ch).holder ≠ some q ∧ q ∉ (t.chan z ch).waiters ∧
            RightLost s t z ch ((s.chan z ch).waiters.filter fun w => t.may w z (chanRight ch))) ∧
        Accepted s t p f rest .done ((List.finRange 8).map fun z : ZoneId => u1 (t.port q).rights[z].toNat) ∧
        Touches (intake ++ reporting ++ [.rights, .tenure, .activity]) s t) ∧
    (zs = 0 ∨ ((s.port q).role = .conservation ∧ hasRight rs .envelope = false) →
      exec (.writeAuthority p) s = .next ((s.refusedWith p f rest .badArg none none).countRequest p))

/-- WRITE_NODE from the conservation port (R146, R147): with a kind that is held or an unbound node, and code 0 for an actuator,
the entry takes the kind and the code and is answered; a kind that changes leaves the node ABSENT with no counts; a sensor whose
code becomes 0 goes ABSENT and is polled no more, one whose code becomes another is due now; an entry written as it stands changes
nothing. A bound node's kind cannot change, nor can an actuator have a code. A change of the node's state is reported (R149). Due times
follow a code change literally (notes/assumptions/26.md); the flag that says that a poll waits is the model's (25.md), and a request
that names a node names no zone (18.md). -/
def Obligations.WriteNodeChangesTheEntry : Prop :=
  ∀ (s : State) (p : PortId) (n : NodeId) (k : NodeKind) (code : Nat) (f : Frame) (rest : List Frame),
    NextRequest s p 0x34 f rest → f.payload = [u1 (n.val + 1), u1 (kindCode k), u1 code] → code ≤ 7 →
    (s.port p).role = .conservation →
    (((s.node n).kind = k ∨ s.boundZone n = none) → (isSensor k = true ∨ code = 0) →
      ∃ t, exec (.writeNode p) s = .next (t.countRequest p) ∧ (t.node n).kind = k ∧
        (isSensor k = true ∨ (s.node n).kind ≠ k → (t.node n).code = code) ∧
        ((s.node n).kind ≠ k → (t.node n).state = .absent ∧ (t.node n).misses = 0 ∧ (t.node n).attempts = 0 ∧
          (t.node n).retry = none ∧ ((t.node n).due = if isSensor k = true ∧ 0 < code then some s.clock else none)) ∧
        (isSensor k = true → (s.node n).code ≠ code → (code = 0 → (t.node n).state = .absent ∧ (t.node n).due = none) ∧
          (0 < code → (t.node n).due = some s.clock ∧ (t.node n).waiting = true)) ∧
        ((s.node n).kind = k → (s.node n).code = code → t.node n = s.node n) ∧ NodeReported s t n ∧
        (∀ n', n' ≠ n → t.node n' = s.node n') ∧
        Accepted s t p f rest .done [u1 (kindCode k), u1 (t.node n).code] ∧
        Touches (intake ++ reporting ++ [.nodes, .txn, .est, .det]) s t) ∧
    (((s.node n).kind ≠ k ∧ s.boundZone n ≠ none) ∨ (isSensor k = false ∧ code ≠ 0) →
      exec (.writeNode p) s = .next ((s.refusedWith p f rest .badArg none none).countRequest p))

/-- RESET_DOSE and SET_PERIOD from the conservation port (R73, R76): the account takes the dose with no remainder, or the period
its length and its start if one is given; previous and every horizon stand; the pace states concerned are evaluated at once, and
each that changes makes its PACE record (R70). A start later than today is refused. That the start day of a request that gives none is not looked at is the model's choice
(notes/assumptions/15.md). -/
def Obligations.DoseAndPeriodCorrections : Prop :=
  ∀ (s : State) (p : PortId) (f : Frame) (rest : List Frame), (s.port p).role = .conservation →
    (∀ (o : ObjId) (dose : Nat), NextRequest s p 0x35 f rest → f.payload = u1 o.val :: u4 dose → dose ≤ 99999999 →
      ∃ t, exec (.resetDose p) s = .next (t.countRequest p) ∧
        t.object o = { (s.object o) with
          acct := { consumed := dose, frac := 0, previous := (s.object o).acct.previous }
          pace := paceFor dose (s.object o).cfg.allowance (s.object o).cfg.slack s.periodN s.elapsed } ∧
        RecordsOf Record.isPace s t
          (paceChange s.clock o (s.object o).cfg.zone (s.object o).pace (t.object o).pace dose) ∧
        OtherObjects s t o ∧ Accepted s t p f rest .done [] ∧ Touches (intake ++ paceEffects ++ [.acct]) s t) ∧
    (∀ (n day : Nat) (given : Bool), NextRequest s p 0x36 f rest → f.payload = u2 n ++ [if given then 1 else 0] ++ u2 day →
      1 ≤ n → n ≤ 400 → day < 0x10000 →
      ((given = true → day ≤ s.clock.day) →
        ∃ t, exec (.setPeriod p) s = .next (t.countRequest p) ∧ t.periodN = n ∧
          t.periodStart = (if given then day else s.periodStart) ∧ PaceCurrent t ∧
          (∀ o, RecordsOf (Record.isPaceOf o) s t
            (paceChange s.clock o (s.object o).cfg.zone (s.object o).pace (t.object o).pace (s.object o).acct.consumed)) ∧
          Accepted s t p f rest .done [] ∧ Touches (intake ++ paceEffects ++ [.periodN, .periodStart]) s t) ∧
      (given = true → s.clock.day < day →
        exec (.setPeriod p) s = .next ((s.refusedWith p f rest .badArg none none).countRequest p)))

/-- A charge (R64) loses nothing below the cap: consumed and remainder together rise by exactly inc, the remainder stays under
3600, at the cap consumed is 99,999,999, previous stands, and two charges come to one charge of their sum. The pace state (R69) is
EXHAUSTED when consumed is at least A, AHEAD when it is not and is above the share due by now plus the slack, and no object is
AHEAD once a whole period has passed. -/
def Obligations.DoseChargesAndPace : Prop :=
  (∀ (a : Account) (x y : Nat),
      (a.charge x).previous = a.previous ∧ (a.charge x).frac < 3600 ∧
      (a.consumed + (a.frac + x) / 3600 ≤ 99999999 →
        (a.charge x).consumed * 3600 + (a.charge x).frac = a.consumed * 3600 + a.frac + x) ∧
      (99999999 ≤ a.consumed + (a.frac + x) / 3600 → (a.charge x).consumed = 99999999) ∧
      (a.charge x).charge y = a.charge (x + y)) ∧
  (∀ (consumed a slack n elapsed : Nat), 1 ≤ n →
      (paceFor consumed a slack n elapsed = .exhausted ↔ a ≤ consumed) ∧
      (paceFor consumed a slack n elapsed = .ahead ↔
        consumed < a ∧ a * elapsed / (n * 86400) + a * slack / 100 < consumed) ∧
      (n * 86400 ≤ elapsed → paceFor consumed a slack n elapsed ≠ .ahead))

/-! ## Time -/

namespace Sys2Proof.Machine

/-- The charge that takes a zone at `e` lux from its horizon to `upTo`, for an account of an object with the ratio `w` (R63 to R65). -/
def Account.chargedTo (a : Account) (horizon upTo : GTime) (e w : Nat) : Account :=
  a.charge ((upTo.toSeconds - horizon.toSeconds) * ((e * w + 500) / 1000))

/-- An object's account after the blind charges of the minute mark `m`: an ON object of a zone that is charged blind, and whose
horizon is not past the mark, is charged to the mark at the greater of C and the last E (R65). -/
def blindAccount (s : State) (m : GTime) (o : ObjId) : Account :=
  let ob := s.object o
  let zn := s.zone ob.cfg.zone
  if ob.cfg.use = true ∧ s.chargesBlind ob.cfg.zone = true ∧ zn.horizon.toSeconds ≤ m.toSeconds then
    ob.acct.chargedTo zn.horizon m (max zn.ceiling (zn.est.eMeas.getD 0)) ob.cfg.w
  else ob.acct

/-- An object's pace state after the blind charges of the minute mark `m`, which evaluate it if they change its consumed dose (R64). -/
def blindPace (s : State) (m : GTime) (o : ObjId) : Pace :=
  let ob := s.object o
  if (blindAccount s m o).consumed = ob.acct.consumed then ob.pace
  else paceFor (blindAccount s m o).consumed ob.cfg.allowance ob.cfg.slack s.periodN s.elapsed

end Sys2Proof.Machine

/-- One second of the crystal (R184, R105): the clock goes on by one second, to second 0 of the next day after 86399, and hands
the second it reaches on as a minute mark and a five-minute mark where it is one; at its last second it stands and reaches none.
Running time goes on in any case; nothing else changes. That marks wait in lists is the model's choice (notes/assumptions/7.md).
-/
def Obligations.ClockSecondAdvances : Prop :=
  ∀ s : State, s.clock.sec ≤ 86399 → s.clock.day ≤ 65535 →
    (s.clock = { day := 65535, sec := 86399 } → exec .clockSecond s = .next { s with crystal := s.crystal + 1 }) ∧
    (s.clock ≠ { day := 65535, sec := 86399 } →
      let now : GTime := if s.clock.sec = 86399 then { day := s.clock.day + 1, sec := 0 }
        else { day := s.clock.day, sec := s.clock.sec + 1 }
      exec .clockSecond s = .next { s with
        clock := now
        crystal := s.crystal + 1
        minuteMarks := s.minuteMarks ++ (if now.sec % 60 = 0 then [now] else [])
        fiveMarks := s.fiveMarks ++ (if now.sec % 300 = 0 then [now] else []) })

/-- A minute mark (R63, R65, R74, R78): DI takes the oldest one waiting. Every ON zone whose light node is STALE, ABSENT or none is
charged to the mark at the greater of C and the last E, and its horizon moves there; every other horizon and account stands. At a
day boundary at which the period is over, previous becomes the consumed dose so reached, consumed and remainder are 0, and the
period starts today, with a ROLLOVER record for each ON object; every pace state is evaluated, and each change makes its PACE record
(R70); a quarter-hour mark hands the writer a checkpoint, which a busy writer keeps pending (R77, R186). With no mark waiting nothing
happens (notes/assumptions/2.md). That marks wait in a list, that a horizon already past the mark stays with nothing charged, and
that the rest of the work is done at now, is the model's choice (7.md). -/
def Obligations.MinuteMarkDoesTheDoseWork : Prop :=
  ∀ s : State,
    (s.minuteMarks = [] → exec .minuteMark s = .next s) ∧
    (∀ m ms, s.minuteMarks = m :: ms →
      ∃ t, exec .minuteMark s = .next t ∧ t.minuteMarks = ms ∧ t.fiveMarks = s.fiveMarks ∧ PaceCurrent t ∧
        (∀ z, (t.zone z).horizon = if s.chargesBlind z = true ∧ (s.zone z).horizon.toSeconds ≤ m.toSeconds then m
          else (s.zone z).horizon) ∧
        (∀ z, s.chargesBlind z = true ↔ (s.zone z).cfg.use = true ∧ ∀ n, (s.zone z).cfg.lightNode = some n →
          (s.node n).state = .stale ∨ (s.node n).state = .absent) ∧
        (m.sec = 0 → s.periodN ≤ s.clock.day - s.periodStart →
          t.periodStart = s.clock.day ∧
          ∀ o, (t.object o).acct = { consumed := 0, frac := 0, previous := (blindAccount s m o).consumed }) ∧
        (m.sec ≠ 0 ∨ s.clock.day - s.periodStart < s.periodN → t.periodStart = s.periodStart ∧
          ∀ o, (t.object o).acct = blindAccount s m o) ∧
        (m.sec % 900 ≠ 0 → t.store = s.store) ∧
        (m.sec % 900 = 0 → s.store.writing = none → t.store.dose = none ∧ t.store.writing = some (.checkpoint t.doseImage)) ∧
        (m.sec % 900 = 0 → s.store.writing ≠ none → t.store = { s.store with pendingCheck := true }) ∧
        (∀ o, RecordsOf (Record.isRolloverOf o) s t
          (if m.sec = 0 ∧ s.periodN ≤ s.clock.day - s.periodStart ∧ (s.object o).cfg.use = true then
            [.rollover s.clock o (s.object o).cfg.zone (blindAccount s m o).consumed] else [])) ∧
        (∀ o, RecordsOf (Record.isPaceOf o) s t
          (paceChange s.clock o (s.object o).cfg.zone (s.object o).pace (blindPace s m o) (blindAccount s m o).consumed ++
            paceChange s.clock o (s.object o).cfg.zone (blindPace s m o) (t.object o).pace (t.object o).acct.consumed)) ∧
        Touches (paceEffects ++ [.marks, .horizon, .acct, .periodStart, .store]) s t)

/-- A five-minute mark (R24, R26, R128): ZE takes the oldest one waiting; each zone's ring gets an empty slot at its young end
unless it has no slot at all, and never holds more than twelve. A mark that removes a slot tracks or closes the open swing
excursions of an ON zone with a usable estimate, against the swings it leaves; every other detection record stands. With no mark
waiting nothing happens (notes/assumptions/2.md). That marks wait in a list is the model's choice (7.md); a mark opens no excursion
whatever the limits have become (14.md). -/
def Obligations.FiveMinuteMarkMovesTheRings : Prop :=
  ∀ s : State,
    (s.fiveMarks = [] → exec .fiveMinuteMark s = .next s) ∧
    (∀ m ms, s.fiveMarks = m :: ms → (∀ z, (s.zone z).est.ring.length ≤ 12) →
      ∃ t, exec .fiveMinuteMark s = .next t ∧ t.fiveMarks = ms ∧ t.minuteMarks = s.minuteMarks ∧
        (∀ z, (t.zone z).est = { (s.zone z).est with ring := (t.zone z).est.ring } ∧ (t.zone z).est.ring.length ≤ 12 ∧
          (t.zone z).est.ring = if (s.zone z).est.ring = [] then []
            else if (s.zone z).est.ring.length = 12 then (s.zone z).est.ring.drop 1 ++ [none]
            else (s.zone z).est.ring ++ [none]) ∧
        (∀ z x, (s.zone z).est.ring.length = 12 → (s.zone z).cfg.use = true → s.usable z = true → (t.zone z).est.extremes = some x →
          MarkTested s.clock 20 (s.zone z).eff.tSwing (x.tMax - x.tMin) ((s.zone z).exc .tSwing) ((t.zone z).exc .tSwing) ∧
          MarkTested s.clock 100 (s.zone z).eff.rhSwing (x.rhMax - x.rhMin) ((s.zone z).exc .rhSwing) ((t.zone z).exc .rhSwing)) ∧
        (∀ z, (s.zone z).est.ring.length ≠ 12 ∨ (s.zone z).cfg.use = false ∨ s.usable z = false ∨ (t.zone z).est.extremes = none →
          (t.zone z).det = (s.zone z).det) ∧
        (∀ z, (∀ k, k ≠ .tSwing → k ≠ .rhSwing → (t.zone z).exc k = (s.zone z).exc k) ∧
          (t.zone z).det.luxPending = (s.zone z).det.luxPending ∧ (t.zone z).det.uvFirst = (s.zone z).det.uvFirst) ∧
        Touches (reporting ++ [.marks, .est, .det]) s t)

/-! ## The field loop -/

namespace Sys2Proof.Machine

/-- A time that is set and not after now. -/
def Reached (s : State) (t : Option GTime) : Prop := ∃ d, t = some d ∧ d.toSeconds ≤ s.clock.toSeconds

/-- An actuator that LC may address: bound to the channel, its zone ON, the part SUPERVISED (R153, R154). -/
def Addressed (s : State) (n : NodeId) (z : ZoneId) (ch : ChanKind) : Prop :=
  s.boundChan n = some (z, ch) ∧ s.supervised = true ∧ (s.zone z).cfg.use = true

/-- A channel whose COMMAND may be begun (R154). -/
def Eligible (s : State) (zc : ZoneId × ChanKind) : Prop :=
  s.supervised = true ∧ (s.zone zc.1).cfg.use = true ∧ ((s.zone zc.1).cfg.act zc.2).isSome = true ∧
    (s.chan zc.1 zc.2).pending.isSome = true

/-- An actuator whose STATUS waits for the loop (R154). -/
def StatusWaits (s : State) (n : NodeId) : Prop := (s.node n).waiting = true ∧ ∃ z ch, Addressed s n z ch

/-- A sensor whose READ waits for the loop (R154). -/
def ReadWaits (s : State) (n : NodeId) : Prop :=
  (s.node n).waiting = true ∧ isSensor (s.node n).kind = true ∧ 0 < (s.node n).code

/-- Of the nodes that wait, the one with the earliest due time, and of equal times the lowest address (R154). -/
def FirstDue (s : State) (waits : NodeId → Prop) (n : NodeId) : Prop :=
  waits n ∧ ∀ m, waits m → s.dueSeconds n < s.dueSeconds m ∨ (s.dueSeconds n = s.dueSeconds m ∧ n ≤ m)

/-- What the report of a node's state can change (R149). -/
abbrev nodeEffects : List Part := [.nodes, .est, .det] ++ reporting

/-- The due time after a poll every `period` seconds (R148, R153): the previous due time moved on, or now if that is later. -/
def nextDue (s : State) (due : Option GTime) (period : Nat) : GTime := ((due.getD s.clock).plus period).later s.clock

/-- A reply frame with the body given and its CRC-8 (R183). -/
def replyFrame (n : NodeId) (data : List Byte) : List Byte :=
  let body := u1 (n.val + 1 + 0x80) :: 0 :: data
  body ++ [u1 (crc8 body)]

end Sys2Proof.Machine

/-- Due times and the arbiter (R148, R152 to R154): a sensor, an actuator or a SILENT actuator whose time is reached takes its
place in line and otherwise nothing happens; a free loop begins the oldest eligible COMMAND, else the STATUS, else the READ that
is due first. How the set of waiting transactions is held, that a due time or retry which cannot arise and a start on a busy loop
change nothing, and that a retry taken leaves no retry time, is the model's choice (notes/assumptions/25.md, 2.md and 37.md). -/
def Obligations.LoopTakesCommandsThenPolls : Prop :=
  ∀ (s : State),
    (∀ n : NodeId,
      (isSensor (s.node n).kind = true → 0 < (s.node n).code → Reached s (s.node n).due →
        exec (.sensorPollDue (n.val + 1)) s = .next (s.modNode n fun nd => { nd with waiting := true })) ∧
      (isSensor (s.node n).kind = false ∨ (s.node n).code = 0 ∨ ¬ Reached s (s.node n).due →
        exec (.sensorPollDue (n.val + 1)) s = .next s) ∧
      (∀ z ch, Addressed s n z ch → Reached s (s.node n).due →
        exec (.statusDue (n.val + 1)) s = .next (s.modNode n fun nd => { nd with waiting := true })) ∧
      ((∀ z ch, ¬ Addressed s n z ch) ∨ ¬ Reached s (s.node n).due → exec (.statusDue (n.val + 1)) s = .next s) ∧
      (∀ z ch, Addressed s n z ch → (s.node n).state = .silent → Reached s (s.node n).retry →
        ((s.chan z ch).pending.isSome = true → exec (.actuatorRetry (n.val + 1)) s =
          .next ({ s with commands := if (z, ch) ∈ s.commands then s.commands else s.commands ++ [(z, ch)] }.modNode n fun nd =>
            { nd with retry := none })) ∧
        ((s.chan z ch).pending = none → exec (.actuatorRetry (n.val + 1)) s =
          .next (s.modNode n fun nd => { nd with retry := none, due := some s.clock, waiting := true }))) ∧
      ((∀ z ch, ¬ Addressed s n z ch) ∨ (s.node n).state ≠ .silent ∨ ¬ Reached s (s.node n).retry →
        exec (.actuatorRetry (n.val + 1)) s = .next s)) ∧
    (s.txn ≠ none → exec .loopTransactionStart s = .next s) ∧
    (∀ before z ch after n v, s.txn = none → s.commands = before ++ (z, ch) :: after → (∀ x ∈ before, ¬ Eligible s x) →
      Eligible s (z, ch) → (s.zone z).cfg.act ch = some n → (s.chan z ch).pending = some v →
      exec .loopTransactionStart s = .next ({ s with
          commands := (z, ch) :: after
          txn := some { node := n, op := .command, value := v, abandoned := false } }.modChan z ch fun c =>
        { c with sent := some v, replaced := false })) ∧
    (∀ n, s.txn = none → (∀ x ∈ s.commands, ¬ Eligible s x) → FirstDue s (StatusWaits s) n →
      exec .loopTransactionStart s = .next ({ s with
          commands := []
          txn := some { node := n, op := .status, value := 0, abandoned := false } }.modNode n fun nd => { nd with waiting := false })) ∧
    (∀ n, s.txn = none → (∀ x ∈ s.commands, ¬ Eligible s x) → (∀ m, ¬ StatusWaits s m) → FirstDue s (ReadWaits s) n →
      exec .loopTransactionStart s = .next ({ s with
          commands := []
          txn := some { node := n, op := .read, value := 0, abandoned := false } }.modNode n fun nd => { nd with waiting := false })) ∧
    (s.txn = none → (∀ x ∈ s.commands, ¬ Eligible s x) → (∀ m, ¬ StatusWaits s m) → (∀ m, ¬ ReadWaits s m) →
      exec .loopTransactionStart s = .next { s with commands := [] })

/-- A good reply to a READ (R21, R30 to R32, R34, R63, R144, R148): the loop is free, the sensor is FRESH with no misses and due
again, and the zone that binds it takes the values: climate into raw values and filter, light into E, UV, D and D0. D0 is D scaled
by the blind's transmission τ where τ is at least 50, and held or unknown below. In an ON zone every ON object is charged from the
horizon to now at the greater of the E before and the new one, and the horizon is now. The values of a sensor that no zone binds
are dropped. A change of the node's state is reported by a NODE record and NODE attention (R149). A reply with no transaction under
way (notes/assumptions/2.md), or to an abandoned one (31.md), is discarded. Due times are held at the end of the clock's range
(22.md). -/
def Obligations.SensorRepliesReachTheZone : Prop :=
  ∀ (s : State) (n : NodeId) (value : Int),
    (∀ bytes, (s.txn = none ∨ ∃ t, s.txn = some t ∧ t.abandoned = true) → exec (.loopReply bytes) s = .next s) ∧
    (∀ (T : Int) (rh : Nat) (z : ZoneId), s.txn = some { node := n, op := .read, value := value, abandoned := false } →
      (s.node n).kind = .climateSensor → -4000 ≤ T → T ≤ 8500 → rh < 0x10000 → s.boundAt n = some (z, 2) →
      ∃ t, exec (.loopReply (replyFrame n (s2 T ++ u2 rh))) s = .next t ∧ t.txn = none ∧
        (t.node n).state = .fresh ∧ (t.node n).misses = 0 ∧
        (0 < (s.node n).code → (t.node n).due = some (nextDue s (s.node n).due (pollPeriod (s.node n).code))) ∧
        (t.zone z).est.filt = ((s.zone z).est.takeClimate (s.zone z).cfg.filterCode T (min 10000 (rh : Int))).filt ∧
        (t.zone z).est.ring = ((s.zone z).est.takeClimate (s.zone z).cfg.filterCode T (min 10000 (rh : Int))).ring ∧
        (t.zone z).est.raw = some (T, min 10000 (rh : Int)) ∧ (t.zone z).est.seeded = true ∧ OtherZones s t z ∧
        NodeReported s t n ∧ (∀ m, m ≠ n → t.node m = s.node m) ∧ Touches (nodeEffects ++ [.txn, .drops]) s t) ∧
    (∀ data : List Byte, s.txn = some { node := n, op := .read, value := value, abandoned := false } → s.boundAt n = none →
      ((s.node n).kind = .climateSensor ∧ ∃ (T : Int) (rh : Nat), -4000 ≤ T ∧ T ≤ 8500 ∧ rh < 0x10000 ∧ data = s2 T ++ u2 rh) ∨
        ((s.node n).kind = .lightSensor ∧ ∃ e uv : Nat, e < 0x10000 ∧ uv < 0x10000 ∧ data = u2 e ++ u2 uv) →
      ∃ t, exec (.loopReply (replyFrame n data)) s = .next t ∧ t.txn = none ∧
        (t.node n).state = .fresh ∧ (t.node n).misses = 0 ∧
        (0 < (s.node n).code → (t.node n).due = some (nextDue s (s.node n).due (pollPeriod (s.node n).code))) ∧
        NodeReported s t n ∧ (∀ m, m ≠ n → t.node m = s.node m) ∧ Touches (reporting ++ [.txn, .nodes]) s t) ∧
    (∀ (e uv : Nat) (z : ZoneId), s.txn = some { node := n, op := .read, value := value, abandoned := false } →
      (s.node n).kind = .lightSensor → e < 0x10000 → uv < 0x10000 → s.boundAt n = some (z, 3) →
      let zn := s.zone z
      let d := e - ((s.chan z .light).applied.getD 0).toNat * zn.cfg.eFull / 1000
      let τ := 1000 - ((s.chan z .shade).applied.getD 0).toNat * (1000 - zn.cfg.tc) / 100
      ∃ t, exec (.loopReply (replyFrame n (u2 e ++ u2 uv))) s = .next t ∧ t.txn = none ∧
        (t.node n).state = .fresh ∧ (t.node n).misses = 0 ∧
        (0 < (s.node n).code → (t.node n).due = some (nextDue s (s.node n).due (pollPeriod (s.node n).code))) ∧
        (t.zone z).est.eMeas = some e ∧ (t.zone z).est.uv = some (min 2000 uv) ∧ (t.zone z).est.saturated = decide (e = 65535) ∧
        (t.zone z).est.d = some d ∧
        ((t.zone z).est.d0, (t.zone z).est.d0Status) = (if 50 ≤ τ then (some (d * 1000 / τ), .known)
          else if zn.est.d0Status = .unknown then (none, .unknown) else (zn.est.d0, .held)) ∧
        (t.zone z).horizon = (if zn.cfg.use then s.clock else zn.horizon) ∧
        (∀ o, (t.object o).acct = if zn.cfg.use = true ∧ (s.object o).cfg.use = true ∧ (s.object o).cfg.zone = z then
          (s.object o).acct.chargedTo zn.horizon s.clock (max (zn.est.eMeas.getD e) e) (s.object o).cfg.w else (s.object o).acct) ∧
        (zn.cfg.use = false → ∀ o, t.object o = s.object o) ∧
        (∀ o, (s.object o).cfg.use = false ∨ (s.object o).cfg.zone ≠ z → t.object o = s.object o) ∧ OtherZones s t z ∧
        NodeReported s t n ∧ (∀ m, m ≠ n → t.node m = s.node m) ∧
        Touches (nodeEffects ++ paceEffects ++ [.txn, .ovr, .drops, .horizon, .acct]) s t)

/-- A good reply to a COMMAND or a STATUS (R91, R144, R151 to R153): the value confirmed is the channel's applied value, a value
other than the one sent, or other than the one held, adds ACT_LIMITED to the sticky set, and the node is READY with no failures; a
COMMAND that was not replaced leaves the list, and its node's next poll is 5 s away. A new ACT_LIMITED and a change of the node's
state are reported (R92, R149). Due times are held at the end of the clock's
range (notes/assumptions/22.md). -/
def Obligations.ActuatorRepliesAreApplied : Prop :=
  ∀ (s : State) (n : NodeId) (value v : Int) (z : ZoneId) (ch : ChanKind), s.boundChan n = some (z, ch) →
    chanOfKind (s.node n).kind = some ch → inChanRange ch v = true →
    (s.txn = some { node := n, op := .command, value := value, abandoned := false } →
      ∃ t, exec (.loopReply (replyFrame n (s2 v))) s = .next t ∧ t.txn = none ∧ (t.chan z ch).applied = some v ∧
        (t.chan z ch).sent = none ∧ (t.chan z ch).replaced = false ∧
        ((s.chan z ch).replaced = false → (t.chan z ch).pending = none ∧ (z, ch) ∉ t.commands) ∧
        ((s.chan z ch).replaced = true → (t.chan z ch).pending = (s.chan z ch).pending) ∧
        (hasCond (t.zone z).sticky .actLimited = true ↔
          hasCond (s.zone z).sticky .actLimited = true ∨ (s.chan z ch).sent ≠ some v) ∧
        (t.node n).state = .ready ∧ (t.node n).attempts = 0 ∧ (t.node n).retry = none ∧
        (t.node n).due = some (s.clock.plus 5) ∧ (∀ m, m ≠ n → t.node m = s.node m) ∧ NodeReported s t n ∧ StickyReported s t z ∧
        Touches (reporting ++ [.txn, .nodes, .delivery, .commands, .sticky]) s t) ∧
    (s.txn = some { node := n, op := .status, value := value, abandoned := false } →
      ∃ t, exec (.loopReply (replyFrame n (s2 v))) s = .next t ∧ t.txn = none ∧ (t.chan z ch).applied = some v ∧
        (t.chan z ch).pending = (s.chan z ch).pending ∧ (t.chan z ch).sent = (s.chan z ch).sent ∧
        (hasCond (t.zone z).sticky .actLimited = true ↔
          hasCond (s.zone z).sticky .actLimited = true ∨ ∃ a, (s.chan z ch).applied = some a ∧ a ≠ v) ∧
        (t.node n).state = .ready ∧ (t.node n).attempts = 0 ∧ (t.node n).retry = none ∧
        (t.node n).due = some (if (s.node n).state = .silent then s.clock.plus 5 else nextDue s (s.node n).due 5) ∧
        (∀ m, m ≠ n → t.node m = s.node m) ∧ NodeReported s t n ∧ StickyReported s t z ∧
        Touches (reporting ++ [.txn, .nodes, .delivery, .commands, .sticky]) s t)

/-- A window that closes with no good reply, and a reply that fails R144, are one failure (R143, R148, R152): a READ counts a
miss, by which a FRESH or LATE sensor goes LATE or, at the stale limit, STALE; a COMMAND or STATUS counts an attempt, and at the
fourth the node is SILENT, off the command list, with its retry 10 s away. A change of the node's state is reported (R149). An
abandoned transaction ends without an outcome (notes/assumptions/31.md). That nothing happens with none under way is the model's
choice (2.md). Due times are held at the end of the clock's range (22.md). -/
def Obligations.FailedTransactionsAreCounted : Prop :=
  ∀ (s : State) (n : NodeId) (value : Int) (bytes : List Byte),
    (s.txn = none → exec .loopReplyTimeout s = .next s) ∧
    (∀ t, s.txn = some t → t.abandoned = true → exec .loopReplyTimeout s = .next { s with txn := none }) ∧
    (∀ op, s.txn = some { node := n, op := op, value := value, abandoned := false } →
      replyData n op (s.node n).kind bytes = none → exec (.loopReply bytes) s = exec .loopReplyTimeout s) ∧
    (s.txn = some { node := n, op := .read, value := value, abandoned := false } →
      ∃ t, exec .loopReplyTimeout s = .next t ∧ t.txn = none ∧ (t.node n).misses = min 16 ((s.node n).misses + 1) ∧
        ((s.node n).state = .fresh ∨ (s.node n).state = .late →
          (t.node n).state = if s.staleLimit n ≤ (t.node n).misses then .stale else .late) ∧
        ((s.node n).state ≠ .fresh → (s.node n).state ≠ .late → (t.node n).state = (s.node n).state) ∧
        (0 < (s.node n).code → (t.node n).due = some (nextDue s (s.node n).due (pollPeriod (s.node n).code))) ∧
        NodeReported s t n ∧ (∀ m, m ≠ n → t.node m = s.node m) ∧ Touches (.txn :: nodeEffects) s t) ∧
    (∀ op z ch, op ≠ .read → s.txn = some { node := n, op := op, value := value, abandoned := false } →
      s.boundChan n = some (z, ch) →
      ∃ t, exec .loopReplyTimeout s = .next t ∧ t.txn = none ∧ (t.node n).attempts = min 4 ((s.node n).attempts + 1) ∧
        (op = .command → (t.chan z ch).sent = none ∧ (t.chan z ch).replaced = false) ∧
        (t.chan z ch).pending = (s.chan z ch).pending ∧ (t.chan z ch).applied = (s.chan z ch).applied ∧
        (3 ≤ (s.node n).attempts → (t.node n).state = .silent ∧ (t.node n).retry = some (s.clock.plus 10) ∧
          (t.node n).due = none ∧ (z, ch) ∉ t.commands) ∧
        ((s.node n).attempts < 3 → (t.node n).state = (s.node n).state ∧ (t.node n).retry = (s.node n).retry ∧
          t.commands = s.commands) ∧
        NodeReported s t n ∧ (∀ m, m ≠ n → t.node m = s.node m) ∧ Touches (reporting ++ [.txn, .nodes, .delivery, .commands]) s t)

/-! ## Excursions and the light the part lowers -/

/-- A climate output in an ON zone (R127, R128, R132 to R136): T_BAND, RH_BAND and the two swings are tested in that order against
the limits in force: each opens, is tracked with its peak, or closes with reason RETURNED; RH_BAND is not tested in CONFLICT, and
the light kinds stand. The swings are those of the ring after the output (R27). Every opening and close is recorded and makes
EXCURSION pending. In a zone that is OFF nothing is tested. That EM's records come before the sample counter and the sample record
is the model's choice (notes/assumptions/10.md): R34 gives no order. -/
def Obligations.ClimateOutputsTestExcursions : Prop :=
  ∀ (s : State) (n : NodeId) (value T : Int) (rh : Nat) (z : ZoneId),
    s.txn = some { node := n, op := .read, value := value, abandoned := false } → (s.node n).kind = .climateSensor →
    -4000 ≤ T → T ≤ 8500 → rh < 0x10000 → s.boundAt n = some (z, 2) →
    ((s.zone z).cfg.use = true →
      ∃ u ft frh x, exec (.loopReply (replyFrame n (s2 T ++ u2 rh))) s = .next (u.countClimate z) ∧
        (u.zone z).est.filt = some (ft, frh) ∧ Spans (u.zone z).est.ring x ∧
        BandTested s.clock 20 (s.zone z).eff.tLo (s.zone z).eff.tHi ft ((s.zone z).exc .tBand) ((u.zone z).exc .tBand) ∧
        ((s.zone z).conflict = false → BandTested s.clock 100 (s.zone z).eff.rhLo (s.zone z).eff.rhHi frh ((s.zone z).exc .rhBand)
          ((u.zone z).exc .rhBand)) ∧
        ((s.zone z).conflict = true → (u.zone z).exc .rhBand = (s.zone z).exc .rhBand) ∧
        SwingTested s.clock 20 (s.zone z).eff.tSwing (x.tMax - x.tMin) ((s.zone z).exc .tSwing) ((u.zone z).exc .tSwing) ∧
        SwingTested s.clock 100 (s.zone z).eff.rhSwing (x.rhMax - x.rhMin) ((s.zone z).exc .rhSwing) ((u.zone z).exc .rhSwing) ∧
        (u.zone z).exc .lux = (s.zone z).exc .lux ∧ (u.zone z).exc .uv = (s.zone z).exc .uv ∧
        (u.zone z).det.luxPending = (s.zone z).det.luxPending ∧ (u.zone z).det.uvFirst = (s.zone z).det.uvFirst ∧
        ExcursionsReported s u z [.tBand, .rhBand, .tSwing, .rhSwing] .returned) ∧
    ((s.zone z).cfg.use = false →
      ∃ t, exec (.loopReply (replyFrame n (s2 T ++ u2 rh))) s = .next t ∧ (t.zone z).det = (s.zone z).det)

/-- A light sample in an ON zone (R129, R131, R133 to R136, R141): LUX is tested against the C in force after the charge, with the
grace counted from the pending start, and then UV against its ceiling, over two samples; an excursion opens, is tracked with its
peak, or closes with reason RETURNED, which ends its override parts; the climate kinds stand. Every opening and close is recorded
and makes EXCURSION pending. The override computation and the sample record follow. In a zone that is OFF nothing is tested. The
order DI, then EM, then OQ (C read after the sample's own charge, the sample record after the override) is the model's choice
(notes/assumptions/10.md): R34 gives none. -/
def Obligations.LightSamplesTestExcursions : Prop :=
  ∀ (s : State) (n : NodeId) (value : Int) (e uv : Nat) (z : ZoneId),
    s.txn = some { node := n, op := .read, value := value, abandoned := false } → (s.node n).kind = .lightSensor →
    e < 0x10000 → uv < 0x10000 → s.boundAt n = some (z, 3) →
    ((s.zone z).cfg.use = true →
      ∃ u, exec (.loopReply (replyFrame n (u2 e ++ u2 uv))) s = .next ((u.computeOverride z).countLight z) ∧
        LuxTested s.clock (s.zone z).cfg.lightGrace (u.zone z).ceiling e (s.zone z) (u.zone z) ∧
        UvTested s.clock (s.zone z).eff.uv (min 2000 uv) (s.zone z) (u.zone z) ∧
        (∀ k ∈ [ExcKind.tBand, .rhBand, .tSwing, .rhSwing], (u.zone z).exc k = (s.zone z).exc k) ∧
        ExcursionsReported s u z [.lux, .uv] .returned ∧
        (u.zone z).ovr =
          { light := if ((s.zone z).exc .lux).isSome ∧ (u.zone z).exc .lux = none then none else (s.zone z).ovr.light
            shadeLux := if ((s.zone z).exc .lux).isSome ∧ (u.zone z).exc .lux = none then none else (s.zone z).ovr.shadeLux
            shadeUv := if ((s.zone z).exc .uv).isSome ∧ (u.zone z).exc .uv = none then none else (s.zone z).ovr.shadeUv }) ∧
    ((s.zone z).cfg.use = false →
      ∃ t, exec (.loopReply (replyFrame n (u2 e ++ u2 uv))) s = .next t ∧ (t.zone z).det = (s.zone z).det ∧
        (t.zone z).ovr = (s.zone z).ovr)

namespace Sys2Proof.Machine

/-- The new parts of an override computation of a zone (R139): the values of R138, tightened by the parts held. -/
def newParts (zn : Zone) : Override :=
  let r := zn.lightInput.overrideValues
  let lux := (zn.exc .lux).isSome
  { light := if lux then some (match zn.ovr.light with | some held => min held r.1 | none => r.1) else none
    shadeLux := if lux then (match r.2.1, zn.ovr.shadeLux with
      | some x, some held => some (max held x)
      | some x, none => some x
      | none, held => held) else none
    shadeUv := if (zn.exc .uv).isSome then some 100 else none }

/-- The SHADE and the LIGHT value an override grants: its own where the granted value is absent, more open or brighter (R97). -/
def shadeEntering (o : Override) (granted : Option Int) : Option Int :=
  match shadeInForce o, granted with
  | some v, some g => if g < v then some v else none
  | some v, none => some v
  | none, _ => none
def lightEntering (o : Override) (granted : Option Int) : Option Int :=
  match o.light, granted with
  | some v, some g => if v < g then some v else none
  | some v, none => some v
  | none, _ => none

/-- The record of a grant by the part, if it makes one (R87, R96). -/
def partGrant (s : State) (z : ZoneId) (ch : ChanKind) : Option Int → List Record
  | some v => [.grant s.clock none z ch (s.chan z ch).granted v true]
  | none => []

/-- What the part's own evaluation of a zone leaves (R87, R89, R96): each value it enters granted and handed to LC, the other grants
as they were, the cause set, the sticky set, and the GRANT records. -/
structure PartGrants (s t : State) (z : ZoneId) (shade light : Option Int) (conds : CondSet) : Prop where
  shadeIs : (t.chan z .shade).granted = shade.orElse fun _ => (s.chan z .shade).granted
  lightIs : (t.chan z .light).granted = light.orElse fun _ => (s.chan z .light).granted
  handed  : ∀ ch v, (ch = .shade ∧ shade = some v) ∨ (ch = .light ∧ light = some v) → (s.zone z).cfg.act ch ≠ none →
    (t.chan z ch).pending = some v
  climate : ∀ ch, isClimate ch = true → t.chan z ch = s.chan z ch
  sets    : (t.zone z).cause = conds ∧ (t.zone z).sticky = (s.zone z).sticky ||| conds
  report  : StickyReported s t z
  records : ReportsAll s t (partGrant s z .shade shade ++ partGrant s z .light light)
  zones   : OtherZones s t z

/-- The test of ceiling follow at a C that becomes `c`, for the granted LIGHT `g` (R94). -/
def Follows (s : State) (z : ZoneId) (c : Nat) (g : Int) : Prop :=
  (s.chan z .light).granted = some g ∧ s.supervised = true ∧ c < (s.zone z).ceiling ∧ 0 < g ∧
    c < (s.zone z).lightInput.epred g.toNat (s.zone z).lightInput.shade

end Sys2Proof.Machine

/-- The part lowers the light by itself. Override (R56, R97, R137 to R139, R142): the LIGHT and SHADE values computed for LUX; the
new parts, which only tighten; a computation outside SUPERVISED, in an OFF zone, with neither LUX nor UV open, or that changes no
part does nothing; any other is an evaluation that grants SHADE and LIGHT where the granted value is absent, more open or brighter,
with their clamp conditions and, while LUX is open, those of its values. Ceiling follow (R72, R94, R95): C becomes what it is
recomputed as; when it fell below the prediction at the granted LIGHT, in SUPERVISED, LIGHT is granted the clamped level, as an
evaluation with CEILING_FOLLOW and CLAMP_LIGHT; else nothing but C changes. Conditions new in the sticky set are reported (R92). That
LUX's DAYLIGHT_OVER and DAYLIGHT_HELD are raised while LUX is open also where only the UV part changed is the model's choice
(notes/assumptions/38.md). -/
def Obligations.PartLowersTheLight : Prop :=
  (∀ zn : Zone,
      let inp := zn.lightInput
      let r := inp.overrideValues
      inp.ceiling = zn.ceiling ∧ inp.d0 = zn.est.d0 ∧ inp.d0Status = zn.est.d0Status ∧ inp.d = zn.est.d ∧
      inp.eFull = zn.cfg.eFull ∧ inp.tc = zn.cfg.tc ∧
      (∀ g, (zn.chan .light).granted = some g → inp.light = g.toNat) ∧ (∀ g, (zn.chan .shade).granted = some g → inp.shade = g.toNat) ∧
      ((zn.chan .light).granted = none → inp.light = ((zn.chan .light).applied.getD 0).toNat) ∧
      ((zn.chan .shade).granted = none → inp.shade = ((zn.chan .shade).applied.getD 0).toNat) ∧
      (inp.dpart inp.shade ≤ inp.ceiling → r.2.1 = none ∧ r.1 ≤ inp.light ∧ inp.epred r.1 inp.shade ≤ inp.ceiling ∧
        ∀ l, l ≤ inp.light → inp.epred l inp.shade ≤ inp.ceiling → l ≤ r.1) ∧
      (inp.ceiling < inp.dpart inp.shade → r.1 = 0 ∧ ∃ x, r.2.1 = some x ∧ x ≤ 100 ∧ (x < 100 → inp.dpart x ≤ inp.ceiling) ∧
        ∀ y, y < x → inp.ceiling < inp.dpart y) ∧
      r.2.2 = condIf (decide (inp.ceiling < inp.dpart inp.shade)) .daylightOver |||
        condIf (decide (inp.d0Status ≠ .known)) .daylightHeld) ∧
  (∀ (s : State) (z : ZoneId),
      let lux := ((s.zone z).exc .lux).isSome
      let new := newParts (s.zone z)
      let shade := shadeEntering new (s.chan z .shade).granted
      let light := lightEntering new (s.chan z .light).granted
      let t := s.computeOverride z
      (s.supervised = false ∨ (s.zone z).cfg.use = false ∨ (lux = false ∧ (s.zone z).exc .uv = none) ∨ new = (s.zone z).ovr →
        t = s) ∧
      (s.supervised = true → (s.zone z).cfg.use = true → lux = true ∨ ((s.zone z).exc .uv).isSome = true →
        new ≠ (s.zone z).ovr →
        (t.zone z).ovr = new ∧
        PartGrants s t z shade light (condIf shade.isSome .clampShade ||| condIf light.isSome .clampLight |||
          if lux then (s.zone z).lightInput.overrideValues.2.2 else 0) ∧
        Touches (reporting ++ [.ovr, .granted, .delivery, .commands, .cause, .sticky]) s t)) ∧
  (∀ (s : State) (z : ZoneId),
      let c := s.ceilingOf z
      let inp : LightInput := { (s.zone z).lightInput with ceiling := c }
      let t := s.recomputeCeiling z
      (t.zone z).ceiling = c ∧
      (∀ g, Follows s z c g → ∃ l : Nat,
        (l : Int) ≤ g ∧ (l = 0 ∨ inp.epred l inp.shade ≤ c) ∧ (∀ x : Nat, (x : Int) ≤ g → inp.epred x inp.shade ≤ c → x ≤ l) ∧
        PartGrants s t z none (some l) (condBit .ceilingFollow ||| condBit .clampLight |||
          condIf (decide (c < inp.dpart inp.shade)) .daylightOver ||| condIf (decide (inp.d0Status ≠ .known)) .daylightHeld) ∧
        Touches (reporting ++ [.ceiling, .granted, .delivery, .commands, .cause, .sticky]) s t) ∧
      ((∀ g, ¬ Follows s z c g) → t = s.modZone z fun zn => { zn with ceiling := c }))

/-! ## What every step keeps -/

/-- The part right after reset keeps every promise of Safety.lean. The state right after reset rests on the model's choices for a
new part (notes/assumptions/1.md). -/
def Obligations.ResetIsSafe : Prop := Safe State.reset

/-- No step lets the observation queue grow past 4096 bytes, strands a cursor, or keeps a record that every subscribed port has
read (R159, R162, R163, R164). -/
def Obligations.StepKeepsTheQueueInBounds : Prop :=
  ∀ s t : State, QueueFits s → HeldRecordsUnread s → step s = .next t → QueueFits t ∧ HeldRecordsUnread t

/-- No step puts a seventh frame in a request queue, gives the CONSERVATION role to no port or to two, or takes ENVELOPE from the
port that has it (R171, R173, R174). -/
def Obligations.StepKeepsPortPromises : Prop :=
  ∀ s t : State, RequestsFit s → OneConservation s → ConservationKeepsEnvelope s → step s = .next t →
    RequestsFit t ∧ OneConservation t ∧ ConservationKeepsEnvelope t

/-- No step leaves a free channel with waiters, a holder waiting for itself, a port waiting twice, or a wait list out of chain
order (R112, R114). -/
def Obligations.StepKeepsTenureInOrder : Prop := ∀ s t : State, TenureInOrder s → step s = .next t → TenureInOrder t

/-- After every step an object is EXHAUSTED exactly when its consumed dose is at least its allowance, the effective envelope in
force is the one the configuration gives with CONFLICT as it says, and C is the least of what the envelope and the pace states put
on it (R16, R17, R70 to R72). -/
def Obligations.StepKeepsEnvelopePaceAndCeiling : Prop :=
  ∀ s t : State, ExhaustedExactly s → EnvelopeInForce s → CeilingInForce s → step s = .next t →
    ExhaustedExactly t ∧ EnvelopeInForce t ∧ CeilingInForce t

/-- While an override is active no step leaves a granted value on its brighter or more open side, whoever grants it (R84, R97,
R140). -/
def Obligations.StepKeepsGrantsUnderOverrides : Prop := ∀ s t : State, OverrideHolds s → step s = .next t → OverrideHolds t

/-- No step leaves an open set with a count outside 1..4, two members for one channel, or members of no zone (R100, R103). -/
def Obligations.StepKeepsLinksWellFormed : Prop := ∀ s t : State, LinksWellFormed s → step s = .next t → LinksWellFormed t

/-- No step in STANDBY, and none that enters it, leaves a set open, a value granted, an override active or a value with LC, and no
actuator is in a live transaction that LC may not address (R98, R106, R142, R156, R157). -/
def Obligations.StepKeepsStandbyQuiet : Prop :=
  ∀ s t : State, TransactionsAddressed s → StandbyIsQuiet s → step s = .next t → TransactionsAddressed t ∧ StandbyIsQuiet t
end

