-- ==== Sys2Proof/Laws/State.lean ====
section
/-! SUPPORT. Laws/State.lean: the small lemmas of State's accessors: what each update changes, field by field, and what a lookup
after an update gives. -/

namespace Sys2Proof.Machine

open Sys2Proof

/-! ## Fields that an update leaves -/

@[simp] theorem State.modPort_supervised (s : State) (p : PortId) (f : Port → Port) : (s.modPort p f).supervised = s.supervised := rfl
@[simp] theorem State.modPort_clock (s : State) (p : PortId) (f : Port → Port) : (s.modPort p f).clock = s.clock := rfl
@[simp] theorem State.modPort_clockLost (s : State) (p : PortId) (f : Port → Port) : (s.modPort p f).clockLost = s.clockLost := rfl
@[simp] theorem State.modPort_crystal (s : State) (p : PortId) (f : Port → Port) : (s.modPort p f).crystal = s.crystal := rfl
@[simp] theorem State.modPort_minuteMarks (s : State) (p : PortId) (f : Port → Port) : (s.modPort p f).minuteMarks = s.minuteMarks := rfl
@[simp] theorem State.modPort_fiveMarks (s : State) (p : PortId) (f : Port → Port) : (s.modPort p f).fiveMarks = s.fiveMarks := rfl
@[simp] theorem State.modPort_rate (s : State) (p : PortId) (f : Port → Port) : (s.modPort p f).rate = s.rate := rfl
@[simp] theorem State.modPort_zones (s : State) (p : PortId) (f : Port → Port) : (s.modPort p f).zones = s.zones := rfl
@[simp] theorem State.modPort_objects (s : State) (p : PortId) (f : Port → Port) : (s.modPort p f).objects = s.objects := rfl
@[simp] theorem State.modPort_periodN (s : State) (p : PortId) (f : Port → Port) : (s.modPort p f).periodN = s.periodN := rfl
@[simp] theorem State.modPort_periodStart (s : State) (p : PortId) (f : Port → Port) : (s.modPort p f).periodStart = s.periodStart := rfl
@[simp] theorem State.modPort_holds (s : State) (p : PortId) (f : Port → Port) : (s.modPort p f).holds = s.holds := rfl
@[simp] theorem State.modPort_nodes (s : State) (p : PortId) (f : Port → Port) : (s.modPort p f).nodes = s.nodes := rfl
@[simp] theorem State.modPort_txn (s : State) (p : PortId) (f : Port → Port) : (s.modPort p f).txn = s.txn := rfl
@[simp] theorem State.modPort_commands (s : State) (p : PortId) (f : Port → Port) : (s.modPort p f).commands = s.commands := rfl
@[simp] theorem State.modPort_records (s : State) (p : PortId) (f : Port → Port) : (s.modPort p f).records = s.records := rfl
@[simp] theorem State.modPort_sampleDrops (s : State) (p : PortId) (f : Port → Port) : (s.modPort p f).sampleDrops = s.sampleDrops := rfl
@[simp] theorem State.modPort_store (s : State) (p : PortId) (f : Port → Port) : (s.modPort p f).store = s.store := rfl
@[simp] theorem State.modPort_pending (s : State) (p : PortId) (f : Port → Port) : (s.modPort p f).pending = s.pending := rfl
@[simp] theorem State.modPort_draws (s : State) (p : PortId) (f : Port → Port) : (s.modPort p f).draws = s.draws := rfl

@[simp] theorem State.modZone_supervised (s : State) (z : ZoneId) (f : Zone → Zone) : (s.modZone z f).supervised = s.supervised := rfl
@[simp] theorem State.modZone_clock (s : State) (z : ZoneId) (f : Zone → Zone) : (s.modZone z f).clock = s.clock := rfl
@[simp] theorem State.modZone_clockLost (s : State) (z : ZoneId) (f : Zone → Zone) : (s.modZone z f).clockLost = s.clockLost := rfl
@[simp] theorem State.modZone_crystal (s : State) (z : ZoneId) (f : Zone → Zone) : (s.modZone z f).crystal = s.crystal := rfl
@[simp] theorem State.modZone_minuteMarks (s : State) (z : ZoneId) (f : Zone → Zone) : (s.modZone z f).minuteMarks = s.minuteMarks := rfl
@[simp] theorem State.modZone_fiveMarks (s : State) (z : ZoneId) (f : Zone → Zone) : (s.modZone z f).fiveMarks = s.fiveMarks := rfl
@[simp] theorem State.modZone_rate (s : State) (z : ZoneId) (f : Zone → Zone) : (s.modZone z f).rate = s.rate := rfl
@[simp] theorem State.modZone_ports (s : State) (z : ZoneId) (f : Zone → Zone) : (s.modZone z f).ports = s.ports := rfl
@[simp] theorem State.modZone_objects (s : State) (z : ZoneId) (f : Zone → Zone) : (s.modZone z f).objects = s.objects := rfl
@[simp] theorem State.modZone_periodN (s : State) (z : ZoneId) (f : Zone → Zone) : (s.modZone z f).periodN = s.periodN := rfl
@[simp] theorem State.modZone_periodStart (s : State) (z : ZoneId) (f : Zone → Zone) : (s.modZone z f).periodStart = s.periodStart := rfl
@[simp] theorem State.modZone_holds (s : State) (z : ZoneId) (f : Zone → Zone) : (s.modZone z f).holds = s.holds := rfl
@[simp] theorem State.modZone_nodes (s : State) (z : ZoneId) (f : Zone → Zone) : (s.modZone z f).nodes = s.nodes := rfl
@[simp] theorem State.modZone_txn (s : State) (z : ZoneId) (f : Zone → Zone) : (s.modZone z f).txn = s.txn := rfl
@[simp] theorem State.modZone_commands (s : State) (z : ZoneId) (f : Zone → Zone) : (s.modZone z f).commands = s.commands := rfl
@[simp] theorem State.modZone_records (s : State) (z : ZoneId) (f : Zone → Zone) : (s.modZone z f).records = s.records := rfl
@[simp] theorem State.modZone_sampleDrops (s : State) (z : ZoneId) (f : Zone → Zone) : (s.modZone z f).sampleDrops = s.sampleDrops := rfl
@[simp] theorem State.modZone_store (s : State) (z : ZoneId) (f : Zone → Zone) : (s.modZone z f).store = s.store := rfl
@[simp] theorem State.modZone_pending (s : State) (z : ZoneId) (f : Zone → Zone) : (s.modZone z f).pending = s.pending := rfl
@[simp] theorem State.modZone_draws (s : State) (z : ZoneId) (f : Zone → Zone) : (s.modZone z f).draws = s.draws := rfl

@[simp] theorem State.modObject_supervised (s : State) (o : ObjId) (f : Object → Object) : (s.modObject o f).supervised = s.supervised := rfl
@[simp] theorem State.modObject_clock (s : State) (o : ObjId) (f : Object → Object) : (s.modObject o f).clock = s.clock := rfl
@[simp] theorem State.modObject_clockLost (s : State) (o : ObjId) (f : Object → Object) : (s.modObject o f).clockLost = s.clockLost := rfl
@[simp] theorem State.modObject_crystal (s : State) (o : ObjId) (f : Object → Object) : (s.modObject o f).crystal = s.crystal := rfl
@[simp] theorem State.modObject_minuteMarks (s : State) (o : ObjId) (f : Object → Object) : (s.modObject o f).minuteMarks = s.minuteMarks := rfl
@[simp] theorem State.modObject_fiveMarks (s : State) (o : ObjId) (f : Object → Object) : (s.modObject o f).fiveMarks = s.fiveMarks := rfl
@[simp] theorem State.modObject_rate (s : State) (o : ObjId) (f : Object → Object) : (s.modObject o f).rate = s.rate := rfl
@[simp] theorem State.modObject_ports (s : State) (o : ObjId) (f : Object → Object) : (s.modObject o f).ports = s.ports := rfl
@[simp] theorem State.modObject_zones (s : State) (o : ObjId) (f : Object → Object) : (s.modObject o f).zones = s.zones := rfl
@[simp] theorem State.modObject_periodN (s : State) (o : ObjId) (f : Object → Object) : (s.modObject o f).periodN = s.periodN := rfl
@[simp] theorem State.modObject_periodStart (s : State) (o : ObjId) (f : Object → Object) : (s.modObject o f).periodStart = s.periodStart := rfl
@[simp] theorem State.modObject_holds (s : State) (o : ObjId) (f : Object → Object) : (s.modObject o f).holds = s.holds := rfl
@[simp] theorem State.modObject_nodes (s : State) (o : ObjId) (f : Object → Object) : (s.modObject o f).nodes = s.nodes := rfl
@[simp] theorem State.modObject_txn (s : State) (o : ObjId) (f : Object → Object) : (s.modObject o f).txn = s.txn := rfl
@[simp] theorem State.modObject_commands (s : State) (o : ObjId) (f : Object → Object) : (s.modObject o f).commands = s.commands := rfl
@[simp] theorem State.modObject_records (s : State) (o : ObjId) (f : Object → Object) : (s.modObject o f).records = s.records := rfl
@[simp] theorem State.modObject_sampleDrops (s : State) (o : ObjId) (f : Object → Object) : (s.modObject o f).sampleDrops = s.sampleDrops := rfl
@[simp] theorem State.modObject_store (s : State) (o : ObjId) (f : Object → Object) : (s.modObject o f).store = s.store := rfl
@[simp] theorem State.modObject_pending (s : State) (o : ObjId) (f : Object → Object) : (s.modObject o f).pending = s.pending := rfl
@[simp] theorem State.modObject_draws (s : State) (o : ObjId) (f : Object → Object) : (s.modObject o f).draws = s.draws := rfl

@[simp] theorem State.modNode_supervised (s : State) (n : NodeId) (f : Node → Node) : (s.modNode n f).supervised = s.supervised := rfl
@[simp] theorem State.modNode_clock (s : State) (n : NodeId) (f : Node → Node) : (s.modNode n f).clock = s.clock := rfl
@[simp] theorem State.modNode_clockLost (s : State) (n : NodeId) (f : Node → Node) : (s.modNode n f).clockLost = s.clockLost := rfl
@[simp] theorem State.modNode_crystal (s : State) (n : NodeId) (f : Node → Node) : (s.modNode n f).crystal = s.crystal := rfl
@[simp] theorem State.modNode_minuteMarks (s : State) (n : NodeId) (f : Node → Node) : (s.modNode n f).minuteMarks = s.minuteMarks := rfl
@[simp] theorem State.modNode_fiveMarks (s : State) (n : NodeId) (f : Node → Node) : (s.modNode n f).fiveMarks = s.fiveMarks := rfl
@[simp] theorem State.modNode_rate (s : State) (n : NodeId) (f : Node → Node) : (s.modNode n f).rate = s.rate := rfl
@[simp] theorem State.modNode_ports (s : State) (n : NodeId) (f : Node → Node) : (s.modNode n f).ports = s.ports := rfl
@[simp] theorem State.modNode_zones (s : State) (n : NodeId) (f : Node → Node) : (s.modNode n f).zones = s.zones := rfl
@[simp] theorem State.modNode_objects (s : State) (n : NodeId) (f : Node → Node) : (s.modNode n f).objects = s.objects := rfl
@[simp] theorem State.modNode_periodN (s : State) (n : NodeId) (f : Node → Node) : (s.modNode n f).periodN = s.periodN := rfl
@[simp] theorem State.modNode_periodStart (s : State) (n : NodeId) (f : Node → Node) : (s.modNode n f).periodStart = s.periodStart := rfl
@[simp] theorem State.modNode_holds (s : State) (n : NodeId) (f : Node → Node) : (s.modNode n f).holds = s.holds := rfl
@[simp] theorem State.modNode_txn (s : State) (n : NodeId) (f : Node → Node) : (s.modNode n f).txn = s.txn := rfl
@[simp] theorem State.modNode_commands (s : State) (n : NodeId) (f : Node → Node) : (s.modNode n f).commands = s.commands := rfl
@[simp] theorem State.modNode_records (s : State) (n : NodeId) (f : Node → Node) : (s.modNode n f).records = s.records := rfl
@[simp] theorem State.modNode_sampleDrops (s : State) (n : NodeId) (f : Node → Node) : (s.modNode n f).sampleDrops = s.sampleDrops := rfl
@[simp] theorem State.modNode_store (s : State) (n : NodeId) (f : Node → Node) : (s.modNode n f).store = s.store := rfl
@[simp] theorem State.modNode_pending (s : State) (n : NodeId) (f : Node → Node) : (s.modNode n f).pending = s.pending := rfl
@[simp] theorem State.modNode_draws (s : State) (n : NodeId) (f : Node → Node) : (s.modNode n f).draws = s.draws := rfl

@[simp] theorem State.modChan_supervised (s : State) (z : ZoneId) (ch : ChanKind) (f : Channel → Channel) : (s.modChan z ch f).supervised = s.supervised := rfl
@[simp] theorem State.modChan_clock (s : State) (z : ZoneId) (ch : ChanKind) (f : Channel → Channel) : (s.modChan z ch f).clock = s.clock := rfl
@[simp] theorem State.modChan_clockLost (s : State) (z : ZoneId) (ch : ChanKind) (f : Channel → Channel) : (s.modChan z ch f).clockLost = s.clockLost := rfl
@[simp] theorem State.modChan_crystal (s : State) (z : ZoneId) (ch : ChanKind) (f : Channel → Channel) : (s.modChan z ch f).crystal = s.crystal := rfl
@[simp] theorem State.modChan_minuteMarks (s : State) (z : ZoneId) (ch : ChanKind) (f : Channel → Channel) : (s.modChan z ch f).minuteMarks = s.minuteMarks := rfl
@[simp] theorem State.modChan_fiveMarks (s : State) (z : ZoneId) (ch : ChanKind) (f : Channel → Channel) : (s.modChan z ch f).fiveMarks = s.fiveMarks := rfl
@[simp] theorem State.modChan_rate (s : State) (z : ZoneId) (ch : ChanKind) (f : Channel → Channel) : (s.modChan z ch f).rate = s.rate := rfl
@[simp] theorem State.modChan_ports (s : State) (z : ZoneId) (ch : ChanKind) (f : Channel → Channel) : (s.modChan z ch f).ports = s.ports := rfl
@[simp] theorem State.modChan_objects (s : State) (z : ZoneId) (ch : ChanKind) (f : Channel → Channel) : (s.modChan z ch f).objects = s.objects := rfl
@[simp] theorem State.modChan_periodN (s : State) (z : ZoneId) (ch : ChanKind) (f : Channel → Channel) : (s.modChan z ch f).periodN = s.periodN := rfl
@[simp] theorem State.modChan_periodStart (s : State) (z : ZoneId) (ch : ChanKind) (f : Channel → Channel) : (s.modChan z ch f).periodStart = s.periodStart := rfl
@[simp] theorem State.modChan_holds (s : State) (z : ZoneId) (ch : ChanKind) (f : Channel → Channel) : (s.modChan z ch f).holds = s.holds := rfl
@[simp] theorem State.modChan_nodes (s : State) (z : ZoneId) (ch : ChanKind) (f : Channel → Channel) : (s.modChan z ch f).nodes = s.nodes := rfl
@[simp] theorem State.modChan_txn (s : State) (z : ZoneId) (ch : ChanKind) (f : Channel → Channel) : (s.modChan z ch f).txn = s.txn := rfl
@[simp] theorem State.modChan_commands (s : State) (z : ZoneId) (ch : ChanKind) (f : Channel → Channel) : (s.modChan z ch f).commands = s.commands := rfl
@[simp] theorem State.modChan_records (s : State) (z : ZoneId) (ch : ChanKind) (f : Channel → Channel) : (s.modChan z ch f).records = s.records := rfl
@[simp] theorem State.modChan_sampleDrops (s : State) (z : ZoneId) (ch : ChanKind) (f : Channel → Channel) : (s.modChan z ch f).sampleDrops = s.sampleDrops := rfl
@[simp] theorem State.modChan_store (s : State) (z : ZoneId) (ch : ChanKind) (f : Channel → Channel) : (s.modChan z ch f).store = s.store := rfl
@[simp] theorem State.modChan_pending (s : State) (z : ZoneId) (ch : ChanKind) (f : Channel → Channel) : (s.modChan z ch f).pending = s.pending := rfl
@[simp] theorem State.modChan_draws (s : State) (z : ZoneId) (ch : ChanKind) (f : Channel → Channel) : (s.modChan z ch f).draws = s.draws := rfl

/-! ## Lookups in what an update leaves -/

@[simp] theorem State.modPort_zone (s : State) (p : PortId) (f : Port → Port) (x : ZoneId) : (s.modPort p f).zone x = s.zone x := rfl
@[simp] theorem State.modPort_object (s : State) (p : PortId) (f : Port → Port) (x : ObjId) : (s.modPort p f).object x = s.object x := rfl
@[simp] theorem State.modPort_node (s : State) (p : PortId) (f : Port → Port) (x : NodeId) : (s.modPort p f).node x = s.node x := rfl
@[simp] theorem State.modPort_chan (s : State) (p : PortId) (f : Port → Port) (x : ZoneId) (c : ChanKind) : (s.modPort p f).chan x c = s.chan x c := rfl
@[simp] theorem State.modPort_hold (s : State) (p : PortId) (f : Port → Port) (c : ChanKind) : (s.modPort p f).hold c = s.hold c := rfl

@[simp] theorem State.modZone_port (s : State) (z : ZoneId) (f : Zone → Zone) (q : PortId) : (s.modZone z f).port q = s.port q := rfl
@[simp] theorem State.modZone_object (s : State) (z : ZoneId) (f : Zone → Zone) (x : ObjId) : (s.modZone z f).object x = s.object x := rfl
@[simp] theorem State.modZone_node (s : State) (z : ZoneId) (f : Zone → Zone) (x : NodeId) : (s.modZone z f).node x = s.node x := rfl
@[simp] theorem State.modZone_hold (s : State) (z : ZoneId) (f : Zone → Zone) (c : ChanKind) : (s.modZone z f).hold c = s.hold c := rfl

@[simp] theorem State.modObject_port (s : State) (o : ObjId) (f : Object → Object) (q : PortId) : (s.modObject o f).port q = s.port q := rfl
@[simp] theorem State.modObject_zone (s : State) (o : ObjId) (f : Object → Object) (x : ZoneId) : (s.modObject o f).zone x = s.zone x := rfl
@[simp] theorem State.modObject_node (s : State) (o : ObjId) (f : Object → Object) (x : NodeId) : (s.modObject o f).node x = s.node x := rfl
@[simp] theorem State.modObject_chan (s : State) (o : ObjId) (f : Object → Object) (x : ZoneId) (c : ChanKind) : (s.modObject o f).chan x c = s.chan x c := rfl
@[simp] theorem State.modObject_hold (s : State) (o : ObjId) (f : Object → Object) (c : ChanKind) : (s.modObject o f).hold c = s.hold c := rfl

@[simp] theorem State.modNode_port (s : State) (n : NodeId) (f : Node → Node) (q : PortId) : (s.modNode n f).port q = s.port q := rfl
@[simp] theorem State.modNode_zone (s : State) (n : NodeId) (f : Node → Node) (x : ZoneId) : (s.modNode n f).zone x = s.zone x := rfl
@[simp] theorem State.modNode_object (s : State) (n : NodeId) (f : Node → Node) (x : ObjId) : (s.modNode n f).object x = s.object x := rfl
@[simp] theorem State.modNode_chan (s : State) (n : NodeId) (f : Node → Node) (x : ZoneId) (c : ChanKind) : (s.modNode n f).chan x c = s.chan x c := rfl
@[simp] theorem State.modNode_hold (s : State) (n : NodeId) (f : Node → Node) (c : ChanKind) : (s.modNode n f).hold c = s.hold c := rfl

@[simp] theorem State.modChan_port (s : State) (z : ZoneId) (ch : ChanKind) (f : Channel → Channel) (q : PortId) : (s.modChan z ch f).port q = s.port q := rfl
@[simp] theorem State.modChan_object (s : State) (z : ZoneId) (ch : ChanKind) (f : Channel → Channel) (x : ObjId) : (s.modChan z ch f).object x = s.object x := rfl
@[simp] theorem State.modChan_node (s : State) (z : ZoneId) (ch : ChanKind) (f : Channel → Channel) (x : NodeId) : (s.modChan z ch f).node x = s.node x := rfl
@[simp] theorem State.modChan_hold (s : State) (z : ZoneId) (ch : ChanKind) (f : Channel → Channel) (c : ChanKind) : (s.modChan z ch f).hold c = s.hold c := rfl

/-! ## Lookups in what an update changes -/

theorem State.port_modPort (s : State) (p q : PortId) (f : Port → Port) :
    (s.modPort p f).port q = if q = p then f (s.port p) else s.port q := by
  simp only [State.port, State.modPort, Fin.getElem_fin, Vector.getElem_set, Fin.ext_iff]
  grind

theorem State.zone_modZone (s : State) (z x : ZoneId) (f : Zone → Zone) :
    (s.modZone z f).zone x = if x = z then f (s.zone z) else s.zone x := by
  simp only [State.zone, State.modZone, Fin.getElem_fin, Vector.getElem_set, Fin.ext_iff]
  grind

theorem State.object_modObject (s : State) (o x : ObjId) (f : Object → Object) :
    (s.modObject o f).object x = if x = o then f (s.object o) else s.object x := by
  simp only [State.object, State.modObject, Fin.getElem_fin, Vector.getElem_set, Fin.ext_iff]
  grind

theorem State.node_modNode (s : State) (n x : NodeId) (f : Node → Node) :
    (s.modNode n f).node x = if x = n then f (s.node n) else s.node x := by
  simp only [State.node, State.modNode, Fin.getElem_fin, Vector.getElem_set, Fin.ext_iff]
  grind

theorem chanIdx_injective {a b : ChanKind} : chanIdx a = chanIdx b ↔ a = b := by
  cases a <;> cases b <;> decide

theorem Zone.chan_modChan (zn : Zone) (ch c : ChanKind) (f : Channel → Channel) :
    (zn.modChan ch f).chan c = if c = ch then f (zn.chan ch) else zn.chan c := by
  have h := @chanIdx_injective ch c
  simp only [Zone.chan, Zone.modChan, Fin.getElem_fin, Vector.getElem_set, Fin.ext_iff] at *
  grind

theorem State.chan_modChan (s : State) (z x : ZoneId) (ch c : ChanKind) (f : Channel → Channel) :
    (s.modChan z ch f).chan x c = if x = z ∧ c = ch then f (s.chan z ch) else s.chan x c := by
  simp only [State.chan, State.modChan, State.zone_modZone]
  by_cases hx : x = z
  · subst hx
    simp [Zone.chan_modChan]
  · simp [hx]

@[simp] theorem State.port_modPort_self (s : State) (p : PortId) (f : Port → Port) :
    (s.modPort p f).port p = f (s.port p) := by simp [State.port_modPort]

@[simp] theorem State.zone_modZone_self (s : State) (z : ZoneId) (f : Zone → Zone) :
    (s.modZone z f).zone z = f (s.zone z) := by simp [State.zone_modZone]

@[simp] theorem State.object_modObject_self (s : State) (o : ObjId) (f : Object → Object) :
    (s.modObject o f).object o = f (s.object o) := by simp [State.object_modObject]

@[simp] theorem State.node_modNode_self (s : State) (n : NodeId) (f : Node → Node) :
    (s.modNode n f).node n = f (s.node n) := by simp [State.node_modNode]

@[simp] theorem State.chan_modChan_self (s : State) (z : ZoneId) (ch : ChanKind) (f : Channel → Channel) :
    (s.modChan z ch f).chan z ch = f (s.chan z ch) := by simp [State.chan_modChan]

theorem State.port_modPort_ne (s : State) {p q : PortId} (f : Port → Port) (h : q ≠ p) :
    (s.modPort p f).port q = s.port q := by simp [State.port_modPort, h]

theorem State.zone_modZone_ne (s : State) {z x : ZoneId} (f : Zone → Zone) (h : x ≠ z) :
    (s.modZone z f).zone x = s.zone x := by simp [State.zone_modZone, h]

theorem State.object_modObject_ne (s : State) {o x : ObjId} (f : Object → Object) (h : x ≠ o) :
    (s.modObject o f).object x = s.object x := by simp [State.object_modObject, h]

theorem State.node_modNode_ne (s : State) {n x : NodeId} (f : Node → Node) (h : x ≠ n) :
    (s.modNode n f).node x = s.node x := by simp [State.node_modNode, h]

/-! ## A channel's update leaves the rest of its zone -/

@[simp] theorem Zone.modChan_cfg (zn : Zone) (ch : ChanKind) (f : Channel → Channel) : (zn.modChan ch f).cfg = zn.cfg := rfl
@[simp] theorem Zone.modChan_env (zn : Zone) (ch : ChanKind) (f : Channel → Channel) : (zn.modChan ch f).env = zn.env := rfl
@[simp] theorem Zone.modChan_eff (zn : Zone) (ch : ChanKind) (f : Channel → Channel) : (zn.modChan ch f).eff = zn.eff := rfl
@[simp] theorem Zone.modChan_conflict (zn : Zone) (ch : ChanKind) (f : Channel → Channel) : (zn.modChan ch f).conflict = zn.conflict := rfl
@[simp] theorem Zone.modChan_est (zn : Zone) (ch : ChanKind) (f : Channel → Channel) : (zn.modChan ch f).est = zn.est := rfl
@[simp] theorem Zone.modChan_horizon (zn : Zone) (ch : ChanKind) (f : Channel → Channel) : (zn.modChan ch f).horizon = zn.horizon := rfl
@[simp] theorem Zone.modChan_ceiling (zn : Zone) (ch : ChanKind) (f : Channel → Channel) : (zn.modChan ch f).ceiling = zn.ceiling := rfl
@[simp] theorem Zone.modChan_cause (zn : Zone) (ch : ChanKind) (f : Channel → Channel) : (zn.modChan ch f).cause = zn.cause := rfl
@[simp] theorem Zone.modChan_sticky (zn : Zone) (ch : ChanKind) (f : Channel → Channel) : (zn.modChan ch f).sticky = zn.sticky := rfl
@[simp] theorem Zone.modChan_det (zn : Zone) (ch : ChanKind) (f : Channel → Channel) : (zn.modChan ch f).det = zn.det := rfl
@[simp] theorem Zone.modChan_ovr (zn : Zone) (ch : ChanKind) (f : Channel → Channel) : (zn.modChan ch f).ovr = zn.ovr := rfl

end Sys2Proof.Machine
end

