-- ==== Sys2Proof/Laws/Reports.lean ====
section
/-! SUPPORT. Laws/Reports.lean: what reporting can do. Records, attention bits, responses and refusal records change the observation
queue and, of each port, its attention set, its pulse, its subscription, its unsent responses, its refusal record and the
counter of refusals; they change nothing else of the part. -/

namespace Sys2Proof.Machine

open Sys2Proof

/-- Two ports that agree on all that reporting does not write. -/
structure SamePort (a b : Port) : Prop where
  strap : b.strap = a.strap
  role : b.role = a.role
  rights : b.rights = a.rights
  rx : b.rx = a.rx
  queue : b.queue = a.queue
  link : b.link = a.link
  enable : b.enable = a.enable
  zoneSet : b.zoneSet = a.zoneSet
  condSet : b.condSet = a.condSet
  mode : b.mode = a.mode
  taken : b.taken = a.taken
  discards : b.discards = a.discards
  portFull : b.portFull = a.portFull

theorem SamePort.refl (a : Port) : SamePort a a := by constructor <;> rfl

theorem SamePort.trans {a b c : Port} (h : SamePort a b) (k : SamePort b c) : SamePort a c := by
  constructor
  · exact k.strap.trans h.strap
  · exact k.role.trans h.role
  · exact k.rights.trans h.rights
  · exact k.rx.trans h.rx
  · exact k.queue.trans h.queue
  · exact k.link.trans h.link
  · exact k.enable.trans h.enable
  · exact k.zoneSet.trans h.zoneSet
  · exact k.condSet.trans h.condSet
  · exact k.mode.trans h.mode
  · exact k.taken.trans h.taken
  · exact k.discards.trans h.discards
  · exact k.portFull.trans h.portFull

/-- `t` is `s` after some reporting. -/
def Reported (s t : State) : Prop :=
  (∃ ports records drops, t = { s with ports := ports, records := records, sampleDrops := drops }) ∧
    ∀ p, SamePort (s.port p) (t.port p)

namespace Reported

variable {s t u : State}

theorem refl (s : State) : Reported s s := ⟨⟨s.ports, s.records, s.sampleDrops, rfl⟩, fun _ => .refl _⟩

theorem trans (h : Reported s t) (k : Reported t u) : Reported s u := by
  obtain ⟨⟨p1, r1, d1, rfl⟩, h2⟩ := h
  obtain ⟨⟨p2, r2, d2, rfl⟩, k2⟩ := k
  exact ⟨⟨p2, r2, d2, rfl⟩, fun p => (h2 p).trans (k2 p)⟩

theorem supervised (h : Reported s t) : t.supervised = s.supervised := by obtain ⟨⟨_, _, _, rfl⟩, _⟩ := h; rfl
theorem clock (h : Reported s t) : t.clock = s.clock := by obtain ⟨⟨_, _, _, rfl⟩, _⟩ := h; rfl
theorem clockLost (h : Reported s t) : t.clockLost = s.clockLost := by obtain ⟨⟨_, _, _, rfl⟩, _⟩ := h; rfl
theorem crystal (h : Reported s t) : t.crystal = s.crystal := by obtain ⟨⟨_, _, _, rfl⟩, _⟩ := h; rfl
theorem minuteMarks (h : Reported s t) : t.minuteMarks = s.minuteMarks := by obtain ⟨⟨_, _, _, rfl⟩, _⟩ := h; rfl
theorem fiveMarks (h : Reported s t) : t.fiveMarks = s.fiveMarks := by obtain ⟨⟨_, _, _, rfl⟩, _⟩ := h; rfl
theorem rate (h : Reported s t) : t.rate = s.rate := by obtain ⟨⟨_, _, _, rfl⟩, _⟩ := h; rfl
theorem zones (h : Reported s t) : t.zones = s.zones := by obtain ⟨⟨_, _, _, rfl⟩, _⟩ := h; rfl
theorem objects (h : Reported s t) : t.objects = s.objects := by obtain ⟨⟨_, _, _, rfl⟩, _⟩ := h; rfl
theorem periodN (h : Reported s t) : t.periodN = s.periodN := by obtain ⟨⟨_, _, _, rfl⟩, _⟩ := h; rfl
theorem periodStart (h : Reported s t) : t.periodStart = s.periodStart := by obtain ⟨⟨_, _, _, rfl⟩, _⟩ := h; rfl
theorem holds (h : Reported s t) : t.holds = s.holds := by obtain ⟨⟨_, _, _, rfl⟩, _⟩ := h; rfl
theorem nodes (h : Reported s t) : t.nodes = s.nodes := by obtain ⟨⟨_, _, _, rfl⟩, _⟩ := h; rfl
theorem txn (h : Reported s t) : t.txn = s.txn := by obtain ⟨⟨_, _, _, rfl⟩, _⟩ := h; rfl
theorem commands (h : Reported s t) : t.commands = s.commands := by obtain ⟨⟨_, _, _, rfl⟩, _⟩ := h; rfl
theorem store (h : Reported s t) : t.store = s.store := by obtain ⟨⟨_, _, _, rfl⟩, _⟩ := h; rfl
theorem pending (h : Reported s t) : t.pending = s.pending := by obtain ⟨⟨_, _, _, rfl⟩, _⟩ := h; rfl
theorem draws (h : Reported s t) : t.draws = s.draws := by obtain ⟨⟨_, _, _, rfl⟩, _⟩ := h; rfl

theorem zone (h : Reported s t) (z : ZoneId) : t.zone z = s.zone z := by obtain ⟨⟨_, _, _, rfl⟩, _⟩ := h; rfl
theorem chan (h : Reported s t) (z : ZoneId) (ch : ChanKind) : t.chan z ch = s.chan z ch := by
  obtain ⟨⟨_, _, _, rfl⟩, _⟩ := h; rfl
theorem object (h : Reported s t) (o : ObjId) : t.object o = s.object o := by obtain ⟨⟨_, _, _, rfl⟩, _⟩ := h; rfl
theorem node (h : Reported s t) (n : NodeId) : t.node n = s.node n := by obtain ⟨⟨_, _, _, rfl⟩, _⟩ := h; rfl

end Reported

/-! ## Each reporting operation -/

theorem modPort_reported (s : State) (p : PortId) (f : Port → Port) (h : SamePort (s.port p) (f (s.port p))) :
    Reported s (s.modPort p f) := by
  refine ⟨⟨_, s.records, s.sampleDrops, rfl⟩, fun q => ?_⟩
  rw [State.port_modPort]
  split
  · next e => subst e; exact h
  · exact .refl _

theorem foldl_reported {α : Type} (f : State → α → State) (h : ∀ s a, Reported s (f s a)) (l : List α) (s : State) :
    Reported s (l.foldl f s) := by
  induction l generalizing s with
  | nil => exact .refl s
  | cons a l ih => exact (h s a).trans (ih (f s a))

theorem forPorts_reported (s : State) (f : PortId → State → State) (h : ∀ p s, Reported s (f p s)) :
    Reported s (s.forPorts f) := foldl_reported _ (fun s p => h p s) _ s

theorem records_reported (s : State) (rs : List Record) : Reported s { s with records := rs } :=
  ⟨⟨s.ports, rs, s.sampleDrops, rfl⟩, fun _ => .refl _⟩

theorem drops_reported (s : State) (n : Nat) : Reported s { s with sampleDrops := n } :=
  ⟨⟨s.ports, s.records, n, rfl⟩, fun _ => .refl _⟩

theorem raise_samePort (pt : Port) (b : AttnBit) : SamePort pt (pt.raise b) := by
  unfold Port.raise
  split <;> constructor <;> rfl

theorem pend_reported (s : State) (p : PortId) (b : AttnBit) : Reported s (s.pend p b) :=
  modPort_reported s p _ (raise_samePort _ b)

theorem pendWhere_reported (s : State) (b : AttnBit) (test : Port → Bool) : Reported s (s.pendWhere b test) :=
  forPorts_reported s _ fun p s => by
    show Reported s (if _ then _ else _)
    split
    · exact pend_reported s p b
    · exact .refl s

theorem pendZone_reported (s : State) (z : ZoneId) (b : AttnBit) : Reported s (s.pendZone z b) := pendWhere_reported s b _

theorem shiftCursor_samePort (k : Nat) (pt : Port) : SamePort pt (pt.shiftCursor k) := by constructor <;> rfl

theorem loseOldest_samePort (k : Nat) (pt : Port) : SamePort pt (pt.loseOldest k) := by constructor <;> rfl

theorem testAppended_samePort (before : List Record) (r : Record) (pt : Port) : SamePort pt (pt.testAppended before r) := by
  unfold Port.testAppended
  split
  · exact .refl pt
  · next sub _ =>
    have h1 : SamePort pt (match sub.watch with
        | some sel => if matchesSel sel r then pt.raise .watchMatch else pt
        | none => pt) := by
      split
      · split
        · exact raise_samePort pt _
        · exact .refl pt
      · exact .refl pt
    dsimp only
    split
    · exact h1.trans (raise_samePort _ _)
    · exact h1

theorem freeRead_reported (s : State) : Reported s s.freeRead := by
  unfold State.freeRead
  split
  · exact records_reported s []
  · exact (records_reported s _).trans
      (forPorts_reported _ _ fun p s => modPort_reported s p _ (shiftCursor_samePort _ _))

theorem makeRoom_reported (s : State) (size : Nat) : Reported s (s.makeRoom size) := by
  unfold State.makeRoom
  dsimp only
  split
  · exact .refl s
  · exact (records_reported s _).trans
      (forPorts_reported _ _ fun p s => modPort_reported s p _ (loseOldest_samePort _ _))

theorem append_reported (s : State) (r : Record) : Reported s (s.append r) :=
  (records_reported s _).trans (forPorts_reported _ _ fun p s => modPort_reported s p _ (testAppended_samePort _ _ _))

theorem offer_reported (s : State) (r : Record) : Reported s (s.offer r) := by
  unfold State.offer
  split
  · exact (makeRoom_reported s _).trans (append_reported _ r)
  · exact .refl s

theorem passRecords_reported (s : State) (p : PortId) (k : Nat) : Reported s (s.passRecords p k) :=
  (modPort_reported s p _ (by constructor <;> rfl)).trans (freeRead_reported _)

theorem respond_reported (s : State) (p : PortId) (tag : Byte) (st : Status) (payload : List Byte) :
    Reported s (s.respond p tag st payload) := modPort_reported s p _ (by constructor <;> rfl)

theorem answer_reported (s : State) (p : PortId) (f : Frame) (st : Status) (payload : List Byte) :
    Reported s (s.answer p f st payload) := respond_reported s p _ st payload

theorem noteRefusal_reported (s : State) (p : PortId) (cmd : Byte) (zone : Option ZoneId) (ch : Option ChanKind)
    (code : Status) : Reported s (s.noteRefusal p cmd zone ch code) := modPort_reported s p _ (by constructor <;> rfl)

theorem refuse_reported (s : State) (p : PortId) (f : Frame) (code : Status) : Reported s (s.refuse p f code) :=
  (noteRefusal_reported s p _ _ _ code).trans (respond_reported _ p _ code _)

theorem refuseSetPoint_reported (s : State) (p : PortId) (tag : Byte) (chan : Option (ZoneId × ChanKind))
    (requested : Option Int) (code : Status) (conds : CondSet) :
    Reported s (s.refuseSetPoint p tag chan requested code conds) :=
  ((offer_reported s _).trans (noteRefusal_reported _ p _ _ _ code)).trans (respond_reported _ p tag code _)

theorem breakMember_reported (s : State) (p : PortId) (zone : Option ZoneId) (m : Member) :
    Reported s (s.breakMember p zone m) := (offer_reported s _).trans (respond_reported _ p _ _ _)

end Sys2Proof.Machine
end

