-- ==== Sys2Proof/Laws/Footprint.lean ====
section
/-! SUPPORT. Laws/Footprint.lean: the footprints of the plain updates of a port, a zone, a channel, an object and a node, of folds over
them, and of reporting. -/

namespace Sys2Proof.Machine

open Sys2Proof

namespace Touches

variable {F G : List Part} {s t u : State}

theorem refl (F : List Part) (s : State) : Touches F s s := fun _ _ => rfl

theorem mono (h : Touches F s t) (hs : F ⊆ G) : Touches G s t := fun k hk => h k fun hf => hk (hs hf)

theorem trans (h : Touches F s t) (k : Touches F t u) : Touches F s u := fun x hx => (k x hx).trans (h x hx)

theorem then_mono (h : Touches F s t) (k : Touches G t u) (hs : G ⊆ F) : Touches F s u := h.trans (k.mono hs)

end Touches

/-! ## Updates -/

theorem modPort_touches {F : List Part} (s : State) (p : PortId) (f : Port → Port)
    (h_roles : Part.roles ∉ F → ((f (s.port p)).strap, (f (s.port p)).role) = ((s.port p).strap, (s.port p).role) := by first | exact fun _ => rfl | exact fun _ _ => rfl | simp)
    (h_rights : Part.rights ∉ F → ((f (s.port p)).rights) = ((s.port p).rights) := by first | exact fun _ => rfl | exact fun _ _ => rfl | simp)
    (h_rx : Part.rx ∉ F → ((f (s.port p)).rx) = ((s.port p).rx) := by first | exact fun _ => rfl | exact fun _ _ => rfl | simp)
    (h_queue : Part.queue ∉ F → ((f (s.port p)).queue) = ((s.port p).queue) := by first | exact fun _ => rfl | exact fun _ _ => rfl | simp)
    (h_tx : Part.tx ∉ F → ((f (s.port p)).tx) = ((s.port p).tx) := by first | exact fun _ => rfl | exact fun _ _ => rfl | simp)
    (h_link : Part.link ∉ F → ((f (s.port p)).link) = ((s.port p).link) := by first | exact fun _ => rfl | exact fun _ _ => rfl | simp)
    (h_refusal : Part.refusal ∉ F → ((f (s.port p)).refusal, (f (s.port p)).refusals) = ((s.port p).refusal, (s.port p).refusals) := by first | exact fun _ => rfl | exact fun _ _ => rfl | simp)
    (h_counters : Part.counters ∉ F → ((f (s.port p)).taken, (f (s.port p)).discards, (f (s.port p)).portFull) = ((s.port p).taken, (s.port p).discards, (s.port p).portFull) := by first | exact fun _ => rfl | exact fun _ _ => rfl | simp)
    (h_attn : Part.attn ∉ F → ((f (s.port p)).attn, (f (s.port p)).pulse) = ((s.port p).attn, (s.port p).pulse) := by first | exact fun _ => rfl | exact fun _ _ => rfl | simp)
    (h_settings : Part.settings ∉ F → ((f (s.port p)).enable, (f (s.port p)).zoneSet, (f (s.port p)).condSet, (f (s.port p)).mode) = ((s.port p).enable, (s.port p).zoneSet, (s.port p).condSet, (s.port p).mode) := by first | exact fun _ => rfl | exact fun _ _ => rfl | simp)
    (h_sub : Part.sub ∉ F → ((f (s.port p)).sub) = ((s.port p).sub) := by first | exact fun _ => rfl | exact fun _ _ => rfl | simp) :
    Touches F s (s.modPort p f) := by
  intro k hk
  cases k
  case supervised => rfl
  case clock => rfl
  case clockLost => rfl
  case crystal => rfl
  case marks => rfl
  case rate => rfl
  case periodN => rfl
  case periodStart => rfl
  case holds => rfl
  case nodes => rfl
  case txn => rfl
  case commands => rfl
  case records => rfl
  case drops => rfl
  case store => rfl
  case pending => rfl
  case draws => rfl
  case roles =>
    funext q
    by_cases hq : q = p
    · subst hq; simpa only [State.part, State.port_modPort_self] using h_roles hk
    · simp only [State.part, State.port_modPort_ne s f hq]
  case rights =>
    funext q
    by_cases hq : q = p
    · subst hq; simpa only [State.part, State.port_modPort_self] using h_rights hk
    · simp only [State.part, State.port_modPort_ne s f hq]
  case rx =>
    funext q
    by_cases hq : q = p
    · subst hq; simpa only [State.part, State.port_modPort_self] using h_rx hk
    · simp only [State.part, State.port_modPort_ne s f hq]
  case queue =>
    funext q
    by_cases hq : q = p
    · subst hq; simpa only [State.part, State.port_modPort_self] using h_queue hk
    · simp only [State.part, State.port_modPort_ne s f hq]
  case tx =>
    funext q
    by_cases hq : q = p
    · subst hq; simpa only [State.part, State.port_modPort_self] using h_tx hk
    · simp only [State.part, State.port_modPort_ne s f hq]
  case link =>
    funext q
    by_cases hq : q = p
    · subst hq; simpa only [State.part, State.port_modPort_self] using h_link hk
    · simp only [State.part, State.port_modPort_ne s f hq]
  case refusal =>
    funext q
    by_cases hq : q = p
    · subst hq; simpa only [State.part, State.port_modPort_self] using h_refusal hk
    · simp only [State.part, State.port_modPort_ne s f hq]
  case counters =>
    funext q
    by_cases hq : q = p
    · subst hq; simpa only [State.part, State.port_modPort_self] using h_counters hk
    · simp only [State.part, State.port_modPort_ne s f hq]
  case attn =>
    funext q
    by_cases hq : q = p
    · subst hq; simpa only [State.part, State.port_modPort_self] using h_attn hk
    · simp only [State.part, State.port_modPort_ne s f hq]
  case settings =>
    funext q
    by_cases hq : q = p
    · subst hq; simpa only [State.part, State.port_modPort_self] using h_settings hk
    · simp only [State.part, State.port_modPort_ne s f hq]
  case sub =>
    funext q
    by_cases hq : q = p
    · subst hq; simpa only [State.part, State.port_modPort_self] using h_sub hk
    · simp only [State.part, State.port_modPort_ne s f hq]
  case cfg => rfl
  case env => rfl
  case eff => rfl
  case conflict => rfl
  case est => rfl
  case horizon => rfl
  case ceiling => rfl
  case cause => rfl
  case sticky => rfl
  case det => rfl
  case ovr => rfl
  case granted => rfl
  case delivery => rfl
  case tenure => rfl
  case activity => rfl
  case objCfg => rfl
  case acct => rfl
  case pace => rfl

theorem modZone_touches {F : List Part} (s : State) (z : ZoneId) (f : Zone → Zone)
    (h_cfg : Part.cfg ∉ F → (f (s.zone z)).cfg = (s.zone z).cfg := by first | exact fun _ => rfl | exact fun _ _ => rfl | simp)
    (h_env : Part.env ∉ F → (f (s.zone z)).env = (s.zone z).env := by first | exact fun _ => rfl | exact fun _ _ => rfl | simp)
    (h_eff : Part.eff ∉ F → (f (s.zone z)).eff = (s.zone z).eff := by first | exact fun _ => rfl | exact fun _ _ => rfl | simp)
    (h_conflict : Part.conflict ∉ F → (f (s.zone z)).conflict = (s.zone z).conflict := by first | exact fun _ => rfl | exact fun _ _ => rfl | simp)
    (h_est : Part.est ∉ F → (f (s.zone z)).est = (s.zone z).est := by first | exact fun _ => rfl | exact fun _ _ => rfl | simp)
    (h_horizon : Part.horizon ∉ F → (f (s.zone z)).horizon = (s.zone z).horizon := by first | exact fun _ => rfl | exact fun _ _ => rfl | simp)
    (h_ceiling : Part.ceiling ∉ F → (f (s.zone z)).ceiling = (s.zone z).ceiling := by first | exact fun _ => rfl | exact fun _ _ => rfl | simp)
    (h_cause : Part.cause ∉ F → (f (s.zone z)).cause = (s.zone z).cause := by first | exact fun _ => rfl | exact fun _ _ => rfl | simp)
    (h_sticky : Part.sticky ∉ F → (f (s.zone z)).sticky = (s.zone z).sticky := by first | exact fun _ => rfl | exact fun _ _ => rfl | simp)
    (h_det : Part.det ∉ F → (f (s.zone z)).det = (s.zone z).det := by first | exact fun _ => rfl | exact fun _ _ => rfl | simp)
    (h_ovr : Part.ovr ∉ F → (f (s.zone z)).ovr = (s.zone z).ovr := by first | exact fun _ => rfl | exact fun _ _ => rfl | simp)
    (h_granted : Part.granted ∉ F → ∀ c, (((f (s.zone z)).chan c).granted) = (((s.zone z).chan c).granted) := by first | exact fun _ => rfl | exact fun _ _ => rfl | simp)
    (h_delivery : Part.delivery ∉ F → ∀ c, (((f (s.zone z)).chan c).pending, ((f (s.zone z)).chan c).sent, ((f (s.zone z)).chan c).replaced, ((f (s.zone z)).chan c).applied) = (((s.zone z).chan c).pending, ((s.zone z).chan c).sent, ((s.zone z).chan c).replaced, ((s.zone z).chan c).applied) := by first | exact fun _ => rfl | exact fun _ _ => rfl | simp)
    (h_tenure : Part.tenure ∉ F → ∀ c, (((f (s.zone z)).chan c).holder, ((f (s.zone z)).chan c).waiters) = (((s.zone z).chan c).holder, ((s.zone z).chan c).waiters) := by first | exact fun _ => rfl | exact fun _ _ => rfl | simp)
    (h_activity : Part.activity ∉ F → ∀ c, (((f (s.zone z)).chan c).lastActivity) = (((s.zone z).chan c).lastActivity) := by first | exact fun _ => rfl | exact fun _ _ => rfl | simp) :
    Touches F s (s.modZone z f) := by
  intro k hk
  cases k
  case supervised => rfl
  case clock => rfl
  case clockLost => rfl
  case crystal => rfl
  case marks => rfl
  case rate => rfl
  case periodN => rfl
  case periodStart => rfl
  case holds => rfl
  case nodes => rfl
  case txn => rfl
  case commands => rfl
  case records => rfl
  case drops => rfl
  case store => rfl
  case pending => rfl
  case draws => rfl
  case roles => rfl
  case rights => rfl
  case rx => rfl
  case queue => rfl
  case tx => rfl
  case link => rfl
  case refusal => rfl
  case counters => rfl
  case attn => rfl
  case settings => rfl
  case sub => rfl
  case cfg =>
    funext x
    by_cases hx : x = z
    · subst hx; simpa only [State.part, State.zone_modZone_self] using h_cfg hk
    · simp only [State.part, State.zone_modZone_ne s f hx]
  case env =>
    funext x
    by_cases hx : x = z
    · subst hx; simpa only [State.part, State.zone_modZone_self] using h_env hk
    · simp only [State.part, State.zone_modZone_ne s f hx]
  case eff =>
    funext x
    by_cases hx : x = z
    · subst hx; simpa only [State.part, State.zone_modZone_self] using h_eff hk
    · simp only [State.part, State.zone_modZone_ne s f hx]
  case conflict =>
    funext x
    by_cases hx : x = z
    · subst hx; simpa only [State.part, State.zone_modZone_self] using h_conflict hk
    · simp only [State.part, State.zone_modZone_ne s f hx]
  case est =>
    funext x
    by_cases hx : x = z
    · subst hx; simpa only [State.part, State.zone_modZone_self] using h_est hk
    · simp only [State.part, State.zone_modZone_ne s f hx]
  case horizon =>
    funext x
    by_cases hx : x = z
    · subst hx; simpa only [State.part, State.zone_modZone_self] using h_horizon hk
    · simp only [State.part, State.zone_modZone_ne s f hx]
  case ceiling =>
    funext x
    by_cases hx : x = z
    · subst hx; simpa only [State.part, State.zone_modZone_self] using h_ceiling hk
    · simp only [State.part, State.zone_modZone_ne s f hx]
  case cause =>
    funext x
    by_cases hx : x = z
    · subst hx; simpa only [State.part, State.zone_modZone_self] using h_cause hk
    · simp only [State.part, State.zone_modZone_ne s f hx]
  case sticky =>
    funext x
    by_cases hx : x = z
    · subst hx; simpa only [State.part, State.zone_modZone_self] using h_sticky hk
    · simp only [State.part, State.zone_modZone_ne s f hx]
  case det =>
    funext x
    by_cases hx : x = z
    · subst hx; simpa only [State.part, State.zone_modZone_self] using h_det hk
    · simp only [State.part, State.zone_modZone_ne s f hx]
  case ovr =>
    funext x
    by_cases hx : x = z
    · subst hx; simpa only [State.part, State.zone_modZone_self] using h_ovr hk
    · simp only [State.part, State.zone_modZone_ne s f hx]
  case granted =>
    funext x c
    by_cases hx : x = z
    · subst hx; simpa only [State.part, State.chan, State.zone_modZone_self] using h_granted hk c
    · simp only [State.part, State.chan, State.zone_modZone_ne s f hx]
  case delivery =>
    funext x c
    by_cases hx : x = z
    · subst hx; simpa only [State.part, State.chan, State.zone_modZone_self] using h_delivery hk c
    · simp only [State.part, State.chan, State.zone_modZone_ne s f hx]
  case tenure =>
    funext x c
    by_cases hx : x = z
    · subst hx; simpa only [State.part, State.chan, State.zone_modZone_self] using h_tenure hk c
    · simp only [State.part, State.chan, State.zone_modZone_ne s f hx]
  case activity =>
    funext x c
    by_cases hx : x = z
    · subst hx; simpa only [State.part, State.chan, State.zone_modZone_self] using h_activity hk c
    · simp only [State.part, State.chan, State.zone_modZone_ne s f hx]
  case objCfg => rfl
  case acct => rfl
  case pace => rfl

theorem modChan_touches {F : List Part} (s : State) (z : ZoneId) (ch : ChanKind) (f : Channel → Channel)
    (h_granted : Part.granted ∉ F → ((f (s.chan z ch)).granted) = ((s.chan z ch).granted) := by first | exact fun _ => rfl | exact fun _ _ => rfl | simp)
    (h_delivery : Part.delivery ∉ F → ((f (s.chan z ch)).pending, (f (s.chan z ch)).sent, (f (s.chan z ch)).replaced, (f (s.chan z ch)).applied) = ((s.chan z ch).pending, (s.chan z ch).sent, (s.chan z ch).replaced, (s.chan z ch).applied) := by first | exact fun _ => rfl | exact fun _ _ => rfl | simp)
    (h_tenure : Part.tenure ∉ F → ((f (s.chan z ch)).holder, (f (s.chan z ch)).waiters) = ((s.chan z ch).holder, (s.chan z ch).waiters) := by first | exact fun _ => rfl | exact fun _ _ => rfl | simp)
    (h_activity : Part.activity ∉ F → ((f (s.chan z ch)).lastActivity) = ((s.chan z ch).lastActivity) := by first | exact fun _ => rfl | exact fun _ _ => rfl | simp) :
    Touches F s (s.modChan z ch f) := by
  intro k hk
  cases k
  case supervised => rfl
  case clock => rfl
  case clockLost => rfl
  case crystal => rfl
  case marks => rfl
  case rate => rfl
  case periodN => rfl
  case periodStart => rfl
  case holds => rfl
  case nodes => rfl
  case txn => rfl
  case commands => rfl
  case records => rfl
  case drops => rfl
  case store => rfl
  case pending => rfl
  case draws => rfl
  case roles => rfl
  case rights => rfl
  case rx => rfl
  case queue => rfl
  case tx => rfl
  case link => rfl
  case refusal => rfl
  case counters => rfl
  case attn => rfl
  case settings => rfl
  case sub => rfl
  case objCfg => rfl
  case acct => rfl
  case pace => rfl
  case cfg =>
    funext x
    by_cases hx : x = z
    · subst hx; simp only [State.part, State.modChan, State.zone_modZone_self, Zone.modChan_cfg]
    · simp only [State.part, State.modChan, State.zone_modZone_ne s _ hx]
  case env =>
    funext x
    by_cases hx : x = z
    · subst hx; simp only [State.part, State.modChan, State.zone_modZone_self, Zone.modChan_env]
    · simp only [State.part, State.modChan, State.zone_modZone_ne s _ hx]
  case eff =>
    funext x
    by_cases hx : x = z
    · subst hx; simp only [State.part, State.modChan, State.zone_modZone_self, Zone.modChan_eff]
    · simp only [State.part, State.modChan, State.zone_modZone_ne s _ hx]
  case conflict =>
    funext x
    by_cases hx : x = z
    · subst hx; simp only [State.part, State.modChan, State.zone_modZone_self, Zone.modChan_conflict]
    · simp only [State.part, State.modChan, State.zone_modZone_ne s _ hx]
  case est =>
    funext x
    by_cases hx : x = z
    · subst hx; simp only [State.part, State.modChan, State.zone_modZone_self, Zone.modChan_est]
    · simp only [State.part, State.modChan, State.zone_modZone_ne s _ hx]
  case horizon =>
    funext x
    by_cases hx : x = z
    · subst hx; simp only [State.part, State.modChan, State.zone_modZone_self, Zone.modChan_horizon]
    · simp only [State.part, State.modChan, State.zone_modZone_ne s _ hx]
  case ceiling =>
    funext x
    by_cases hx : x = z
    · subst hx; simp only [State.part, State.modChan, State.zone_modZone_self, Zone.modChan_ceiling]
    · simp only [State.part, State.modChan, State.zone_modZone_ne s _ hx]
  case cause =>
    funext x
    by_cases hx : x = z
    · subst hx; simp only [State.part, State.modChan, State.zone_modZone_self, Zone.modChan_cause]
    · simp only [State.part, State.modChan, State.zone_modZone_ne s _ hx]
  case sticky =>
    funext x
    by_cases hx : x = z
    · subst hx; simp only [State.part, State.modChan, State.zone_modZone_self, Zone.modChan_sticky]
    · simp only [State.part, State.modChan, State.zone_modZone_ne s _ hx]
  case det =>
    funext x
    by_cases hx : x = z
    · subst hx; simp only [State.part, State.modChan, State.zone_modZone_self, Zone.modChan_det]
    · simp only [State.part, State.modChan, State.zone_modZone_ne s _ hx]
  case ovr =>
    funext x
    by_cases hx : x = z
    · subst hx; simp only [State.part, State.modChan, State.zone_modZone_self, Zone.modChan_ovr]
    · simp only [State.part, State.modChan, State.zone_modZone_ne s _ hx]
  case granted =>
    funext x c
    simp only [State.part, State.chan_modChan]
    split
    · next e => obtain ⟨rfl, rfl⟩ := e; exact h_granted hk
    · rfl
  case delivery =>
    funext x c
    simp only [State.part, State.chan_modChan]
    split
    · next e => obtain ⟨rfl, rfl⟩ := e; exact h_delivery hk
    · rfl
  case tenure =>
    funext x c
    simp only [State.part, State.chan_modChan]
    split
    · next e => obtain ⟨rfl, rfl⟩ := e; exact h_tenure hk
    · rfl
  case activity =>
    funext x c
    simp only [State.part, State.chan_modChan]
    split
    · next e => obtain ⟨rfl, rfl⟩ := e; exact h_activity hk
    · rfl

theorem modObject_touches {F : List Part} (s : State) (o : ObjId) (f : Object → Object)
    (h_objCfg : Part.objCfg ∉ F → (f (s.object o)).cfg = (s.object o).cfg := by first | exact fun _ => rfl | exact fun _ _ => rfl | simp)
    (h_acct : Part.acct ∉ F → (f (s.object o)).acct = (s.object o).acct := by first | exact fun _ => rfl | exact fun _ _ => rfl | simp)
    (h_pace : Part.pace ∉ F → (f (s.object o)).pace = (s.object o).pace := by first | exact fun _ => rfl | exact fun _ _ => rfl | simp) :
    Touches F s (s.modObject o f) := by
  intro k hk
  cases k
  case supervised => rfl
  case clock => rfl
  case clockLost => rfl
  case crystal => rfl
  case marks => rfl
  case rate => rfl
  case periodN => rfl
  case periodStart => rfl
  case holds => rfl
  case nodes => rfl
  case txn => rfl
  case commands => rfl
  case records => rfl
  case drops => rfl
  case store => rfl
  case pending => rfl
  case draws => rfl
  case roles => rfl
  case rights => rfl
  case rx => rfl
  case queue => rfl
  case tx => rfl
  case link => rfl
  case refusal => rfl
  case counters => rfl
  case attn => rfl
  case settings => rfl
  case sub => rfl
  case cfg => rfl
  case env => rfl
  case eff => rfl
  case conflict => rfl
  case est => rfl
  case horizon => rfl
  case ceiling => rfl
  case cause => rfl
  case sticky => rfl
  case det => rfl
  case ovr => rfl
  case granted => rfl
  case delivery => rfl
  case tenure => rfl
  case activity => rfl
  case objCfg =>
    funext x
    by_cases hx : x = o
    · subst hx; simpa only [State.part, State.object_modObject_self] using h_objCfg hk
    · simp only [State.part, State.object_modObject_ne s f hx]
  case acct =>
    funext x
    by_cases hx : x = o
    · subst hx; simpa only [State.part, State.object_modObject_self] using h_acct hk
    · simp only [State.part, State.object_modObject_ne s f hx]
  case pace =>
    funext x
    by_cases hx : x = o
    · subst hx; simpa only [State.part, State.object_modObject_self] using h_pace hk
    · simp only [State.part, State.object_modObject_ne s f hx]

theorem modNode_touches (s : State) (n : NodeId) (f : Node → Node) : Touches [.nodes] s (s.modNode n f) := by
  intro k hk
  cases k
  case nodes => simp at hk
  all_goals rfl

/-! ## Folds -/

theorem foldl_touches {F : List Part} {α : Type} (f : State → α → State) (h : ∀ s a, Touches F s (f s a)) (l : List α)
    (s : State) : Touches F s (l.foldl f s) := by
  induction l generalizing s with
  | nil => exact .refl F s
  | cons a l ih => exact (h s a).trans (ih (f s a))

theorem forPorts_touches {F : List Part} (s : State) (f : PortId → State → State) (h : ∀ p s, Touches F s (f p s)) :
    Touches F s (s.forPorts f) := foldl_touches _ (fun s p => h p s) _ s

theorem forZones_touches {F : List Part} (s : State) (f : ZoneId → State → State) (h : ∀ z s, Touches F s (f z s)) :
    Touches F s (s.forZones f) := foldl_touches _ (fun s z => h z s) _ s

theorem forObjects_touches {F : List Part} (s : State) (f : ObjId → State → State) (h : ∀ o s, Touches F s (f o s)) :
    Touches F s (s.forObjects f) := foldl_touches _ (fun s o => h o s) _ s

theorem forNodes_touches {F : List Part} (s : State) (f : NodeId → State → State) (h : ∀ n s, Touches F s (f n s)) :
    Touches F s (s.forNodes f) := foldl_touches _ (fun s n => h n s) _ s

theorem forChans_touches {F : List Part} (s : State) (f : ChanKind → State → State) (h : ∀ c s, Touches F s (f c s)) :
    Touches F s (s.forChans f) := foldl_touches _ (fun s c => h c s) _ s

/-! ## Reporting -/

/-- What reporting touches. -/
abbrev reports : List Part := [.records, .drops, .tx, .refusal, .attn, .sub]

theorem Reported.touches {s t : State} (h : Reported s t) : Touches reports s t := by
  obtain ⟨⟨_, _, _, rfl⟩, hp⟩ := h
  intro k hk
  cases k
  case supervised => rfl
  case clock => rfl
  case clockLost => rfl
  case crystal => rfl
  case marks => rfl
  case rate => rfl
  case periodN => rfl
  case periodStart => rfl
  case holds => rfl
  case nodes => rfl
  case txn => rfl
  case commands => rfl
  case records => simp at hk
  case drops => simp at hk
  case store => rfl
  case pending => rfl
  case draws => rfl
  case roles => funext p; simp only [State.part, (hp p).strap, (hp p).role]
  case rights => funext p; simp only [State.part, (hp p).rights]
  case rx => funext p; simp only [State.part, (hp p).rx]
  case queue => funext p; simp only [State.part, (hp p).queue]
  case tx => simp at hk
  case link => funext p; simp only [State.part, (hp p).link]
  case refusal => simp at hk
  case counters => funext p; simp only [State.part, (hp p).taken, (hp p).discards, (hp p).portFull]
  case attn => simp at hk
  case settings => funext p; simp only [State.part, (hp p).enable, (hp p).zoneSet, (hp p).condSet, (hp p).mode]
  case sub => simp at hk
  case cfg => rfl
  case env => rfl
  case eff => rfl
  case conflict => rfl
  case est => rfl
  case horizon => rfl
  case ceiling => rfl
  case cause => rfl
  case sticky => rfl
  case det => rfl
  case ovr => rfl
  case granted => rfl
  case delivery => rfl
  case tenure => rfl
  case activity => rfl
  case objCfg => rfl
  case acct => rfl
  case pace => rfl

end Sys2Proof.Machine
end

