-- ==== Sys2Proof/Laws/Frames.lean ====
section
/-! SUPPORT. Laws/Frames.lean: the footprint of each shared operation: the parts of the state it may change. -/

namespace Sys2Proof.Machine

open Sys2Proof

/-! ## Flags, queue and clock -/

theorem pend_touches (s : State) (p : PortId) (b : AttnBit) : Touches reports s (s.pend p b) := (pend_reported s p b).touches

theorem pendWhere_touches (s : State) (b : AttnBit) (test : Port → Bool) : Touches reports s (s.pendWhere b test) :=
  (pendWhere_reported s b test).touches

theorem pendZone_touches (s : State) (z : ZoneId) (b : AttnBit) : Touches reports s (s.pendZone z b) :=
  (pendZone_reported s z b).touches

theorem offer_touches (s : State) (r : Record) : Touches reports s (s.offer r) := (offer_reported s r).touches

theorem append_touches (s : State) (r : Record) : Touches reports s (s.append r) := (append_reported s r).touches

theorem freeRead_touches (s : State) : Touches reports s s.freeRead := (freeRead_reported s).touches

theorem passRecords_touches (s : State) (p : PortId) (k : Nat) : Touches reports s (s.passRecords p k) :=
  (passRecords_reported s p k).touches

theorem respond_touches (s : State) (p : PortId) (tag : Byte) (st : Status) (pl : List Byte) :
    Touches reports s (s.respond p tag st pl) := (respond_reported s p tag st pl).touches

theorem answer_touches (s : State) (p : PortId) (f : Frame) (st : Status) (pl : List Byte) :
    Touches reports s (s.answer p f st pl) := (answer_reported s p f st pl).touches

theorem noteRefusal_touches (s : State) (p : PortId) (cmd : Byte) (z : Option ZoneId) (ch : Option ChanKind) (code : Status) :
    Touches reports s (s.noteRefusal p cmd z ch code) := (noteRefusal_reported s p cmd z ch code).touches

theorem refuse_touches (s : State) (p : PortId) (f : Frame) (code : Status) : Touches reports s (s.refuse p f code) :=
  (refuse_reported s p f code).touches

theorem refuseSetPoint_touches (s : State) (p : PortId) (tag : Byte) (chan : Option (ZoneId × ChanKind)) (r : Option Int)
    (code : Status) (conds : CondSet) : Touches reports s (s.refuseSetPoint p tag chan r code conds) :=
  (refuseSetPoint_reported s p tag chan r code conds).touches

theorem breakMember_touches (s : State) (p : PortId) (z : Option ZoneId) (m : Member) :
    Touches reports s (s.breakMember p z m) := (breakMember_reported s p z m).touches

theorem addSticky_touches (s : State) (z : ZoneId) (c : Condition) : Touches (.sticky :: reports) s (s.addSticky z c) := by
  unfold State.addSticky
  split
  · exact .refl _ s
  · exact (modZone_touches s z _).then_mono (pendWhere_touches _ _ _) (by decide)

theorem addStickySet_touches (s : State) (z : ZoneId) (cs : CondSet) :
    Touches (.sticky :: reports) s (s.addStickySet z cs) :=
  foldl_touches _ (fun s c => by
    split
    · exact addSticky_touches s z c
    · exact .refl _ s) _ s

/-- What a zone evaluation's record touches. -/
abbrev evaluations : List Part := [.cause, .sticky] ++ reports

theorem recordEvaluation_touches (s : State) (z : ZoneId) (cs : CondSet) :
    Touches evaluations s (s.recordEvaluation z cs) :=
  (modZone_touches s z _).then_mono (addStickySet_touches _ z cs) (by decide)

theorem offerClimateSample_touches (s : State) (z : ZoneId) (time : GTime) (t rh : Int) (raw : Option (Int × Int)) :
    Touches (.est :: reports) s (s.offerClimateSample z time t rh raw) := by
  unfold State.offerClimateSample
  dsimp only
  split
  · split
    · exact ((append_touches s _).mono (by decide)).trans (modZone_touches _ z _)
    · exact (drops_reported s _).touches.mono (by decide)
  · exact .refl _ s

theorem offerLightSample_touches (s : State) (z : ZoneId) (time : GTime) (e uv : Nat) (sat : Bool) :
    Touches (.est :: reports) s (s.offerLightSample z time e uv sat) := by
  unfold State.offerLightSample
  dsimp only
  split
  · split
    · exact ((append_touches s _).mono (by decide)).trans (modZone_touches _ z _)
    · exact (drops_reported s _).touches.mono (by decide)
  · exact .refl _ s

theorem tick_touches (s : State) : Touches [.clock, .crystal, .marks] s s.tick := by
  intro k hk
  unfold State.tick
  generalize s.clock.next = t
  dsimp only
  split
  · cases k <;> first | exact absurd (by decide) hk | rfl
  · cases k <;> first | exact absurd (by decide) hk | rfl

/-! ## Tenure -/

/-- What a change of holder touches. -/
abbrev tenures : List Part := [.tenure, .activity] ++ reports

theorem touch_touches (s : State) (z : ZoneId) (ch : ChanKind) : Touches [.activity] s (s.touch z ch) :=
  modChan_touches s z ch _

theorem touchZone_touches (s : State) (z : ZoneId) : Touches [.activity] s (s.touchZone z) :=
  forChans_touches s _ fun c s => touch_touches s z c

theorem touchAll_touches (s : State) : Touches [.activity] s s.touchAll := forZones_touches s _ fun z s => touchZone_touches s z

theorem changeHolder_touches (s : State) (z : ZoneId) (ch : ChanKind) (h : Option PortId) (r : TenureReason) :
    Touches tenures s (s.changeHolder z ch h r) := by
  unfold State.changeHolder
  dsimp only
  have h1 : Touches tenures s ((s.modChan z ch fun c =>
      { c with holder := h, lastActivity := if h.isSome then s.clock else c.lastActivity }).offer
        (.tenure (s.modChan z ch fun c =>
      { c with holder := h, lastActivity := if h.isSome then s.clock else c.lastActivity }).clock z ch
          (s.chan z ch).holder h r)) :=
    (modChan_touches s z ch _).then_mono (offer_touches _ _) (by decide)
  have h2 : ∀ (t : State) (q : Option PortId), Touches tenures s t →
      Touches tenures s (match q with | some p => t.pend p .tenureGained | none => t) := fun t q ht => by
    split
    · exact ht.then_mono (pend_touches _ _ _) (by decide)
    · exact ht
  have h3 := h2 _ h h1
  split
  · split
    · exact h3.then_mono (pend_touches _ _ _) (by decide)
    · exact h3
  · exact h3

theorem passOn_touches (s : State) (z : ZoneId) (ch : ChanKind) (r : TenureReason) : Touches tenures s (s.passOn z ch r) := by
  unfold State.passOn
  split
  · rename_i rest _
    exact (modChan_touches (F := tenures) s z ch fun c => { c with waiters := rest }).trans (changeHolder_touches _ z ch _ r)
  · exact changeHolder_touches s z ch none r

theorem tenureCheck_touches {s t : State} {p : PortId} {z : ZoneId} {ch : ChanKind} (h : s.tenureCheck p z ch = some t) :
    Touches tenures s t := by
  unfold State.tenureCheck at h
  split at h
  · cases h
    exact (changeHolder_touches s z ch _ _).then_mono (touch_touches _ z ch) (by decide)
  · split at h
    · cases h
      exact (touch_touches s z ch).mono (by decide)
    · cases h

theorem takeLapse_touches (s : State) (z : ZoneId) (ch : ChanKind) : Touches tenures s (s.takeLapse z ch) := by
  unfold State.takeLapse
  split
  · exact passOn_touches s z ch _
  · exact .refl _ s

theorem preempt_touches (s : State) (p : PortId) (z : ZoneId) (ch : ChanKind) : Touches tenures s (s.preempt p z ch) :=
  ((modChan_touches s z ch _).mono (by decide : [Part.tenure] ⊆ _)).trans (changeHolder_touches _ z ch _ _)

theorem dropUnrighted_touches (s : State) (z : ZoneId) (ch : ChanKind) (r : Right) :
    Touches tenures s (s.dropUnrighted z ch r) := by
  have h1 : Touches tenures s (s.modChan z ch fun c => { c with waiters := c.waiters.filter fun q => s.may q z r }) :=
    modChan_touches s z ch _
  unfold State.dropUnrighted
  dsimp only
  split
  · split
    · exact h1
    · exact h1.trans (passOn_touches _ z ch _)
  · exact h1

theorem takeChannel_touches (s : State) (p : PortId) (z : ZoneId) (ch : ChanKind) (pre : Bool) :
    Touches tenures s (s.takeChannel p z ch pre).1 := by
  unfold State.takeChannel
  split
  · exact changeHolder_touches s z ch _ _
  · split
    · exact .refl _ s
    · split
      · exact preempt_touches s p z ch
      · exact modChan_touches s z ch _

theorem releaseChannel_touches (s : State) (p : PortId) (z : ZoneId) (ch : ChanKind) :
    Touches tenures s (s.releaseChannel p z ch) := by
  unfold State.releaseChannel
  split
  · exact passOn_touches s z ch _
  · exact modChan_touches s z ch _

/-! ## The loop -/

theorem setDue_touches (s : State) (n : NodeId) (t : GTime) : Touches [.nodes] s (s.setDue n t) := modNode_touches s n _

theorem clearTimes_touches (s : State) (n : NodeId) : Touches [.nodes] s (s.clearTimes n) := modNode_touches s n _

theorem makeActuatorDue_touches (s : State) (n : NodeId) : Touches [.nodes] s (s.makeActuatorDue n) := by
  unfold State.makeActuatorDue
  split
  · exact modNode_touches s n _
  · exact setDue_touches s n _

theorem makeZoneDue_touches (s : State) (z : ZoneId) : Touches [.nodes] s (s.makeZoneDue z) :=
  forChans_touches s _ fun c s => by
    split
    · exact makeActuatorDue_touches s _
    · exact .refl _ s

theorem unseed_touches (s : State) (z : ZoneId) : Touches [.est] s (s.unseed z) := modZone_touches s z _

theorem dropPendingLight_touches (s : State) (z : ZoneId) : Touches [.det] s (s.dropPendingLight z) := modZone_touches s z _

theorem holdLight_touches (s : State) (z : ZoneId) : Touches [.est, .det] s (s.holdLight z) :=
  Touches.then_mono (modZone_touches s z _) (dropPendingLight_touches _ z) (by decide)

/-- What a change of a node's state touches. -/
abbrev nodeStates : List Part := [.nodes, .est, .det] ++ reports

theorem setNodeState_touches (s : State) (n : NodeId) (st : NodeState) : Touches nodeStates s (s.setNodeState n st) := by
  unfold State.setNodeState
  dsimp only
  split
  · exact .refl _ s
  · have h1 : Touches nodeStates s (s.modNode n fun nd => { nd with state := st }) := (modNode_touches s n _).mono (by decide)
    have h2 := h1.then_mono (offer_touches _ (.node (s.modNode n fun nd => { nd with state := st }).clock n (s.node n).state st))
      (by decide)
    have h3 : ∀ t : State, Touches nodeStates s t → Touches nodeStates s (match t.boundZone n with
        | some z => t.pendZone z .node
        | none => t.pendWhere .node fun _ => true) := fun t ht => by
      split
      · exact ht.then_mono (pendZone_touches _ _ _) (by decide)
      · exact ht.then_mono (pendWhere_touches _ _ _) (by decide)
    have h4 := h3 _ h2
    split
    · split
      · exact h4.then_mono (unseed_touches _ _) (by decide)
      · exact h4.then_mono (holdLight_touches _ _) (by decide)
      · exact h4
    · exact h4

theorem enlist_touches (s : State) (z : ZoneId) (ch : ChanKind) : Touches [.commands] s (s.enlist z ch) := by
  intro k hk
  unfold State.enlist
  split
  · rfl
  · cases k <;> first | rfl | simp at hk

theorem delist_touches (s : State) (z : ZoneId) (ch : ChanKind) : Touches [.commands] s (s.delist z ch) := by
  intro k hk
  cases k <;> first | rfl | simp at hk

theorem handToLoop_touches (s : State) (z : ZoneId) (ch : ChanKind) (v : Int) :
    Touches [.delivery, .commands] s (s.handToLoop z ch v) := by
  unfold State.handToLoop
  split
  · exact .refl _ s
  · dsimp only
    split
    · exact modChan_touches s z ch _
    · exact Touches.then_mono (modChan_touches s z ch _) (enlist_touches _ z ch) (by decide)

theorem abandon_touches (s : State) (n : NodeId) : Touches [.txn] s (s.abandon n) := by
  intro k hk
  unfold State.abandon
  split
  · split
    · cases k <;> first | rfl | simp at hk
    · rfl
  · rfl

theorem dropChannel_touches (s : State) (z : ZoneId) (ch : ChanKind) :
    Touches [.delivery, .commands] s (s.dropChannel z ch) :=
  Touches.then_mono (modChan_touches s z ch _) (delist_touches _ z ch) (by decide)

/-- What LC's dropping of channels touches. -/
abbrev drops' : List Part := [.delivery, .commands, .txn, .nodes]

theorem stopZone_touches (s : State) (z : ZoneId) : Touches drops' s (s.stopZone z) :=
  forChans_touches s _ fun ch s => by
    have h := (dropChannel_touches s z ch).mono (by decide : _ ⊆ drops')
    dsimp only
    split
    · exact (h.then_mono (abandon_touches _ _) (by decide)).then_mono (clearTimes_touches _ _) (by decide)
    · exact h

/-! ## Grants, ceilings and pace -/

/-- What a grant touches. -/
abbrev grants : List Part := [.granted, .delivery, .commands] ++ reports

theorem grant_touches (s : State) (port : Option PortId) (z : ZoneId) (ch : ChanKind) (r : Option Int) (v : Int) (c : Bool) :
    Touches grants s (s.grant port z ch r v c) :=
  Touches.then_mono (Touches.then_mono (modChan_touches s z ch _) (handToLoop_touches _ z ch v) (by decide)) (offer_touches _ _)
    (by decide)

theorem grantFromPart_touches (s : State) (z : ZoneId) (ch : ChanKind) (v : Int) : Touches grants s (s.grantFromPart z ch v) :=
  grant_touches s none z ch _ v true

/-- What a grant made by a zone evaluation touches. -/
abbrev evaluatedGrants : List Part := [.granted, .delivery, .commands, .cause, .sticky] ++ reports

theorem ceilingFollow_touches (s : State) (z : ZoneId) (old : Nat) : Touches evaluatedGrants s (s.ceilingFollow z old) := by
  unfold State.ceilingFollow
  split
  · exact .refl _ s
  · split
    · exact ((recordEvaluation_touches s z _).mono (by decide)).then_mono (grantFromPart_touches _ z _ _) (by decide)
    · exact .refl _ s

/-- What a change of C touches. -/
abbrev ceilings : List Part := .ceiling :: evaluatedGrants

theorem recomputeCeiling_touches (s : State) (z : ZoneId) : Touches ceilings s (s.recomputeCeiling z) := by
  unfold State.recomputeCeiling
  dsimp only
  split
  · exact .refl _ s
  · exact Touches.then_mono (modZone_touches s z _) (ceilingFollow_touches _ z _) (by decide)

/-- What a change of pace touches. -/
abbrev paces : List Part := .pace :: ceilings

theorem reevalPace_touches (s : State) (o : ObjId) : Touches paces s (s.reevalPace o) := by
  unfold State.reevalPace
  dsimp only
  split
  · exact .refl _ s
  · have h := Touches.then_mono (modObject_touches (F := paces) s o fun ob => { ob with pace := s.paceNow o })
      (offer_touches _ (.pace (s.modObject o fun ob => { ob with pace := s.paceNow o }).clock o (s.object o).cfg.zone
        (s.object o).pace (s.paceNow o) (s.object o).acct.consumed)) (by decide)
    split
    · exact h.then_mono (recomputeCeiling_touches _ _) (by decide)
    · exact h

theorem reevalAll_touches (s : State) : Touches paces s s.reevalAll := forObjects_touches s _ fun o s => reevalPace_touches s o

theorem chargeObject_touches (s : State) (o : ObjId) (inc : Nat) : Touches (.acct :: paces) s (s.chargeObject o inc) := by
  have h : Touches (.acct :: paces) s (s.modObject o fun ob => { ob with acct := ob.acct.charge inc }) := modObject_touches s o _
  unfold State.chargeObject
  dsimp only
  split
  · exact h
  · exact h.then_mono (reevalPace_touches _ o) (by decide)

/-- What a charge touches. -/
abbrev charges : List Part := .horizon :: .acct :: paces

theorem horizon_touches (s : State) (z : ZoneId) (t : GTime) :
    Touches charges s (s.modZone z fun zn => { zn with horizon := t }) := modZone_touches s z _

theorem chargeZone_touches (s : State) (z : ZoneId) (upTo : GTime) (e : Nat) :
    Touches charges s (s.chargeZone z upTo e) := by
  unfold State.chargeZone
  generalize (s.zone z).horizon = h
  refine Touches.trans (t := s.forObjects fun o s =>
    if (s.object o).inZone z then
      s.chargeObject o (faceLux e (s.object o).cfg.w * upTo.since h) else s) (forObjects_touches s _ fun o s => ?_) (horizon_touches _ z _)
  split
  · exact (chargeObject_touches s o _).mono (by decide)
  · exact .refl _ s

theorem blindCharge_touches (s : State) (z : ZoneId) (t : GTime) : Touches charges s (s.blindCharge z t) := by
  unfold State.blindCharge
  split
  · exact chargeZone_touches s z _ _
  · exact .refl _ s

theorem periodStart_touches (s : State) (d : Nat) : Touches [.periodStart] s { s with periodStart := d } := by
  intro k hk
  cases k <;> first | rfl | simp at hk

theorem rollover_touches (s : State) : Touches (.periodStart :: .acct :: paces) s s.rollover := by
  unfold State.rollover
  split
  · dsimp only
    have h1 : Touches (.periodStart :: .acct :: paces) s
        (s.forObjects fun o s => s.modObject o fun ob => { ob with acct := ob.acct.rollover }) :=
      forObjects_touches s _ fun o s => modObject_touches s o _
    have h2 : ∀ t : State, Touches (.periodStart :: .acct :: paces) t (t.forObjects fun o t =>
        if s.objects[o].cfg.use then t.offer (.rollover t.clock o s.objects[o].cfg.zone s.objects[o].acct.consumed) else t) :=
      fun t => forObjects_touches t _ fun o t => by
        split
        · exact (offer_touches t _).mono (by decide)
        · exact .refl _ t
    exact ((h1.trans (h2 _)).then_mono (periodStart_touches _ _) (by decide)).then_mono (reevalAll_touches _) (by decide)
  · exact .refl _ s

/-! ## The store writer -/

theorem store_touches (s : State) (st : Store) : Touches [.store] s { s with store := st } := by
  intro k hk
  cases k <;> first | rfl | simp at hk

theorem requestSave_touches (s : State) : Touches [.store] s s.requestSave := by
  unfold State.requestSave State.beginSave
  split <;> exact store_touches s _

theorem requestCheckpoint_touches (s : State) : Touches [.store] s s.requestCheckpoint := by
  unfold State.requestCheckpoint State.beginCheckpoint
  split <;> exact store_touches s _

theorem nextWrite_touches (s : State) : Touches [.store] s s.nextWrite := by
  unfold State.nextWrite State.beginSave State.beginCheckpoint
  split
  · exact store_touches s _
  · split
    · exact store_touches s _
    · exact .refl _ s

theorem endWrite_touches (s : State) (c w : Bool) : Touches (.store :: reports) s (s.endWrite c w) := by
  unfold State.endWrite
  dsimp only
  have h1 : Touches (.store :: reports) s (({ s with store := { s.store with writing := none } } : State).offer
      (.store s.clock c true w)) :=
    ((store_touches s _).mono (by decide)).then_mono (offer_touches _ _) (by decide)
  split
  · exact h1.then_mono (nextWrite_touches _) (by decide)
  · exact (h1.then_mono (pendWhere_touches _ _ _) (by decide)).then_mono (nextWrite_touches _) (by decide)

theorem endSection_touches (s : State) (v : Bool) : Touches (.store :: reports) s (s.endSection v) := by
  unfold State.endSection
  split
  · exact .refl _ s
  · exact (store_touches s _).mono (by decide)
  · exact ((store_touches s _).mono (by decide : _ ⊆ Part.store :: reports)).trans (endWrite_touches _ _ _)
  · exact ((store_touches s _).mono (by decide : _ ⊆ Part.store :: reports)).trans (endWrite_touches _ _ _)

theorem minuteWork_touches (s : State) (t : GTime) :
    Touches (.store :: .periodStart :: charges) s (s.minuteWork t) := by
  unfold State.minuteWork
  dsimp only
  have h1 : Touches (.store :: .periodStart :: charges) s (s.forZones fun z s => s.blindCharge z t) :=
    (forZones_touches s _ fun z s => blindCharge_touches s z t).mono (by decide)
  have h2 : Touches (.store :: .periodStart :: charges) s
      (if t.isDayStart then (s.forZones fun z s => s.blindCharge z t).rollover else s.forZones fun z s => s.blindCharge z t) := by
    split
    · exact h1.then_mono (rollover_touches _) (by decide)
    · exact h1
  have h3 := h2.then_mono (reevalAll_touches _) (by decide)
  split
  · exact h3.then_mono (requestCheckpoint_touches _) (by decide)
  · exact h3

/-! ## Excursions and the effective envelope -/

/-- What EM touches. -/
abbrev excursions : List Part := [.det, .ovr] ++ reports

theorem setExc_touches (s : State) (z : ZoneId) (k : ExcKind) (e : Option Excursion) : Touches [.det] s (s.setExc z k e) :=
  modZone_touches s z _

theorem openExc_touches (s : State) (z : ZoneId) (k : ExcKind) (e : Excursion) : Touches excursions s (s.openExc z k e) :=
  (((setExc_touches s z k _).mono (by decide)).then_mono (offer_touches _ _) (by decide)).then_mono (pendZone_touches _ z _)
    (by decide)

theorem closeExc_touches (s : State) (z : ZoneId) (k : ExcKind) (r : CloseReason) :
    Touches excursions s (s.closeExc z k r) := by
  unfold State.closeExc
  split
  · exact .refl _ s
  · exact ((Touches.then_mono (modZone_touches s z _) (setExc_touches _ z k _) (by decide)).then_mono (offer_touches _ _)
      (by decide)).then_mono (pendZone_touches _ z _) (by decide)

theorem updateConflict_touches (s : State) (z : ZoneId) :
    Touches (.conflict :: .sticky :: excursions) s (s.updateConflict z) := by
  unfold State.updateConflict
  dsimp only
  split
  · exact ((Touches.then_mono (modZone_touches s z _) (addSticky_touches _ z _) (by decide)).then_mono (closeExc_touches _ z _ _)
      (by decide)).then_mono (closeExc_touches _ z _ _) (by decide)
  · exact modZone_touches s z _

/-- What a recomputation of an effective envelope touches. -/
abbrev envelopes : List Part := [.eff, .conflict, .det, .ovr] ++ ceilings

theorem recomputeZone_touches (s : State) (z : ZoneId) : Touches envelopes s (s.recomputeZone z) :=
  (Touches.then_mono (modZone_touches s z _) (recomputeCeiling_touches _ z) (by decide)).then_mono (updateConflict_touches _ z)
    (by decide)

theorem testBand_touches (s : State) (z : ZoneId) (k : ExcKind) (lo hi v : Int) :
    Touches excursions s (s.testBand z k lo hi v) := by
  unfold State.testBand
  split
  · split
    · exact openExc_touches s z k _
    · exact .refl _ s
  · split
    · exact closeExc_touches s z k _
    · split
      · exact (setExc_touches s z k _).mono (by decide)
      · exact .refl _ s

theorem testSwing_touches (s : State) (m : Bool) (z : ZoneId) (k : ExcKind) (a b : Int) :
    Touches excursions s (s.testSwing m z k a b) := by
  unfold State.testSwing
  split
  · split
    · exact openExc_touches s z k _
    · exact .refl _ s
  · split
    · exact closeExc_touches s z k _
    · exact (setExc_touches s z k _).mono (by decide)

theorem testSwings_touches (s : State) (m : Bool) (z : ZoneId) : Touches excursions s (s.testSwings m z) := by
  unfold State.testSwings
  split
  · exact .refl _ s
  · exact (testSwing_touches s m z _ _ _).trans (testSwing_touches _ m z _ _ _)

theorem testClimate_touches (s : State) (z : ZoneId) : Touches excursions s (s.testClimate z) := by
  unfold State.testClimate
  split
  · split
    · exact .refl _ s
    · dsimp only
      split
      · exact (testBand_touches s z _ _ _ _).trans (testSwings_touches _ _ z)
      · exact ((testBand_touches s z _ _ _ _).trans (testBand_touches _ z _ _ _ _)).trans (testSwings_touches _ _ z)
  · exact .refl _ s

theorem testLux_touches (s : State) (z : ZoneId) (e : Nat) : Touches excursions s (s.testLux z e) := by
  unfold State.testLux
  dsimp only
  split
  · split
    · exact (setExc_touches s z _ _).mono (by decide)
    · exact closeExc_touches s z _ _
  · split
    · split
      · exact openExc_touches s z _ _
      · exact modZone_touches s z _
    · exact .refl _ s
  · rename_i p _ _
    split
    · generalize (if p.peak < e - (s.zone z).ceiling then _ else p : LuxPending) = p
      split
      · exact (modZone_touches (F := excursions) s z fun zn =>
          { zn with det := { zn.det with luxPending := none } }).trans (openExc_touches _ z _ _)
      · exact modZone_touches s z fun zn => { zn with det := { zn.det with luxPending := some p } }
    · exact modZone_touches s z _

theorem setUvFirst_touches (s : State) (z : ZoneId) (u : Option UvSample) : Touches excursions s (s.setUvFirst z u) :=
  modZone_touches s z _

theorem testUv_touches (s : State) (z : ZoneId) (uv : Nat) : Touches excursions s (s.testUv z uv) := by
  unfold State.testUv
  dsimp only
  split
  · split
    · exact (setExc_touches s z _ _).mono (by decide)
    · exact setUvFirst_touches s z _
    · exact (setUvFirst_touches s z _).trans (openExc_touches _ z _ _)
  · exact (setUvFirst_touches s z _).trans (closeExc_touches _ z _ _)

/-- What an override computation touches. -/
abbrev overrideParts : List Part := .ovr :: evaluatedGrants

theorem enterOverride_touches (s : State) (z : ZoneId) (ch : ChanKind) (v : Option Nat) :
    Touches grants s (s.enterOverride z ch v) := by
  unfold State.enterOverride
  split
  · exact .refl _ s
  · split
    · exact grantFromPart_touches s z ch _
    · exact .refl _ s

theorem computeOverride_touches (s : State) (z : ZoneId) : Touches overrideParts s (s.computeOverride z) := by
  unfold State.computeOverride
  dsimp only
  split
  · split
    · exact .refl _ s
    · exact ((Touches.then_mono (modZone_touches s z _) (recordEvaluation_touches _ z _) (by decide)).then_mono
        (enterOverride_touches _ z _ _) (by decide)).then_mono (enterOverride_touches _ z _ _) (by decide)
  · exact .refl _ s

/-! ## Readings -/

theorem countClimate_touches (s : State) (z : ZoneId) : Touches (.est :: reports) s (s.countClimate z) := by
  unfold State.countClimate
  dsimp only
  split
  · exact (show Touches (.est :: reports) s _ from modZone_touches s z _).trans (offerClimateSample_touches _ z _ _ _ _)
  · exact modZone_touches s z _

theorem countLight_touches (s : State) (z : ZoneId) : Touches (.est :: reports) s (s.countLight z) := by
  unfold State.countLight
  dsimp only
  split
  · exact (show Touches (.est :: reports) s _ from modZone_touches s z _).trans (offerLightSample_touches _ z _ _ _ _)
  · exact modZone_touches s z _

theorem climateSample_touches (s : State) (z : ZoneId) (t rh : Int) :
    Touches (.est :: excursions) s (s.climateSample z t rh) :=
  (Touches.then_mono (modZone_touches s z _) (testClimate_touches _ z) (by decide)).then_mono (countClimate_touches _ z)
    (by decide)

/-- What a light sample touches. -/
abbrev lightSamples : List Part := [.est, .det, .ovr] ++ charges

theorem lightSample_touches (s : State) (z : ZoneId) (e uv : Nat) : Touches lightSamples s (s.lightSample z e uv) := by
  unfold State.lightSample
  dsimp only
  have h1 : ∀ f : Zone → Zone, (∀ zn : Zone, f zn = { zn with est := (f zn).est }) → Touches lightSamples s (s.modZone z f) := by
    intro f hf
    apply modZone_touches <;> intro _ <;> rw [hf] <;> first | rfl | (intro c; rfl) | simp_all
  split
  · exact ((((((h1 _ fun _ => rfl).then_mono (chargeZone_touches _ z _ _) (by decide)).then_mono (testLux_touches _ z _)
      (by decide)).then_mono (testUv_touches _ z _) (by decide)).then_mono (computeOverride_touches _ z) (by decide))).then_mono
      (countLight_touches _ z) (by decide)
  · exact (h1 _ fun _ => rfl).then_mono (countLight_touches _ z) (by decide)

theorem markZone_touches (s : State) (z : ZoneId) : Touches (.est :: excursions) s (s.markZone z) := by
  unfold State.markZone
  dsimp only
  have h1 : Touches (.est :: excursions) s
      (s.modZone z fun zn => { zn with est := { zn.est with ring := (markRing (s.zone z).est.ring).1 } }) :=
    modZone_touches s z _
  split
  · exact h1.then_mono (testSwings_touches _ _ z) (by decide)
  · exact h1

end Sys2Proof.Machine
end

