-- ==== Sys2Proof/Tests/Slice0.lean ====
section
/-! SUPPORT. Slice0.lean: our own tests. Three kinds: the checks of WellFormed refuse ill-formed commands (`test_refuses_…`); one
operation or one step against a number the reference works out (`test_…`, its section named above it); and, for every statement of
Obligations.lean that has hypotheses, concrete values that meet them together, clause by clause (`meets_…`). -/

namespace Sys2Proof.Tests

set_option Elab.async false

open Sys2Proof Sys2Proof.Machine

/-! ## WellFormed -/

theorem test_refuses_empty_frame : (Instr.frame 0 []).WellFormed = false := by decide
theorem test_refuses_empty_loop_reply : (Instr.loopReply []).WellFormed = false := by decide
theorem test_refuses_poll_at_address_0 : (Instr.sensorPollDue 0).WellFormed = false := by decide
theorem test_refuses_poll_at_address_33 : (Instr.sensorPollDue 33).WellFormed = false := by decide
theorem test_refuses_status_at_address_0 : (Instr.statusDue 0).WellFormed = false := by decide
theorem test_refuses_status_at_address_33 : (Instr.statusDue 33).WellFormed = false := by decide
theorem test_refuses_retry_at_address_0 : (Instr.actuatorRetry 0).WellFormed = false := by decide
theorem test_refuses_retry_at_address_33 : (Instr.actuatorRetry 33).WellFormed = false := by decide
theorem test_takes_both_ends_of_the_addresses :
    (Instr.sensorPollDue 1).WellFormed = true ∧ (Instr.actuatorRetry 32).WellFormed = true := by decide

/-! ## The reference's worked numbers, one operation each -/

/-- 2.5: T 2104 and RH 5230 with k 32 take the samples 2110, 5000 and then 2110, 4990. -/
theorem test_filter_of_2_5 :
    (filterUpdate 32 2104 2110, filterUpdate 32 5230 5000) = (2105, 5201) ∧
      (filterUpdate 32 2105 2110, filterUpdate 32 5201 4990) = (2106, 5175) := by decide

/-- 2.5: the ring after the sample at 36290, the mark and the two samples that follow it. -/
theorem test_ring_of_2_5 :
    widenRing (widenRing (markRing (widenRing [] 2104 5230)).1 2105 5201) 2106 5175 =
      [some { tMin := 2104, tMax := 2104, rhMin := 5230, rhMax := 5230 },
        some { tMin := 2105, tMax := 2106, rhMin := 5175, rhMax := 5201 }] := by decide

/-- R32 and 2.7: D0 from a sample, scaled up through the blind, and held below τ = 50. -/
theorem test_daylight_of_2_7 :
    updateD0 100 (daylightOf 300 190 (some 500)) (some 40) none .unknown = (some 62, .known) ∧
      updateD0 40 (daylightOf 300 380 (some 500)) (some 60) (some 550) .known = (some 542, .known) ∧
      updateD0 40 (daylightOf 300 170 (some 500)) (some 100) (some 542) .known = (some 542, .held) := by decide

/-- R39, R42 and 3.8: Ps(2200) = 2645, Ps(2250) = 2728; RHtrans from 2000, 5000 to 2250, and from 2200, 5000 to 2250. -/
theorem test_vapour_pressure_of_3_8 :
    (satPressure 2200, satPressure 2250) = (2645, 2728) ∧ rhTrans 2000 5000 2250 = 4287 ∧ rhTrans 2200 5000 2250 = 4848 := by
  decide

/-- 3.8: the bands of Z5 and Z1. -/
theorem test_bands_of_3_8 :
    swingBand 4500 5500 4900 5100 500 = ({ lo := 4600, hi := 5400 }, false) ∧
      swingBand 1800 2400 1980 2020 300 = ({ lo := 1800, hi := 2280 }, false) ∧
      swingBand 1800 2400 2100 2240 150 = ({ lo := 2090, hi := 2250 }, false) := by decide

/-- R49, 3.8 and 6.6: the MOIST interval of the pair is [27, 92], that of MOIST alone is [-33, 33], and 60 becomes 33. -/
theorem test_moist_interval_of_3_8 :
    moistInterval { lo := 4600, hi := 5400 } 4287 0 1200 = some { lo := 27, hi := 92 } ∧
      moistInterval { lo := 4600, hi := 5400 } 5000 0 1200 = some { lo := -33, hi := 33 } ∧
      moistClamp { lo := 4600, hi := 5400 } 5000 0 1200 60 = 33 := by decide +kernel

/-- The light figures of zone Z3 in 4.4, at the ceiling given. -/
def z3Light (ceiling light : Nat) : LightInput :=
  { d0Status := .known, d0 := some 62, d := some 40, eFull := 300, tc := 100, ceiling := ceiling, light := light, shade := 40,
    shadeNow := 40 }

/-- R58, 4.4 and 5.9: LIGHT 800 is clamped to 289 under C 125, and 289 to 79 under C 62. -/
theorem test_light_clamp_of_4_4 :
    (z3Light 125 500).lightClamp 40 800 = (289, false) ∧ (z3Light 62 289).lightClamp 40 289 = (79, false) := by decide +kernel

/-- R59 and 4.4: SHADE 0 is clamped to 40 with LIGHT granted at 289. -/
theorem test_shade_clamp_of_4_4 : (z3Light 125 289).shadeClamp 289 0 = (40, false) := by decide +kernel

/-- R60 and 4.4: the probe step from an applied 100, and the clamp once D0 is 944. -/
theorem test_probe_step_of_4_4 :
    let z6 : LightInput :=
      { d0Status := .unknown, d0 := none, d := some 40, eFull := 300, tc := 30, ceiling := 125, light := 0, shade := 100,
        shadeNow := 100 }
    z6.shadeClamp 0 0 = (90, false) ∧ { z6 with d0Status := .known, d0 := some 944 }.shadeClamp 0 0 = (90, false) := by
  decide +kernel

/-- R138 and 8.8: the override values at second 1060. -/
theorem test_override_of_8_8 :
    ({ z3Light 125 289 with d0 := some 225 }).overrideValues = (0, some 49, condBit .daylightOver) := by decide +kernel

/-- 8.8: at second 1090, with D0 232 and SHADE granted at 49, the LUX part tightens to 51 and LIGHT stays 0. -/
theorem test_override_tightens_of_8_8 :
    ({ z3Light 125 0 with d0 := some 232, d := some 130, shade := 49 }).overrideValues = (0, some 51, condBit .daylightOver) := by
  decide +kernel

/-- 8.2: with the RH band 4500..5500 an excursion opens at 4490, stays open at 4599 and closes at 4600. -/
theorem test_band_of_8_2 :
    let at_ := fun v s => State.testBand s 0 .rhBand 4500 5500 v
    let opened := at_ 4490 State.reset
    (opened.zone 0).exc .rhBand = some { start := .zero, side := .low, peak := 10, peakTime := .zero } ∧
      (at_ 4599 opened).zone 0 = opened.zone 0 ∧ ((at_ 4600 opened).zone 0).exc .rhBand = none := by
  decide +kernel

/-- R63 and R64: w 1200 at 200 lux over 30 s is 7200 lx·s, which takes frac 1500 to two lx·h more and 1500. -/
theorem test_charge_of_r64 :
    faceLux 200 1200 * 30 = 7200 ∧
      Account.charge { consumed := 20000, frac := 1500, previous := 0 } 7200 =
        { consumed := 20002, frac := 1500, previous := 0 } := by decide

/-- R69: 38,000 lx·h at day 73, second 43200 of 365 days is AHEAD of the threshold 37,705, and 37,705 is not. -/
theorem test_pace_of_r69 :
    paceFor 38000 150000 5 365 6350400 = .ahead ∧ paceFor 37705 150000 5 365 6350400 = .onPace ∧
      paceFor 150000 150000 5 365 6350400 = .exhausted := by decide

/-- R15 and R71: the ceilings 150 at w 1200 and 50 at w 800, at the sensor. -/
theorem test_conv_of_r71 : conv 150 1200 = 125 ∧ conv 50 800 = 62 := by decide

/-- R180: the CRC-16 with polynomial 0x1021 from 0xFFFF, by its published check value over "123456789". -/
theorem test_crc16_check : crc16 [0x31, 0x32, 0x33, 0x34, 0x35, 0x36, 0x37, 0x38, 0x39] = 0x29B1 := by decide +kernel

/-- R183: the CRC-8 with polynomial 0x07 from 0, by its published check value over "123456789". -/
theorem test_crc8_check : crc8 [0x31, 0x32, 0x33, 0x34, 0x35, 0x36, 0x37, 0x38, 0x39] = 0xF4 := by decide +kernel

/-! ## States for the steps and the witnesses -/

/-- A request frame with tag 7. -/
def req (cmd : Byte) (payload : List Byte) : Frame := { tag := 7, cmd := cmd, payload := payload }

/-- The frame `f` alone in the request queue of port `p`. -/
def asking (s : State) (p : PortId) (f : Frame) : State := s.modPort p fun pt => { pt with queue := [f] }

/-- A port's open set replaced. -/
def withLink (s : State) (p : PortId) (l : Option LinkRecord) : State := s.modPort p fun pt => { pt with link := l }

/-- The node table of the states below: addresses 1 to 6 are one node of each kind. -/
def kindAt (n : NodeId) : NodeKind :=
  match n.val with
  | 0 => .lightAct
  | 1 => .shadeAct
  | 2 => .heatAct
  | 3 => .moistAct
  | 4 => .climateSensor
  | 5 => .lightSensor
  | _ => .none

/-- A part in SUPERVISED at second 600 of day 10 with zone Z0 ON and all its nodes bound. P0 is the conservation port, and P1 and
P2 have OBSERVE alone; Z0 is usable at 20.00 °C and 53.00 %RH. -/
def gallery : State :=
  { (State.reset.modZone 0 fun zn =>
      { zn with
          cfg := { zn.cfg with
            use := true
            climateNode := some 4
            lightNode := some 5
            lightAct := some 0
            shadeAct := some 1
            heatAct := some 2
            moistAct := some 3 }
          est := { zn.est with filt := some (2000, 5300), seeded := true } }) with
      supervised := true
      clock := { day := 10, sec := 600 }
      nodes := Vector.ofFn fun n =>
        { Node.empty with
            kind := kindAt n
            code := if n = 4 ∨ n = 5 then 3 else 0
            state := if n = 4 ∨ n = 5 then .fresh else .ready
            due := if n.val < 6 then some { day := 10, sec := 600 } else none } }

/-- The gallery with a value granted and pending on Z0 LIGHT, held by P1, for which P2 waits; its last activity was 600 s ago. -/
def lit : State :=
  { gallery.modChan 0 .light fun c =>
      { c with
          granted := some 300
          pending := some 300
          holder := some 1
          waiters := [2]
          lastActivity := { day := 10, sec := 0 } } with
    commands := [(0, .light)] }

/-- A set of port P0 open with one request left and a member on Z0 MOIST. -/
def openSet : LinkRecord :=
  { remaining := 1, zone := some 0, members := [{ tag := 3, ch := .moist, value := 40 }], expiry := 0 }

/-- A set of port P0 open with no members. -/
def emptySet : LinkRecord := { remaining := 1, zone := none, members := [], expiry := 0 }

/-- A transaction under way to the node at address 1. -/
def under (s : State) (n : NodeId) (op : LoopOp) : State :=
  { s with txn := some { node := n, op := op, value := 0, abandoned := false } }

/-! ## One step each, against the reference's rules -/

/-- What a step leaves, or the state itself where it answers no next state. -/
def after (c : Instr) (s : State) : State :=
  match step { s with pending := [c] } with
  | .next t => t
  | .fault _ => s
  | .refused _ => s

/-- R184: the second after 86399 is second 0 of the next day, and it is a minute mark and a five-minute mark. -/
theorem test_step_clock_second :
    let t := after .clockSecond { gallery with clock := { day := 10, sec := 86399 } }
    t.clock = { day := 11, sec := 0 } ∧ t.minuteMarks = [{ day := 11, sec := 0 }] ∧ t.fiveMarks = t.minuteMarks := by
  decide +kernel

/-- R79, R83, R85: LIGHT 1500 is range clamped to 1000 and then to 669 by C = 200 under E_full 300: 200.7 lux is 200 by division. -/
theorem test_step_set_point :
    ((after (.setPoint 0) (asking gallery 0 (req 0x01 [0, 0, 0x05, 0xDC]))).chan 0 .light).granted = some 669 := by
  decide +kernel

/-- R81, R88: a port that does not hold the channel is answered NOT_TENURED, 21, with its channel, no value and no condition. -/
theorem test_step_set_point_not_tenured :
    ((after (.setPoint 0) (asking lit 0 (req 0x01 [0, 0, 0, 100]))).port 0).tx =
      [{ tag := 7, status := .notTenured, payload := [0, 0, 0x80, 0, 0, 0] }] := by decide +kernel

/-- R120: a channel idle for its hold time of 600 s passes to its waiter. -/
theorem test_step_lapse : ((after (.tenureLapse 0 .light) lit).chan 0 .light).holder = some 2 := by decide +kernel

/-- R122: P1, which holds Z0 LIGHT, loses the right to it, and the channel passes to P2, which waits and has the right. -/
theorem test_step_write_authority :
    let s := (lit.modPort 1 fun pt => { pt with rights := pt.rights.set 0 5 }).modPort 2 fun pt => { pt with rights := pt.rights.set 0 5 }
    let t := after (.writeAuthority 0) (asking s 0 (req 0x33 [1, 1, 1]))
    (t.chan 0 .light).holder = some 2 ∧ t.records.drop s.records.length = [.tenure s.clock 0 .light (some 1) (some 2) .right] := by
  decide +kernel

/-- R151, R152: a COMMAND answered 85 after 90 was sent leaves 85 applied and ACT_LIMITED in the sticky set (9.8). -/
theorem test_step_loop_reply :
    let s := under (gallery.modChan 0 .shade fun c => { c with pending := some 90, sent := some 90 }) 1 .command
    let t := after (.loopReply (replyFrame 1 [0, 85])) s
    (t.chan 0 .shade).applied = some 85 ∧ hasCond (t.zone 0).sticky .actLimited = true ∧
      (t.chan 0 .shade).pending = none := by decide +kernel

/-- R17, R18 and 1.7 step c: an object with the RH band 5300..5600 beside one with 5000..5200 puts the zone in CONFLICT. -/
theorem test_step_write_object :
    let s := gallery.modObject 7 fun ob =>
      { ob with cfg := { ob.cfg with use := true, w := 0, rhBand := some (5000, 5200) }, pace := .onPace }
    let t := after (.writeObject 0) (asking s 0 (req 0x12 [9, 0, 0x81, 1, 0x14, 0xB4, 0x15, 0xE0]))
    (t.zone 0).eff.rhLo = 5300 ∧ (t.zone 0).eff.rhHi = 5200 ∧ (t.zone 0).conflict = true := by decide +kernel

/-- R10: with RHlo 4500 and RHhi 5500 held, a write of RHlo 5600 alone is refused BAD_ARG, and one of both ends 5600, 6000 is taken. -/
theorem test_step_write_envelope :
    ((after (.writeEnvelope 0) (asking gallery 0 (req 0x11 [1, 0, 4, 0x15, 0xE0]))).port 0).tx =
        [{ tag := 7, status := .badArg, payload := [] }] ∧
      ((after (.writeEnvelope 0) (asking gallery 0 (req 0x11 [1, 0, 12, 0x15, 0xE0, 0x17, 0x70]))).zone 1).env =
        { (gallery.zone 1).env with rhLo := 5600, rhHi := 6000 } := by decide +kernel

/-- R17: a T_BAND and an RH_BAND excursion of Z0, open when WRITE_ENVELOPE puts the zone in CONFLICT, close in that order. -/
theorem test_step_write_envelope_conflict :
    let open_ : Excursion := { start := .zero, side := .high, peak := 5, peakTime := .zero }
    let s := (gallery.modObject 7 fun ob =>
      { ob with cfg := { ob.cfg with use := true, w := 0, rhBand := some (5000, 5200) }, pace := .onPace }).modZone 0 fun zn =>
        { zn with det := { zn.det with exc := (zn.det.exc.set 0 (some open_)).set 1 (some open_) } }
    let t := after (.writeEnvelope 0) (asking s 0 (req 0x11 [0, 0, 12, 0x15, 0xE0, 0x17, 0x70]))
    (t.zone 0).conflict = true ∧ hasCond (t.zone 0).sticky .conflict = true ∧
      t.records.drop s.records.length =
        [.excursionClose s.clock 0 .tBand open_ .conflict, .excursionClose s.clock 0 .rhBand open_ .conflict] := by
  decide +kernel

/-- R85, R103, R104: a SET_POINT for another zone than the set's is answered BAD_ARG without a channel and breaks the set. -/
theorem test_step_set_point_breaks :
    ((after (.setPoint 0) (asking (withLink (gallery.modZone 1 fun zn => { zn with cfg := { zn.cfg with use := true, lightAct := some 9 } }) 0
        (some { openSet with remaining := 2 })) 0 (req 0x01 [1, 0, 0, 100]))).port 0).tx =
      [{ tag := 7, status := .badArg, payload := [0xFF, 0xFF, 0x80, 0, 0, 0] },
        { tag := 3, status := .linkBroken, payload := [0, 3, 0x80, 0, 0, 0] }] := by decide +kernel

/-- R65: a minute mark that waited 30 s charges a blind zone with C 200 for the 60 s to the mark, 12,000 lx·s at w 1000. -/
theorem test_step_minute_mark :
    let s := (gallery.modZone 0 fun zn => { zn with cfg := { zn.cfg with lightNode := none }, horizon := { day := 10, sec := 540 } }).modObject 3
      fun ob => { cfg := { ob.cfg with use := true }, acct := { consumed := 0, frac := 0, previous := 0 }, pace := .onPace }
    let t := after .minuteMark { s with clock := { day := 10, sec := 630 }, minuteMarks := [{ day := 10, sec := 600 }] }
    (t.object 3).acct = { consumed := 3, frac := 1200, previous := 0 } ∧ (t.zone 0).horizon = { day := 10, sec := 600 } := by
  decide +kernel

/-! ## Witnesses: values that meet the hypotheses of each statement -/

/-! ### Steps, start-up, receivers -/

theorem meets_StepTakesFrontCommand : { gallery with pending := [.clockSecond] }.pending = .clockSecond :: [] := rfl

/-- Straps with no conservation port, and straps with two. -/
def plain : Straps := { rate := .r19200, roles := #v[.climate, .lighting, .none] }
def twice : Straps := { rate := .r230400, roles := #v[.none, .conservation, .conservation] }

/-- The gallery with both sections of the store valid. -/
def stored : State :=
  { gallery with store := Store.fresh (some gallery.configImage) (some gallery.doseImage) }

theorem meets_StartUpLoadsConfigAndRoles :
    (StartsUp (.resetPin plain) plain false ∧ stored.store.config = some gallery.configImage) ∧
      (StartsUp (.powerOn twice none) twice true ∧ gallery.store.config = none) ∧
      (StartsUp (.powerOn plain (some 0)) plain false ∧ ∀ q : PortId, plain.roles[q] ≠ .conservation) ∧
      ∃ q : PortId, twice.roles[q] = .conservation :=
  ⟨⟨.inl ⟨rfl, rfl⟩, rfl⟩, ⟨.inr ⟨none, rfl, rfl⟩, rfl⟩, ⟨.inr ⟨some 0, rfl, rfl⟩, by decide⟩, 1, by decide⟩

theorem meets_StartUpRestoresDose :
    (StartsUp (.resetPin plain) plain false ∧ stored.store.dose = some gallery.doseImage) ∧
      (StartsUp (.powerOn twice none) twice true ∧ gallery.store.dose = none) :=
  ⟨⟨.inl ⟨rfl, rfl⟩, rfl⟩, .inr ⟨none, rfl, rfl⟩, rfl⟩

/-- The gallery with `n` frames waiting on port P0. -/
def waiting (n : Nat) : State := gallery.modPort 0 fun pt => { pt with queue := List.replicate n (req 0x17 []) }

theorem meets_WrittenFrameIsReceived :
    ((waiting 5).port 0).rx = .idle ∧ (req 0xFF (List.replicate 245 0xC3)).payload.length ≤ 245 ∧
      ((waiting 5).port 0).queue.length < 6 := by decide +kernel

/-- Some two bytes differ from any two given. -/
theorem some_other_bytes (l : List Byte) : ∃ a b : Byte, [a, b] ≠ l := by
  by_cases h : [(0 : Byte), 0] = l
  · exact ⟨0, 1, by rw [← h]; decide⟩
  · exact ⟨0, 0, h⟩

theorem meets_TurnedAwayFramesAndLineEvents :
    (((waiting 6).port 0).rx = .idle ∧ (req 0x17 []).payload.length ≤ 245 ∧ 6 ≤ ((waiting 6).port 0).queue.length) ∧
      ((gallery.port 0).rx = .idle ∧ ((1 : Byte).toNat < 2 ∧ 247 < (248 : Byte).toNat)) ∧
      (2 ≤ [(0 : Byte), 0].length ∧ [(0 : Byte), 0] ≠ u2 (crc16 [2, 0, 0])) ∧
      ((List.replicate 247 (0 : Byte)).length ≤ 247 ∧ ∃ a b : Byte, [a, b] ≠ u2 (crc16 (247 :: List.replicate 247 0))) ∧
      (0xC3 : Byte) ∉ [(0xC2 : Byte), 0xC4] ∧
      ∃ bytes, ((gallery.modPort 0 fun pt => { pt with rx := .inFrame [] }).port 0).rx = .inFrame bytes :=
  ⟨by decide +kernel, by decide +kernel, by decide +kernel, ⟨Nat.le_of_eq List.length_replicate, some_other_bytes _⟩, by decide, [], by decide +kernel⟩

/-! ### Requests in general, and reads -/

theorem meets_RequestsTurnedAwayBeforeTheirChecks :
    (NextRequest (asking gallery 0 (req 0x06 [])) 0 0x06 (req 0x06 []) [] ∧ (0x06 : Byte).toNat ∉ commandCodes) ∧
      (NextRequest (asking gallery 1 (req 0x30 [0])) 1 0x30 (req 0x30 [0]) [] ∧ (gallery.port 1).role ≠ .conservation ∧
        ((0x30 : Byte), Instr.superviseOff 1) ∈ systemCommands 1 ∧ (req 0x30 [0]).payload = [0]) ∧
      (NextRequest (asking gallery 2 (req 0x30 [])) 2 0x30 (req 0x30 []) [] ∧ (gallery.port 2).role ≠ .conservation ∧
        ((0x30 : Byte), Instr.superviseOn 2) ∈ systemCommands 2 ∧ (req 0x30 []).payload ≠ [0]) ∧
      (NextRequest (asking gallery 0 (req 0x31 [0, 0, 0, 0])) 0 0x31 (req 0x31 [0, 0, 0, 0]) [] ∧
        ((0x31 : Byte), Instr.setClock 0, 5) ∈ payloadLengths 0 ∧ (req 0x31 [0, 0, 0, 0]).payload.length ≠ 5 ∧
        (gallery.port 0).role = .conservation) ∧
      (NextRequest (asking gallery 1 (req 0x17 [0])) 1 0x17 (req 0x17 [0]) [] ∧
        ((0x17 : Byte), Instr.readSystem 1, 0) ∈ payloadLengths 1 ∧ (req 0x17 [0]).payload.length ≠ 0 ∧
        ¬ 0x30 ≤ (0x17 : Byte).toNat) := by
  unfold NextRequest; decide +kernel

/-- The gallery in which port P1 has no right in any zone. -/
def mute : State := gallery.modPort 1 fun pt => { pt with rights := Vector.replicate 8 0 }

theorem meets_ReadsAnswerAndChangeNothing_object :
    (NextRequest (asking gallery 1 (req 0x13 [31])) 1 0x13 (req 0x13 [31]) [] ∧ (req 0x13 [31]).payload = [u1 (31 : ObjId).val] ∧
        (asking gallery 1 (req 0x13 [31])).may 1 ((asking gallery 1 (req 0x13 [31])).object 31).cfg.zone .observe = true) ∧
      (NextRequest (asking mute 1 (req 0x13 [0])) 1 0x13 (req 0x13 [0]) [] ∧ (req 0x13 [0]).payload = [u1 (0 : ObjId).val] ∧
        (asking mute 1 (req 0x13 [0])).may 1 ((asking mute 1 (req 0x13 [0])).object 0).cfg.zone .observe = false) ∧
      (NextRequest (asking gallery 1 (req 0x17 [])) 1 0x17 (req 0x17 []) [] ∧ (req 0x17 []).payload = []) := by
  unfold NextRequest; decide +kernel

theorem meets_ReadsAnswerAndChangeNothing_zone :
    (NextRequest (asking gallery 1 (req 0x14 [7, 0x7F])) 1 0x14 (req 0x14 [7, 0x7F]) [] ∧
        (req 0x14 [7, 0x7F]).payload = [u1 (7 : ZoneId).val, 0x7F] ∧ (0x7F : Byte) ≠ 0 ∧ (0x7F : Byte).getLsbD 7 = false ∧
        (asking gallery 1 (req 0x14 [7, 0x7F])).may 1 7 .observe = true) ∧
      (NextRequest (asking mute 1 (req 0x14 [0, 1])) 1 0x14 (req 0x14 [0, 1]) [] ∧
        (req 0x14 [0, 1]).payload = [u1 (0 : ZoneId).val, 1] ∧ (1 : Byte) ≠ 0 ∧ (1 : Byte).getLsbD 7 = false ∧
        (asking mute 1 (req 0x14 [0, 1])).may 1 0 .observe = false) := by
  unfold NextRequest; decide +kernel

theorem meets_ReadsAnswerAndChangeNothing_node :
    (NextRequest (asking gallery 1 (req 0x15 [1])) 1 0x15 (req 0x15 [1]) [] ∧ (req 0x15 [1]).payload = [u1 ((0 : NodeId).val + 1)] ∧
        (asking gallery 1 (req 0x15 [1])).boundZone 0 = some 0 ∧ (asking gallery 1 (req 0x15 [1])).may 1 0 .observe = true) ∧
      (NextRequest (asking mute 1 (req 0x15 [1])) 1 0x15 (req 0x15 [1]) [] ∧ (asking mute 1 (req 0x15 [1])).boundZone 0 = some 0 ∧
        (asking mute 1 (req 0x15 [1])).may 1 0 .observe = false) ∧
      (NextRequest (asking gallery 1 (req 0x15 [32])) 1 0x15 (req 0x15 [32]) [] ∧
        (req 0x15 [32]).payload = [u1 ((31 : NodeId).val + 1)] ∧ (asking gallery 1 (req 0x15 [32])).boundZone 31 = none) := by
  unfold NextRequest; decide +kernel

theorem meets_ReadsAnswerAndChangeNothing_port :
    NextRequest (asking (withLink gallery 2 (some openSet)) 1 (req 0x16 [2])) 1 0x16 (req 0x16 [2]) [] ∧
      (req 0x16 [2]).payload = [u1 (2 : PortId).val] ∧
      ((asking (withLink gallery 2 (some openSet)) 1 (req 0x16 [2])).port 2).link.isSome = true := by
  unfold NextRequest; decide +kernel

/-! ### The observation queue and the attention lines -/

theorem meets_SubscribeOnAndOff :
    (NextRequest (asking gallery 1 (req 0x20 [1, 0x10, 0])) 1 0x20 (req 0x20 [1, 0x10, 0]) [] ∧ 4096 ≤ 4096 ∧
        (req 0x20 [1, 0x10, 0]).payload = 1 :: u2 4096 ∧ (gallery.port 1).sub = none) ∧
      (NextRequest (asking gallery 0 (req 0x20 [1, 0, 0])) 0 0x20 (req 0x20 [1, 0, 0]) [] ∧ 0 ≤ 4096 ∧
        (req 0x20 [1, 0, 0]).payload = 1 :: u2 0 ∧ (gallery.port 0).sub.isSome = true) ∧
      (NextRequest (asking gallery 0 (req 0x20 [0, 0xFF, 0])) 0 0x20 (req 0x20 [0, 0xFF, 0]) [] ∧
        (req 0x20 [0, 0xFF, 0]).payload = [0, 0xFF, 0] ∧ (gallery.port 0).sub.isSome = true) ∧
      (NextRequest (asking gallery 1 (req 0x20 [0, 0, 0])) 1 0x20 (req 0x20 [0, 0, 0]) [] ∧
        (req 0x20 [0, 0, 0]).payload = [0, 0, 0] ∧ (gallery.port 1).sub = none) := by
  unfold NextRequest; decide +kernel

theorem meets_DrainTakesRecordsInOrder :
    (NextRequest (asking gallery 0 (req 0x21 [16])) 0 0x21 (req 0x21 [16]) [] ∧ (gallery.port 0).sub.isSome = true ∧
        1 ≤ (16 : Byte).toNat ∧ (16 : Byte).toNat ≤ 16) ∧
      (NextRequest (asking gallery 0 (req 0x21 [1])) 0 0x21 (req 0x21 [1]) [] ∧ (gallery.port 0).sub.isSome = true ∧
        1 ≤ (1 : Byte).toNat ∧ (1 : Byte).toNat ≤ 16) ∧
      (NextRequest (asking gallery 1 (req 0x21 [1])) 1 0x21 (req 0x21 [1]) [] ∧ (gallery.port 1).sub = none) := by
  unfold NextRequest; decide +kernel

/-- A selection at the ends of what SCAN takes. -/
def widest : Selection := { kinds := 0x1FFF, zones := 0xFF, test := some { field := .peak, atMost := true, value := 65535 } }
def lowest : Selection := { kinds := 0, zones := 0, test := some { field := .t, atMost := false, value := -32768 } }

theorem widest_taken : widest.Taken := ⟨by decide, by intro x h; cases h; decide⟩
theorem lowest_taken : lowest.Taken := ⟨by decide, by intro x h; cases h; decide⟩

theorem meets_ScanStopsAtFirstMatch :
    (NextRequest (asking gallery 0 (req 0x22 (selectionBytes widest))) 0 0x22 (req 0x22 (selectionBytes widest)) [] ∧ widest.Taken ∧
        (gallery.port 0).sub.isSome = true) ∧
      (NextRequest (asking gallery 1 (req 0x22 (selectionBytes lowest))) 1 0x22 (req 0x22 (selectionBytes lowest)) [] ∧
        lowest.Taken ∧ (gallery.port 1).sub = none) := by
  refine ⟨⟨?_, widest_taken, ?_⟩, ?_, lowest_taken, ?_⟩ <;> (try unfold NextRequest) <;> decide +kernel

theorem meets_WatchAndAttentionSettings_watch :
    (NextRequest (asking gallery 0 (req 0x23 (1 :: selectionBytes widest))) 0 0x23 (req 0x23 (1 :: selectionBytes widest)) [] ∧
        widest.Taken ∧ (gallery.port 0).sub.isSome = true) ∧
      (NextRequest (asking gallery 1 (req 0x23 (1 :: selectionBytes lowest))) 1 0x23 (req 0x23 (1 :: selectionBytes lowest)) [] ∧
        lowest.Taken ∧ (gallery.port 1).sub = none) ∧
      (NextRequest (asking gallery 0 (req 0x23 (0 :: List.replicate 8 0xFF))) 0 0x23 (req 0x23 (0 :: List.replicate 8 0xFF)) [] ∧
        (List.replicate 8 (0xFF : Byte)).length = 8 ∧ (gallery.port 0).sub.isSome = true) := by
  refine ⟨⟨?_, widest_taken, ?_⟩, ⟨?_, lowest_taken, ?_⟩, ?_, ?_, ?_⟩ <;> (try unfold NextRequest) <;> decide +kernel

theorem meets_MarkSetsTheFlags :
    (NextRequest (asking gallery 1 (req 0x24 [0xFF])) 1 0x24 (req 0x24 [0xFF]) [] ∧
        ∀ z : ZoneId, (0xFF : Byte).getLsbD z.val = true → (asking gallery 1 (req 0x24 [0xFF])).may 1 z .observe = true) ∧
      (NextRequest (asking mute 1 (req 0x24 [0x80])) 1 0x24 (req 0x24 [0x80]) [] ∧
        ∃ z : ZoneId, (0x80 : Byte).getLsbD z.val = true ∧ (asking mute 1 (req 0x24 [0x80])).may 1 z .observe = false) := by
  unfold NextRequest; decide +kernel

theorem meets_WatchAndAttentionSettings_attention :
    (NextRequest (asking gallery 1 (req 0x28 [1, 0xFF, 0xFF, 0xFF, 0xFF, 1])) 1 0x28 (req 0x28 [1, 0xFF, 0xFF, 0xFF, 0xFF, 1]) [] ∧
        (req 0x28 [1, 0xFF, 0xFF, 0xFF, 0xFF, 1]).payload =
          u2 (0x1FF : AttnSet).toNat ++ [0xFF] ++ u2 (0xFFFF : CondSet).toNat ++ [u1 (modeCode .pulse)]) ∧
      (NextRequest (asking gallery 1 (req 0x29 [1, 0])) 1 0x29 (req 0x29 [1, 0]) [] ∧
        (req 0x29 [1, 0]).payload = u2 (0x100 : AttnSet).toNat) ∧
      (gallery.port 1).mode = .level := by
  unfold NextRequest; decide +kernel

/-- The gallery with 3573 bytes of records, after which a sample of 11 bytes leaves the reserve just free, and with one more. -/
def brim (last : Record) (n : Nat) : State :=
  { gallery with records := List.replicate n (.store .zero true true true) ++ [last] }

theorem meets_RecordsAreOfferedWithinCapacity :
    (gallery.anySubscribed = true ∧ ∃ x, (gallery.port 0).sub = some x ∧ x.lost ≤ 65535) ∧
      { gallery with ports := Vector.replicate 3 (gallery.port 1) }.anySubscribed = false ∧
      (brim (.excursionClose .zero 0 .lux { start := .zero, side := .high, peak := 0, peakTime := .zero } .returned) 444).used +
        11 + 512 = 4096 ∧
      (brim (.grant .zero none 0 .light none 0 true) 445).used + 11 + 512 = 4097 ∧
      (brim (.grant .zero none 0 .light none 0 true) 445).anySubscribed = true :=
  ⟨⟨by decide +kernel, _, rfl, by decide⟩, by decide +kernel, by decide +kernel, by decide +kernel, by decide +kernel⟩

/-! ### Zones, objects and the envelope -/

/-- A zone record at the upper ends of its ranges, ON with no node bound. -/
def fullZone : ZoneRec :=
  { ZoneRec.default with
      use := true
      eFull := 5000
      tc := 1000
      g := 3000
      filterCode := 5
      staleLimit := 16
      lightGrace := 600
      climateDec := 255
      lightDec := 255 }

/-- The record of Z0 of the gallery turned OFF. -/
def offZone : ZoneRec := { (gallery.zone 0).cfg with use := false }

/-- The gallery with Z0 OFF, and the LIGHT actuator SILENT. -/
def shut : State :=
  (gallery.modZone 0 fun zn => { zn with cfg := offZone }).modNode 0 fun nd => { nd with state := .silent }

/-- A frame of the configuration write `cmd` for the target, presence set and field bytes given. -/
def writeReq (cmd target : Byte) (mask : Nat) (bytes : List Byte) : Frame := req cmd (target :: (u2 mask ++ bytes))

theorem makes_fullZone (held : ZoneRec) : Makes zoneFields 0xFFFF held fullZone (zoneRecBytes fullZone) := by
  refine ⟨⟨by decide, ?_⟩, ?_⟩
  · rw [show named 0xFFFF = [1, 2, 3, 4, 5, 6, 7, 8, 9, 10, 11, 12, 13, 14, 15, 16] by decide]
    simp [zoneFields, fullZone]
  · intro n hn
    simp only [zoneFields]
    split <;> trivial

theorem meets_WriteZoneWritesTheRecord_full :
    NextRequest (asking gallery 0 (writeReq 0x10 0 0xFFFF (zoneRecBytes fullZone))) 0 0x10
        (writeReq 0x10 0 0xFFFF (zoneRecBytes fullZone)) [] ∧
      Makes zoneFields 0xFFFF (gallery.zone 0).cfg fullZone (zoneRecBytes fullZone) ∧ NodesFit gallery 0 0xFFFF fullZone ∧
      gallery.may 0 0 .envelope = true ∧ (gallery.zone 0).cfg.climateNode ≠ fullZone.climateNode ∧
      (gallery.zone 0).cfg.lightNode ≠ fullZone.lightNode ∧ (gallery.zone 0).cfg.act .light ≠ fullZone.act .light := by
  refine ⟨And.intro (by decide +kernel) (by decide), makes_fullZone _, ?_, by decide +kernel, by decide +kernel, by decide +kernel,
    by decide +kernel⟩
  intro k _ n h
  unfold ZoneRec.nodeAt at h
  split at h <;> cases h

/-- A write of the use field alone makes of a record the same record with that use. -/
theorem makes_use (held : ZoneRec) (b : Bool) : Makes zoneFields 1 held { held with use := b } (flag1 b) := by
  refine ⟨⟨by cases b <;> rfl, ?_⟩, ?_⟩
  · rw [show named 1 = [1] by decide]; simp [zoneFields]
  · intro n hn
    simp only [zoneFields]
    split <;> first | rfl | trivial

/-- It names no node field. -/
theorem use_fits (s : State) (z : ZoneId) (r : ZoneRec) : NodesFit s z 1 r := by
  intro k hk n h
  rw [show named 1 = [1] by decide, List.mem_singleton] at hk
  subst hk; cases h

theorem meets_WriteZoneWritesTheRecord_on :
    NextRequest (asking shut 0 (writeReq 0x10 0 1 [1])) 0 0x10 (writeReq 0x10 0 1 [1]) [] ∧
      Makes zoneFields 1 (shut.zone 0).cfg { (shut.zone 0).cfg with use := true } [1] ∧
      NodesFit shut 0 1 { (shut.zone 0).cfg with use := true } ∧ shut.may 0 0 .envelope = true ∧
      (shut.zone 0).cfg.use = false ∧ shut.supervised = true ∧
      (shut.zone 0).cfg.act .light = some 0 ∧ (shut.node 0).state = .silent ∧
      (shut.zone 0).cfg.act .shade = some 1 ∧ (shut.node 1).state ≠ .silent :=
  ⟨And.intro (by decide +kernel) (by decide), makes_use _ true, use_fits _ _ _, by decide +kernel, by decide +kernel,
    by decide +kernel, by decide +kernel, by decide +kernel, by decide +kernel, by decide +kernel⟩

theorem meets_WriteZoneWritesTheRecord_off :
    NextRequest (asking gallery 0 (writeReq 0x10 0 1 [0])) 0 0x10 (writeReq 0x10 0 1 [0]) [] ∧
      Makes zoneFields 1 (gallery.zone 0).cfg { (gallery.zone 0).cfg with use := false } [0] ∧
      NodesFit gallery 0 1 { (gallery.zone 0).cfg with use := false } ∧ gallery.may 0 0 .envelope = true ∧
      (gallery.zone 0).cfg.use = true :=
  ⟨And.intro (by decide +kernel) (by decide), makes_use _ false, use_fits _ _ _, by decide +kernel, by decide +kernel⟩

/-- A zone envelope at the ends of its ranges, and one with both bands inverted. -/
def wide : Envelope :=
  { tLo := -2000, tHi := 6000, rhLo := 0, rhHi := 10000, tSwing := 2000, rhSwing := 5000, lux := 5000, uv := 2000 }
def inverted : Envelope := { wide with tLo := 6000, tHi := 5999, rhLo := 10000, rhHi := 9999 }

theorem makes_envelope (held e : Envelope) (h : e = wide ∨ e = inverted) : Makes envelopeFields 0xFF held e (envelopeBytes e) := by
  refine ⟨⟨by rcases h with rfl | rfl <;> decide, ?_⟩, ?_⟩
  · rw [show named 0xFF = [1, 2, 3, 4, 5, 6, 7, 8] by decide]
    rcases h with rfl | rfl <;> simp [envelopeFields, wide, inverted]
  · intro n hn
    simp only [envelopeFields]
    split <;> trivial

/-- The envelope of Z1 with RHlo 5600 written alone, above its RHhi of 5500. -/
def crossed : Envelope := { (gallery.zone 1).env with rhLo := 5600 }

theorem meets_WriteEnvelopeWritesTheEnvelope :
    (NextRequest (asking gallery 0 (writeReq 0x11 0 0xFF (envelopeBytes wide))) 0 0x11
          (writeReq 0x11 0 0xFF (envelopeBytes wide)) [] ∧
        Makes envelopeFields 0xFF (gallery.zone 0).env wide (envelopeBytes wide) ∧ gallery.may 0 0 .envelope = true ∧
        wide.tLo ≤ wide.tHi ∧ wide.rhLo ≤ wide.rhHi) ∧
      (Makes envelopeFields 0xFF (gallery.zone 7).env inverted (envelopeBytes inverted) ∧ inverted.tHi < inverted.tLo) ∧
      (NextRequest (asking gallery 0 (writeReq 0x11 1 4 [0x15, 0xE0])) 0 0x11 (writeReq 0x11 1 4 [0x15, 0xE0]) [] ∧
        Makes envelopeFields 4 (gallery.zone 1).env crossed [0x15, 0xE0] ∧ gallery.may 0 1 .envelope = true ∧
        crossed.rhHi < crossed.rhLo) := by
  refine ⟨⟨And.intro (by decide +kernel) (by decide), makes_envelope _ _ (.inl rfl), by decide +kernel, by decide, by decide⟩,
    ⟨makes_envelope _ _ (.inr rfl), by decide⟩, And.intro (by decide +kernel) (by decide), ⟨⟨by decide +kernel, ?_⟩, ?_⟩,
    by decide +kernel, by decide +kernel⟩
  · rw [show named 4 = [3] by decide]; simp [envelopeFields, crossed]
  · intro n hn
    simp only [envelopeFields]
    split <;> first | rfl | trivial

/-- An object at the upper ends of its ranges, with every optional field and a label of 16 characters. -/
def fullObject : ObjConf :=
  { use := true, zone := 7, w := 2000, allowance := 10000000, slack := 100, restricted := 5000, exhausted := 5000,
    rhBand := some (0, 10000), rhSwing := some 5000, luxCeil := some 5000,
    label := [0x20, 0x7E, 0x41, 0x41, 0x41, 0x41, 0x41, 0x41, 0x41, 0x41, 0x41, 0x41, 0x41, 0x41, 0x41, 0x41] }

theorem makes_fullObject (held : ObjConf) : Makes objectFields 0x7FF held fullObject (objConfBytes fullObject) := by
  refine ⟨⟨by decide, ?_⟩, ?_⟩
  · rw [show named 0x7FF = [1, 2, 3, 4, 5, 6, 7, 8, 9, 10, 11] by decide]
    simp only [List.forall_mem_cons, objectFields]
    refine ⟨⟨by decide, trivial⟩, ⟨by decide, trivial⟩, by decide, by decide, by decide, by decide, by decide, ⟨by decide, ?_⟩,
      ⟨by decide, ?_⟩, ⟨by decide, ?_⟩, ⟨by decide, by decide, by decide⟩, by simp⟩
    · intro lo hi h; cases h; decide
    · intro x h; cases h; decide
    · intro x h; cases h; decide
  · intro n hn
    simp only [objectFields]
    split <;> trivial

theorem meets_WriteObjectWritesTheObject :
    (NextRequest (asking gallery 0 (writeReq 0x12 31 0x7FF (objConfBytes fullObject))) 0 0x12
          (writeReq 0x12 31 0x7FF (objConfBytes fullObject)) [] ∧
        Makes objectFields 0x7FF (gallery.object 31).cfg fullObject (objConfBytes fullObject) ∧
        gallery.may 0 (gallery.object 31).cfg.zone .envelope = true ∧ gallery.may 0 fullObject.zone .envelope = true) ∧
      (NextRequest (asking gallery 0 (writeReq 0x12 0 2 [7])) 0 0x12 (writeReq 0x12 0 2 [7]) [] ∧
        Makes objectFields 2 (gallery.object 0).cfg { (gallery.object 0).cfg with zone := 7 } [7] ∧
        (gallery.object 0).cfg.zone = 0) := by
  refine ⟨⟨And.intro (by decide +kernel) (by decide), makes_fullObject _, by decide +kernel, by decide +kernel⟩,
    And.intro (by decide +kernel) (by decide), ⟨⟨by decide, ?_⟩, ?_⟩, by decide +kernel⟩
  · rw [show named 2 = [2] by decide]; simp [objectFields]
  · intro n hn
    simp only [objectFields]
    split <;> first | rfl | trivial

theorem meets_WritesNeedRightsAndEmptyOnesRead_rights :
    (NextRequest (asking gallery 0 (req 0x12 [0, 0])) 0 0x12 (req 0x12 [0, 0]) [] ∧ (req 0x12 [0, 0]).payload.length < 3) ∧
      (NextRequest (asking gallery 0 (writeReq 0x12 32 1 [])) 0 0x12 (writeReq 0x12 32 1 []) [] ∧ 32 ≤ (32 : Byte).toNat) ∧
      (NextRequest (asking gallery 0 (writeReq 0x10 8 0 [])) 0 0x10 (writeReq 0x10 8 0 []) [] ∧ 8 ≤ (8 : Byte).toNat) ∧
      (NextRequest (asking gallery 1 (writeReq 0x10 7 0xFFFF [])) 1 0x10 (writeReq 0x10 7 0xFFFF []) [] ∧
        gallery.may 1 7 .envelope = false) ∧
      (NextRequest (asking gallery 1 (writeReq 0x11 0 0 [9])) 1 0x11 (writeReq 0x11 0 0 [9]) [] ∧ gallery.may 1 0 .observe = true) ∧
      (NextRequest (asking mute 1 (writeReq 0x12 0 0 [])) 1 0x12 (writeReq 0x12 0 0 []) [] ∧
        mute.may 1 (mute.object 0).cfg.zone .observe = false) ∧
      (gallery.may 1 (gallery.object 31).cfg.zone .envelope = false) := by
  unfold NextRequest; decide +kernel

/-- The gallery in which P1 has ENVELOPE in Z0 alone. -/
def half : State := gallery.modPort 1 fun pt => { pt with rights := pt.rights.set 0 0xF }

theorem meets_WritesNeedRightsAndEmptyOnesRead_fields :
    (gallery.may 0 0 .envelope = true ∧ ∀ r, ¬ Spells zoneFields 1 r [2]) ∧
      (∀ e, ¬ Spells envelopeFields 0x100 e []) ∧
      (newZoneByte 3 [1, 7] = some (u1 (7 : ZoneId).val) ∧ half.may 1 7 .envelope = false ∧
        half.may 1 (half.object 0).cfg.zone .envelope = true) ∧
      (MayWriteObject half 1 0 0x10 [101] ∧ ∀ c, ¬ Spells objectFields 0x10 c [101]) := by
  refine ⟨⟨by decide +kernel, ?_⟩, ?_, by decide +kernel, ⟨⟨by decide +kernel, ?_⟩, ?_⟩⟩
  · rintro r ⟨h, -⟩
    rw [show named 1 = [1] by decide] at h
    cases hu : r.use <;> simp [zoneFields, flag1, hu] at h
  · rintro e ⟨-, h⟩
    exact absurd (h 9 (by decide)).1 (by decide)
  · intro z h; cases h
  · rintro c ⟨h, hr⟩
    rw [show named 0x10 = [5] by decide] at h hr
    have hs : c.slack ≤ 100 := (hr 5 (by simp)).2
    simp only [objectFields, List.flatMap_cons, List.flatMap_nil, List.append_nil, List.cons.injEq, and_true] at h
    have := congrArg BitVec.toNat h
    simp [u1] at this
    omega

/-- A write of Z1's climate node as the node that Z0 binds, and one as a light sensor. -/
theorem meets_WritesNeedRightsAndEmptyOnesRead_nodes :
    Makes zoneFields 2 (gallery.zone 1).cfg { (gallery.zone 1).cfg with climateNode := some 4 } [5] ∧ 2 ∈ named 2 ∧
      gallery.may 0 1 .envelope = true ∧ ¬ NodeFits gallery 1 2 4 ∧ ¬ NodeFits gallery 0 2 5 := by
  refine ⟨⟨⟨by decide, ?_⟩, ?_⟩, by decide, by decide +kernel, ?_, ?_⟩
  · rw [show named 2 = [2] by decide]; simp [zoneFields]
  · intro n hn
    simp only [zoneFields]
    split <;> first | rfl | trivial
  · exact fun h => absurd (h.2 0 (by decide)) (by decide +kernel)
  · exact fun h => absurd h.1 (by decide +kernel)

/-- The gallery with an object of every limit ON in Z7, AHEAD. -/
def hung : State := gallery.modObject 31 fun ob => { ob with cfg := fullObject, pace := .ahead }

theorem meets_EffectiveEnvelopeIsTightest :
    (hung.object 31).cfg.use = true ∧ (hung.object 31).cfg.zone = 7 ∧ (hung.object 31).cfg.rhBand = some (0, 10000) ∧
      (hung.object 31).cfg.rhSwing = some 5000 ∧ (hung.object 31).cfg.luxCeil = some 5000 ∧ 0 < (hung.object 31).cfg.w := by
  decide +kernel

theorem meets_ZoneCeilingIsTheLeast :
    (hung.object 31).cfg.use = true ∧ (hung.object 31).cfg.zone = 7 ∧ 0 < (hung.object 31).cfg.w ∧
      (hung.object 31).pace = .ahead ∧ 2500 = (hung.object 31).cfg.restricted * 1000 / (hung.object 31).cfg.w := by
  decide +kernel

/-! ### Readings and prediction -/

theorem meets_FilterFollowsTheSample :
    (5 ≤ 5 ∧ (gallery.zone 0).est.seeded = true ∧ (gallery.zone 0).est.filt = some (2000, 5300)) ∧
      (0 ≤ 5 ∧ (gallery.zone 7).est.seeded = false) := by decide +kernel

theorem meets_RhTransferBehaves : ((0 : Int) ≤ 0 ∧ (0 : Int) ≤ 10000) ∧ ((0 : Int) ≤ 10000 ∧ (10000 : Int) ≤ 10000) ∧
    (-4000 : Int) ≤ 8500 := by decide

theorem meets_MoistClampKeepsTheInterval :
    (moistInterval { lo := 4600, hi := 5400 } 5000 100 1200 = some { lo := 67, hi := 100 } ∧ 0 < 1200) ∧
      (moistInterval { lo := 4600, hi := 5400 } 0 0 1200 = none ∧ 0 < 1200) ∧
      (moistInterval { lo := 4600, hi := 5400 } 5000 0 0 = some { lo := -100, hi := 100 }) ∧
      moistInterval { lo := 4600, hi := 5400 } 0 0 0 = none := by decide +kernel

/-- The gallery with Z0's climate sensor STALE and the HEAT and MOIST values given granted. -/
def blind (heat moist : Option Int) : State :=
  ((gallery.modNode 4 fun nd => { nd with state := .stale }).modChan 0 .heat fun c => { c with granted := heat }).modChan 0 .moist
    fun c => { c with granted := moist }

theorem meets_BlindStepsAreSmall :
    ((blind none none).usable 0 = false ∧ ((blind none none).zone 0).eff.tLo ≤ ((blind none none).zone 0).eff.tHi ∧
        ((blind none none).chan 0 .heat).granted = none ∧ ((blind none none).chan 0 .moist).granted = none) ∧
      ((blind (some 1750) (some (-100))).usable 0 = false ∧ ((blind (some 1750) (some (-100))).chan 0 .heat).granted = some 1750 ∧
        ((blind (some 1750) (some (-100))).zone 0).eff.tLo - 50 ≤ 1750 ∧
        ((blind (some 1750) (some (-100))).chan 0 .moist).granted = some (-100)) ∧
      ((blind (some 1749) none).usable 0 = false ∧ (1749 : Int) < ((blind (some 1749) none).zone 0).eff.tLo - 50) ∧
      ((blind (some 2451) none).usable 0 = false ∧ ((blind (some 2451) none).zone 0).eff.tHi + 50 < (2451 : Int)) := by
  decide +kernel

theorem meets_LightClampsStayUnderCeiling :
    ((z3Light 39 0).dpart 40 ≤ (z3Light 39 0).ceiling ∧ 0 < (z3Light 39 0).eFull) ∧
      ({ z3Light 39 0 with eFull := 0 }.dpart 40 ≤ 39 ∧ { z3Light 39 0 with eFull := 0 }.eFull = 0) ∧
      (z3Light 38 0).ceiling < (z3Light 38 0).dpart 40 ∧
      ((z3Light 125 289).d0Status ≠ .unknown ∧ (z3Light 125 289).tc ≠ 1000 ∧ (100 : Nat) ≤ 100 ∧
        ((z3Light 125 289).run (some 289) (some 100)).shade = some 100) ∧
      (((z3Light 125 289).run none (some 0)).shade = some 40 ∧ ((z3Light 125 289).run (some 800) none).light = some 289) ∧
      ({ z3Light 125 289 with tc := 1000 }.d0Status ≠ .unknown ∧ { z3Light 125 289 with tc := 1000 }.tc = 1000) := by
  decide +kernel

theorem meets_LightClampsStayUnderCeiling_unknown :
    { z3Light 125 289 with d0Status := .unknown }.d0Status = .unknown ∧ ∀ q, some (100 : Nat) = some q → q ≤ 100 :=
  ⟨rfl, fun _ h => by cases h; exact Nat.le_refl _⟩

/-! ### Admission -/

/-- SET_POINT frames for Z0: LIGHT at the greatest value that can be sent, MOIST at the least, HEAT at 20.00 and at 18.50 °C. -/
def spLight : Frame := req 0x01 (setPointBytes 0 .light 32767)
def spMoist : Frame := req 0x01 (setPointBytes 0 .moist (-32767))
def spHeat : Frame := req 0x01 (setPointBytes 0 .heat 1850)

theorem meets_SetPointIsGranted :
    (NextRequest (asking gallery 0 spLight) 0 0x01 spLight [] ∧ Sendable 32767 ∧ (gallery.port 0).link = none ∧
        PassesToCheckFour (asking gallery 0 spLight) 0 0 .light ∧ isClimate .light = false ∧
        ((asking gallery 0 spLight).evaluate 0 (.only .light 32767)).pass = true) ∧
      (NextRequest (asking gallery 0 spMoist) 0 0x01 spMoist [] ∧ Sendable (-32767) ∧
        PassesToCheckFour (asking gallery 0 spMoist) 0 0 .moist ∧ ((asking gallery 0 spMoist).zone 0).conflict = false ∧
        ((asking gallery 0 spMoist).evaluate 0 (.only .moist (-32767))).pass = true) := by
  unfold NextRequest Sendable PassesToCheckFour; decide +kernel

/-- Z0 in CONFLICT. -/
def torn : State := gallery.modZone 0 fun zn => { zn with conflict := true }

theorem meets_SetPointIsRefusedAtFirstFailure_early :
    (NextRequest (asking { gallery with supervised := false } 0 spLight) 0 0x01 spLight [] ∧
        firstFailed (asking { gallery with supervised := false } 0 spLight) 0 0 .light = some .standby) ∧
      (NextRequest (asking gallery 0 (req 0x01 (setPointBytes 7 .light 0))) 0 0x01 (req 0x01 (setPointBytes 7 .light 0)) [] ∧
        firstFailed (asking gallery 0 (req 0x01 (setPointBytes 7 .light 0))) 0 7 .light = some .noChannel) ∧
      (NextRequest (asking gallery 1 spLight) 1 0x01 spLight [] ∧
        firstFailed (asking gallery 1 spLight) 1 0 .light = some .noRight) ∧
      (NextRequest (asking lit 0 spLight) 0 0x01 spLight [] ∧ firstFailed (asking lit 0 spLight) 0 0 .light = some .notTenured) ∧
      Sendable 32767 ∧ (lit.port 0).link = none := by
  unfold NextRequest Sendable; decide +kernel

theorem meets_SetPointIsRefusedAtFirstFailure_late :
    (NextRequest (asking torn 0 spHeat) 0 0x01 spHeat [] ∧ firstFailed (asking torn 0 spHeat) 0 0 .heat = none ∧
        isClimate .heat = true ∧ ((asking torn 0 spHeat).zone 0).conflict = true) ∧
      (NextRequest (asking gallery 0 spHeat) 0 0x01 spHeat [] ∧ firstFailed (asking gallery 0 spHeat) 0 0 .heat = none ∧
        ((asking gallery 0 spHeat).zone 0).conflict = false ∧
        ((asking gallery 0 spHeat).evaluate 0 (.only .heat 1850)).pass = false) := by
  unfold NextRequest; decide +kernel

/-- A SET_POINT frame with the absent encoding for its value. -/
def spNone : Frame := req 0x01 [0, 0, 0x80, 0]

theorem spNone_misspelt : Misspelt spNone := by
  intro z ch v hv h
  have hb : [(0x80 : Byte), 0] = s2 v := by
    simp only [spNone, req, setPointBytes, List.cons_append, List.nil_append, List.cons.injEq] at h
    exact h.2.2
  obtain ⟨h1, h2⟩ := hv
  simp only [s2, u2, List.cons.injEq, and_true] at hb
  have e1 := congrArg BitVec.toNat hb.1
  have e2 := congrArg BitVec.toNat hb.2
  simp [u1] at e1 e2
  omega

theorem meets_SetPointIsRefusedAtFirstFailure_misspelt :
    NextRequest (asking gallery 0 spNone) 0 0x01 spNone [] ∧ ((asking gallery 0 spNone).port 0).link = none ∧ Misspelt spNone :=
  ⟨And.intro (by decide +kernel) (by decide), by decide +kernel, spNone_misspelt⟩

/-- The gallery with `openSet` open on P0, two requests left. -/
def linked : State := withLink gallery 0 (some { openSet with remaining := 2 })

theorem meets_SetPointJoinsOrBreaksAnOpenSet_joins :
    (NextRequest (asking linked 0 spLight) 0 0x01 spLight [] ∧ Sendable 32767 ∧
        ((asking linked 0 spLight).port 0).link = some { openSet with remaining := 2 } ∧
        PassesToCheckFour (asking linked 0 spLight) 0 0 .light ∧ { openSet with remaining := 2 }.zone = some 0 ∧
        ∀ m ∈ { openSet with remaining := 2 }.members, m.ch ≠ .light) ∧
      (NextRequest (asking (withLink gallery 0 (some emptySet)) 0 spLight) 0 0x01 spLight [] ∧
        PassesToCheckFour (asking (withLink gallery 0 (some emptySet)) 0 spLight) 0 0 .light ∧ emptySet.zone = none ∧
        ∀ m ∈ emptySet.members, m.ch ≠ .light) := by
  unfold NextRequest Sendable PassesToCheckFour; decide +kernel

theorem meets_SetPointJoinsOrBreaksAnOpenSet_breaks :
    (NextRequest (asking linked 0 spNone) 0 0x01 spNone [] ∧
        ((asking linked 0 spNone).port 0).link = some { openSet with remaining := 2 }) ∧
      firstFailed (asking (withLink gallery 1 (some openSet)) 1 spLight) 1 0 .light = some .noRight ∧
      (PassesToCheckFour (asking linked 0 spMoist) 0 0 .moist ∧ ∃ m ∈ { openSet with remaining := 2 }.members, m.ch = .moist) ∧
      ∃ z', { openSet with zone := some 1 }.zone = some z' ∧ z' ≠ 0 := by
  refine ⟨And.intro (And.intro (by decide +kernel) (by decide)) (by decide +kernel), by decide +kernel, ⟨?_, ?_⟩, 1, rfl, by decide⟩
  · unfold PassesToCheckFour; decide +kernel
  · exact ⟨_, List.mem_singleton.2 rfl, rfl⟩

theorem meets_LinkedSetIsAllOrNothing :
    (linked.port 0).link = some { openSet with remaining := 2 } ∧ { openSet with remaining := 2 }.WellFormed ∧
      { openSet with remaining := 2 }.zone = some 0 ∧ { openSet with remaining := 2 }.members ≠ [] := by
  unfold LinkRecord.WellFormed; decide +kernel

/-- A set of P0 open on Z0 with one member. -/
def oneMember (ch : ChanKind) (v : Int) : LinkRecord :=
  { remaining := 1, zone := some 0, members := [{ tag := 3, ch := ch, value := v }], expiry := 0 }

/-- A set that fails a re-check, one that passes its evaluation, and one that fails it. -/
theorem meets_LinkedSetIsAllOrNothing_outcomes :
    firstCulprit (withLink torn 0 (some (oneMember .moist 40))) 0 0 (oneMember .moist 40) = some (.moist, .conflict) ∧
      (firstCulprit linked 0 0 { openSet with remaining := 2 } = none ∧
        (linked.evaluate 0 { openSet with remaining := 2 }.values).pass = true) ∧
      (firstCulprit (withLink gallery 0 (some (oneMember .heat 1850))) 0 0 (oneMember .heat 1850) = none ∧
        ((withLink gallery 0 (some (oneMember .heat 1850))).evaluate 0 (oneMember .heat 1850).values).pass = false) := by
  decide +kernel

theorem meets_LinkOpensCountsAndTimesOut_request :
    (NextRequest (asking gallery 0 (req 0x02 [0])) 0 0x02 (req 0x02 [0]) [] ∧ ((0 : Byte).toNat = 0 ∨ 4 < (0 : Byte).toNat) ∧
        (gallery.port 0).link = none) ∧
      (NextRequest (asking linked 0 (req 0x02 [5])) 0 0x02 (req 0x02 [5]) [] ∧ ((5 : Byte).toNat = 0 ∨ 4 < (5 : Byte).toNat) ∧
        ((asking linked 0 (req 0x02 [5])).port 0).link = some { openSet with remaining := 2 }) ∧
      (NextRequest (asking { gallery with supervised := false } 0 (req 0x02 [1])) 0 0x02 (req 0x02 [1]) [] ∧
        1 ≤ (1 : Byte).toNat ∧ (1 : Byte).toNat ≤ 4 ∧ (asking { gallery with supervised := false } 0 (req 0x02 [1])).supervised = false) ∧
      (NextRequest (asking gallery 0 (req 0x02 [4])) 0 0x02 (req 0x02 [4]) [] ∧ 1 ≤ (4 : Byte).toNat ∧ (4 : Byte).toNat ≤ 4 ∧
        (asking gallery 0 (req 0x02 [4])).supervised = true ∧ ((asking gallery 0 (req 0x02 [4])).port 0).link = none) ∧
      (NextRequest (asking linked 0 (req 0x02 [1])) 0 0x02 (req 0x02 [1]) [] ∧ (asking linked 0 (req 0x02 [1])).supervised = true ∧
        ((asking linked 0 (req 0x02 [1])).port 0).link = some { openSet with remaining := 2 }) := by
  unfold NextRequest; decide +kernel

theorem meets_LinkOpensCountsAndTimesOut_count :
    (gallery.port 0).link = none ∧
      (((withLink gallery 0 (some { openSet with remaining := 2 })).port 0).link = some { openSet with remaining := 2 } ∧
        2 ≤ { openSet with remaining := 2 }.remaining) ∧
      (((withLink gallery 0 (some emptySet)).port 0).link = some emptySet ∧ emptySet.remaining = 1 ∧ emptySet.members = []) ∧
      (((withLink gallery 0 (some openSet)).port 0).link = some openSet ∧ openSet.remaining = 1) := by decide +kernel

theorem meets_LinkOpensCountsAndTimesOut_timeout :
    (gallery.port 0).link = none ∧
      (((withLink gallery 0 (some emptySet)).port 0).link = some emptySet ∧ emptySet.expiry ≤ gallery.crystal ∧
        emptySet.members = []) ∧
      ((linked.port 0).link = some { openSet with remaining := 2 } ∧
        { openSet with remaining := 2 }.expiry ≤ linked.crystal ∧
        { openSet with remaining := 2 }.members.getLast? = some { tag := 3, ch := .moist, value := 40 }) ∧
      (((withLink gallery 0 (some { openSet with expiry := 1 })).port 0).link = some { openSet with expiry := 1 } ∧
        gallery.crystal < { openSet with expiry := 1 }.expiry) := by decide +kernel

theorem meets_ClearConditionsClearsSticky :
    (NextRequest (asking gallery 0 (req 0x05 [7, 0xFF, 0xFF])) 0 0x05 (req 0x05 [7, 0xFF, 0xFF]) [] ∧
        (req 0x05 [7, 0xFF, 0xFF]).payload = 7 :: u2 (0xFFFF : CondSet).toNat ∧ (7 : Byte) = u1 (7 : ZoneId).val ∧
        (asking gallery 0 (req 0x05 [7, 0xFF, 0xFF])).may 0 7 .envelope = true) ∧
      (NextRequest (asking gallery 1 (req 0x05 [0, 0, 0])) 1 0x05 (req 0x05 [0, 0, 0]) [] ∧
        (req 0x05 [0, 0, 0]).payload = 0 :: u2 (0 : CondSet).toNat ∧
        (asking gallery 1 (req 0x05 [0, 0, 0])).may 1 0 .envelope = false) ∧
      (NextRequest (asking gallery 0 (req 0x05 [8, 0, 1])) 0 0x05 (req 0x05 [8, 0, 1]) [] ∧
        (req 0x05 [8, 0, 1]).payload = 8 :: u2 (1 : CondSet).toNat ∧ 8 ≤ (8 : Byte).toNat) := by
  unfold NextRequest; decide +kernel

/-! ### Tenure -/

theorem meets_TakeTenureByTheChannelsState :
    (NextRequest (asking gallery 0 (req 0x03 [0, 3, 0])) 0 0x03 (req 0x03 [0, 3, 0]) [] ∧
        (asking gallery 0 (req 0x03 [0, 3, 0])).may 0 0 (chanRight .moist) = true ∧
        ((asking gallery 0 (req 0x03 [0, 3, 0])).chan 0 .moist).holder = none) ∧
      (NextRequest (asking lit 0 (req 0x03 [0, 0, 1])) 0 0x03 (req 0x03 [0, 0, 1]) [] ∧
        (asking lit 0 (req 0x03 [0, 0, 1])).may 0 0 (chanRight .light) = true ∧
        ((asking lit 0 (req 0x03 [0, 0, 1])).chan 0 .light).holder = some 1 ∧ (lit.port 0).role = .conservation) ∧
      (NextRequest (asking lit 0 (req 0x03 [0, 0, 0])) 0 0x03 (req 0x03 [0, 0, 0]) [] ∧
        (asking lit 0 (req 0x03 [0, 0, 0])).may 0 0 (chanRight .light) = true ∧
        ((asking lit 0 (req 0x03 [0, 0, 0])).chan 0 .light).holder = some 1 ∧ (1 : PortId) ≠ 0) := by
  unfold NextRequest; decide +kernel

/-- The lit gallery in which P0 holds Z0 LIGHT. -/
def mine : State := lit.modChan 0 .light fun c => { c with holder := some 0 }

theorem meets_TakeTenureByTheChannelsState_own :
    NextRequest (asking mine 0 (req 0x03 [0, 0, 1])) 0 0x03 (req 0x03 [0, 0, 1]) [] ∧
      (asking mine 0 (req 0x03 [0, 0, 1])).may 0 0 (chanRight .light) = true ∧
      ((asking mine 0 (req 0x03 [0, 0, 1])).chan 0 .light).holder = some 0 := by
  unfold NextRequest; decide +kernel

theorem meets_TakeTenureByTheChannelsState_refused :
    (NextRequest (asking gallery 1 (req 0x03 [0, 3, 1])) 1 0x03 (req 0x03 [0, 3, 1]) [] ∧
        (req 0x03 [0, 3, 1]).payload = [u1 (0 : ZoneId).val, u1 (chanIdx .moist).val, if true then 1 else 0] ∧
        (asking gallery 1 (req 0x03 [0, 3, 1])).may 1 0 (chanRight .moist) = false) ∧
      (NextRequest (asking gallery 1 (req 0x03 [8, 3, 1])) 1 0x03 (req 0x03 [8, 3, 1]) [] ∧ 8 ≤ (8 : Byte).toNat) ∧
      (NextRequest (asking gallery 1 (req 0x03 [7, 4, 1])) 1 0x03 (req 0x03 [7, 4, 1]) [] ∧ 4 ≤ (4 : Byte).toNat) ∧
      (NextRequest (asking gallery 1 (req 0x03 [7, 3, 2])) 1 0x03 (req 0x03 [7, 3, 2]) [] ∧ 2 ≤ (2 : Byte).toNat) := by
  unfold NextRequest; decide +kernel

theorem meets_ReleaseAndLapsePassTheChannelOn_release :
    (NextRequest (asking lit 1 (req 0x04 [0, 0])) 1 0x04 (req 0x04 [0, 0]) [] ∧
        (req 0x04 [0, 0]).payload = [u1 (0 : ZoneId).val, u1 (chanIdx .light).val] ∧
        ((asking lit 1 (req 0x04 [0, 0])).chan 0 .light).holder = some 1) ∧
      (NextRequest (asking lit 2 (req 0x04 [0, 0])) 2 0x04 (req 0x04 [0, 0]) [] ∧
        ((asking lit 2 (req 0x04 [0, 0])).chan 0 .light).holder ≠ some 2) := by
  unfold NextRequest; decide +kernel

theorem meets_ReleaseAndLapsePassTheChannelOn_lapse :
    ¬ Lapses gallery 0 .light ∧ Lapses lit 0 .light ∧ lit.hold .light = lit.clock.since (lit.chan 0 .light).lastActivity ∧
      (lit.chan 0 .light).holder = some 1 ∧ (lit.chan 0 .light).waiters = 2 :: [] := by
  unfold Lapses; decide +kernel

theorem meets_SetHoldReplacesTheTime :
    (NextRequest (asking lit 0 (req 0x37 [0, 0, 1])) 0 0x37 (req 0x37 [0, 0, 1]) [] ∧
        (req 0x37 [0, 0, 1]).payload = u1 (chanIdx .light).val :: u2 1 ∧ (lit.port 0).role = .conservation ∧ 1 ≤ 3600 ∧
        Lapses { (asking lit 0 (req 0x37 [0, 0, 1])) with
          holds := (asking lit 0 (req 0x37 [0, 0, 1])).holds.set (chanIdx .light) 1 } 0 .light) ∧
      (NextRequest (asking lit 0 (req 0x37 [3, 0x0E, 0x10])) 0 0x37 (req 0x37 [3, 0x0E, 0x10]) [] ∧
        (req 0x37 [3, 0x0E, 0x10]).payload = u1 (chanIdx .moist).val :: u2 3600 ∧ 3600 ≤ 3600) ∧
      (NextRequest (asking lit 0 (req 0x37 [3, 0x0E, 0x11])) 0 0x37 (req 0x37 [3, 0x0E, 0x11]) [] ∧
        (req 0x37 [3, 0x0E, 0x11]).payload = u1 (chanIdx .moist).val :: u2 3601 ∧ 3600 < 3601 ∧ 3601 < 0x10000) := by
  unfold NextRequest Lapses; decide +kernel

/-! ### System commands -/

theorem meets_SuperviseChangesSupervision :
    (NextRequest (asking gallery 0 (req 0x30 [1])) 0 0x30 (req 0x30 [1]) [] ∧ (gallery.port 0).role = .conservation ∧
        gallery.supervised = true) ∧
      (NextRequest (asking { gallery with supervised := false } 0 (req 0x30 [1])) 0 0x30 (req 0x30 [1]) [] ∧
        (gallery.zone 0).cfg.use = true ∧ (gallery.zone 0).cfg.act .light = some 0 ∧ (gallery.node 0).state ≠ .silent) ∧
      (NextRequest (asking linked 0 (req 0x30 [0])) 0 0x30 (req 0x30 [0]) [] ∧ (linked.port 0).role = .conservation ∧
        linked.supervised = true) ∧
      (NextRequest (asking { gallery with supervised := false } 0 (req 0x30 [0])) 0 0x30 (req 0x30 [0]) [] ∧
        { gallery with supervised := false }.supervised = false) := by
  unfold NextRequest; decide +kernel

theorem meets_SetClockMovesEveryBlock :
    (NextRequest (asking gallery 0 (req 0x31 [0xFF, 0xFF, 1, 0x51, 0x7F])) 0 0x31 (req 0x31 [0xFF, 0xFF, 1, 0x51, 0x7F]) [] ∧
        (req 0x31 [0xFF, 0xFF, 1, 0x51, 0x7F]).payload = u2 65535 ++ u3 86399 ∧ 65535 < 0x10000 ∧ 86399 < 0x1000000 ∧
        (gallery.port 0).role = .conservation ∧ 86399 ≤ 86399) ∧
      (NextRequest (asking gallery 0 (req 0x31 [0, 0, 1, 0x51, 0x80])) 0 0x31 (req 0x31 [0, 0, 1, 0x51, 0x80]) [] ∧
        (req 0x31 [0, 0, 1, 0x51, 0x80]).payload = u2 0 ++ u3 86400 ∧ 86399 < 86400) := by
  unfold NextRequest; decide +kernel

/-- The gallery with the writer in the section given, and a pending save or checkpoint. -/
def writing (w : Option Writing) (save check : Bool) : State :=
  { gallery with store := { gallery.store with writing := w, pendingSave := save, pendingCheck := check } }

theorem meets_StoreKeepsOnlyVerifiedSections :
    (NextRequest (asking gallery 0 (req 0x32 [])) 0 0x32 (req 0x32 []) [] ∧ (gallery.port 0).role = .conservation ∧
        gallery.store.writing = none) ∧
      (NextRequest (asking (writing (some (.checkpoint gallery.doseImage)) false false) 0 (req 0x32 [])) 0 0x32 (req 0x32 []) [] ∧
        (writing (some (.checkpoint gallery.doseImage)) false false).store.writing.isSome = true) ∧
      (writing (some (.saveConfig gallery.configImage)) false false).store.writing = some (.saveConfig gallery.configImage) ∧
      ((writing (some (.saveDose gallery.doseImage false)) true true).store.writing = some (.saveDose gallery.doseImage false) ∧
        (writing (some (.saveDose gallery.doseImage false)) true true).store.pendingSave = true) ∧
      ((writing (some (.checkpoint gallery.doseImage)) false true).store.writing = some (.checkpoint gallery.doseImage) ∧
        (writing (some (.checkpoint gallery.doseImage)) false true).store.pendingSave = false ∧
        (writing (some (.checkpoint gallery.doseImage)) false true).store.pendingCheck = true) ∧
      ((writing (some (.checkpoint gallery.doseImage)) false false).store.pendingSave = false ∧
        (writing (some (.checkpoint gallery.doseImage)) false false).store.pendingCheck = false) := by
  refine ⟨?_, ?_, rfl, ⟨rfl, rfl⟩, ⟨rfl, rfl, rfl⟩, rfl, rfl⟩ <;> unfold NextRequest <;> decide +kernel

theorem meets_WriteAuthorityActsOnTenure :
    (NextRequest (asking mine 0 (req 0x33 [0, 0xFF, 8])) 0 0x33 (req 0x33 [0, 0xFF, 8]) [] ∧
        (req 0x33 [0, 0xFF, 8]).payload = [u1 (0 : PortId).val, 0xFF, u1 (8 : RightSet).toNat] ∧
        (mine.port 0).role = .conservation ∧ (0xFF : Byte) ≠ 0 ∧ hasRight 8 .envelope = true ∧
        mine.may 0 0 (chanRight .light) = true ∧ hasRight 8 (chanRight .light) = false) ∧
      (NextRequest (asking mine 0 (req 0x33 [2, 0, 15])) 0 0x33 (req 0x33 [2, 0, 15]) [] ∧
        (req 0x33 [2, 0, 15]).payload = [u1 (2 : PortId).val, 0, u1 (15 : RightSet).toNat]) ∧
      (NextRequest (asking mine 0 (req 0x33 [0, 1, 7])) 0 0x33 (req 0x33 [0, 1, 7]) [] ∧
        (req 0x33 [0, 1, 7]).payload = [u1 (0 : PortId).val, 1, u1 (7 : RightSet).toNat] ∧ hasRight 7 .envelope = false) := by
  unfold NextRequest; decide +kernel

theorem meets_WriteNodeChangesTheEntry :
    (NextRequest (asking gallery 0 (req 0x34 [5, 1, 0])) 0 0x34 (req 0x34 [5, 1, 0]) [] ∧ 0 ≤ 7 ∧
        (gallery.port 0).role = .conservation ∧ (gallery.node 4).kind = .climateSensor ∧ isSensor .climateSensor = true ∧
        (gallery.node 4).code ≠ 0) ∧
      (NextRequest (asking gallery 0 (req 0x34 [32, 2, 7])) 0 0x34 (req 0x34 [32, 2, 7]) [] ∧ 7 ≤ 7 ∧
        gallery.boundZone 31 = none ∧ (gallery.node 31).kind ≠ .lightSensor ∧ isSensor .lightSensor = true) ∧
      (NextRequest (asking gallery 0 (req 0x34 [1, 4, 0])) 0 0x34 (req 0x34 [1, 4, 0]) [] ∧ (gallery.node 0).kind ≠ .shadeAct ∧
        gallery.boundZone 0 ≠ none) ∧
      (NextRequest (asking gallery 0 (req 0x34 [32, 3, 1])) 0 0x34 (req 0x34 [32, 3, 1]) [] ∧ isSensor .lightAct = false ∧
        (1 : Nat) ≠ 0) := by
  unfold NextRequest; decide +kernel

theorem meets_DoseAndPeriodCorrections :
    (NextRequest (asking gallery 0 (req 0x35 [31, 0x05, 0xF5, 0xE0, 0xFF])) 0 0x35 (req 0x35 [31, 0x05, 0xF5, 0xE0, 0xFF]) [] ∧
        (gallery.port 0).role = .conservation ∧
        (req 0x35 [31, 0x05, 0xF5, 0xE0, 0xFF]).payload = u1 (31 : ObjId).val :: u4 99999999 ∧ 99999999 ≤ 99999999) ∧
      (NextRequest (asking gallery 0 (req 0x36 [1, 0x90, 1, 0, 10])) 0 0x36 (req 0x36 [1, 0x90, 1, 0, 10]) [] ∧
        (req 0x36 [1, 0x90, 1, 0, 10]).payload = u2 400 ++ [if true then 1 else 0] ++ u2 10 ∧ 1 ≤ 400 ∧ 400 ≤ 400 ∧
        10 < 0x10000 ∧ 10 ≤ gallery.clock.day) ∧
      (NextRequest (asking gallery 0 (req 0x36 [0, 1, 1, 0, 11])) 0 0x36 (req 0x36 [0, 1, 1, 0, 11]) [] ∧
        (req 0x36 [0, 1, 1, 0, 11]).payload = u2 1 ++ [if true then 1 else 0] ++ u2 11 ∧ gallery.clock.day < 11) ∧
      (NextRequest (asking gallery 0 (req 0x36 [0, 1, 0, 0xFF, 0xFF])) 0 0x36 (req 0x36 [0, 1, 0, 0xFF, 0xFF]) [] ∧
        (req 0x36 [0, 1, 0, 0xFF, 0xFF]).payload = u2 1 ++ [if false then 1 else 0] ++ u2 65535 ∧ 65535 < 0x10000) := by
  unfold NextRequest; decide +kernel

theorem meets_DoseChargesAndPace :
    (99999998 + (3599 + 1) / 3600 ≤ 99999999 ∧ 99999999 ≤ 99999998 + (3599 + 1) / 3600) ∧ (1 ≤ 1 ∧ 1 * 86400 ≤ 86400) := by
  decide

/-! ### Time -/

theorem meets_ClockSecondAdvances :
    ({ gallery with clock := clockEnd }.clock.sec ≤ 86399 ∧ { gallery with clock := clockEnd }.clock.day ≤ 65535 ∧
        { gallery with clock := clockEnd }.clock = { day := 65535, sec := 86399 }) ∧
      (gallery.clock.sec ≤ 86399 ∧ gallery.clock.day ≤ 65535 ∧ gallery.clock ≠ { day := 65535, sec := 86399 }) := by
  decide +kernel

/-- The gallery at the start of day `day`, with that minute and five-minute mark waiting and a period of ten days. -/
def dawn (day : Nat) : State :=
  { gallery with
      clock := { day := day, sec := 0 }
      minuteMarks := [{ day := day, sec := 0 }]
      fiveMarks := [{ day := day, sec := 0 }]
      periodN := 10 }

theorem meets_MinuteMarkDoesTheDoseWork :
    gallery.minuteMarks = [] ∧
      ((dawn 10).minuteMarks = { day := 10, sec := 0 } :: [] ∧ (dawn 10).periodN ≤ (dawn 10).clock.day - (dawn 10).periodStart ∧
        0 % 900 = 0 ∧ (dawn 10).store.writing = none) ∧
      ((dawn 9).minuteMarks = { day := 9, sec := 0 } :: [] ∧ (dawn 9).clock.day - (dawn 9).periodStart < (dawn 9).periodN) ∧
      ({ gallery with minuteMarks := [{ day := 10, sec := 600 }] }.minuteMarks = { day := 10, sec := 600 } :: [] ∧
        600 % 900 ≠ 0) := by decide +kernel

/-- A quarter-hour mark that finds the writer at work on a full save. -/
theorem meets_MinuteMarkDoesTheDoseWork_busy :
    let s := { writing (some (.saveDose gallery.doseImage true)) false false with minuteMarks := [{ day := 10, sec := 900 }] }
    s.minuteMarks = { day := 10, sec := 900 } :: [] ∧ 900 % 900 = 0 ∧ s.store.writing ≠ none := by decide +kernel

theorem meets_FiveMinuteMarkMovesTheRings :
    gallery.fiveMarks = [] ∧
      ((dawn 10).fiveMarks = { day := 10, sec := 0 } :: [] ∧ ∀ z, ((dawn 10).zone z).est.ring.length ≤ 12) ∧
      ∀ z, (((dawn 10).modZone 0 fun zn => { zn with est := { zn.est with ring := List.replicate 12 none } }).zone z).est.ring.length ≤
        12 := by decide +kernel

/-- The gallery at a five-minute mark with a full ring of Z0 and a swing excursion open. -/
def full : State :=
  { gallery.modZone 0 fun zn =>
      { zn with
          est := { zn.est with ring := List.replicate 12 (some { tMin := 1900, tMax := 2100, rhMin := 5000, rhMax := 5300 }) }
          det := { zn.det with exc := zn.det.exc.set 2 (some { start := .zero, side := .high, peak := 1, peakTime := .zero }) } } with
    fiveMarks := [{ day := 10, sec := 600 }] }

theorem meets_FiveMinuteMarkMovesTheRings_swings :
    full.fiveMarks = { day := 10, sec := 600 } :: [] ∧ (∀ z, (full.zone z).est.ring.length ≤ 12) ∧
      (full.zone 0).est.ring.length = 12 ∧ (full.zone 0).cfg.use = true ∧ full.usable 0 = true ∧
      ((after .fiveMinuteMark full).zone 0).est.extremes = some { tMin := 1900, tMax := 2100, rhMin := 5000, rhMax := 5300 } ∧
      ((full.zone 0).exc .tSwing).isSome = true := by decide +kernel

/-! ### The field loop -/

/-- The gallery with the node given SILENT and a retry due now. -/
def silent (s : State) (n : NodeId) : State :=
  s.modNode n fun nd => { nd with state := .silent, attempts := 4, due := none, retry := some s.clock }

theorem meets_LoopTakesCommandsThenPolls_due :
    (isSensor (gallery.node 4).kind = true ∧ 0 < (gallery.node 4).code ∧ Reached gallery (gallery.node 4).due) ∧
      isSensor (gallery.node 31).kind = false ∧ (Addressed gallery 0 0 .light ∧ Reached gallery (gallery.node 0).due) ∧
      (Addressed (silent lit 0) 0 0 .light ∧ ((silent lit 0).node 0).state = .silent ∧
        Reached (silent lit 0) ((silent lit 0).node 0).retry ∧ ((silent lit 0).chan 0 .light).pending.isSome = true) ∧
      (Addressed (silent gallery 0) 0 0 .light ∧ ((silent gallery 0).chan 0 .light).pending = none) ∧
      (gallery.node 0).state ≠ .silent := by
  refine ⟨⟨by decide +kernel, by decide +kernel, _, rfl, by decide +kernel⟩, by decide +kernel,
    ⟨And.intro (by decide +kernel) (by decide +kernel), _, rfl, by decide +kernel⟩,
    ⟨And.intro (by decide +kernel) (by decide +kernel), by decide +kernel, ⟨_, rfl, by decide +kernel⟩, by decide +kernel⟩,
    ⟨And.intro (by decide +kernel) (by decide +kernel), by decide +kernel⟩, by decide +kernel⟩

/-- The gallery with the READ of the climate sensor and of the light sensor waiting, both due now. -/
def polls : State := (gallery.modNode 4 fun nd => { nd with waiting := true }).modNode 5 fun nd => { nd with waiting := true }

/-- An actuator of Z0 is bound where the table of the gallery has it, and no other node is. -/
theorem addressed_gallery (n : NodeId) (h : n.val = 4 ∨ n.val = 5) : ∀ z ch, ¬ Addressed polls n z ch := by
  intro z ch ha
  have hb : polls.boundChan n = none := by
    rcases h with h | h
    · rw [show n = 4 from Fin.ext h]; decide +kernel
    · rw [show n = 5 from Fin.ext h]; decide +kernel
  rw [ha.1] at hb
  cases hb

theorem polls_waiting : ∀ m, (polls.node m).waiting = true → m.val = 4 ∨ m.val = 5 := by decide +kernel

theorem meets_LoopTakesCommandsThenPolls_start :
    (under gallery 4 .read).txn ≠ none ∧
      (lit.txn = none ∧ lit.commands = [] ++ (0, .light) :: [] ∧ Eligible lit (0, .light) ∧
        (lit.zone 0).cfg.act .light = some 0 ∧ (lit.chan 0 .light).pending = some 300) ∧
      (polls.txn = none ∧ polls.commands = [] ∧ (∀ m, ¬ StatusWaits polls m) ∧ FirstDue polls (ReadWaits polls) 4) ∧
      (gallery.txn = none ∧ gallery.commands = [] ∧ (∀ m, ¬ StatusWaits gallery m) ∧ ∀ m, ¬ ReadWaits gallery m) := by
  refine ⟨by decide +kernel, ⟨by decide +kernel, by decide +kernel, And.intro (by decide +kernel) (by decide +kernel),
    by decide +kernel, by decide +kernel⟩, ⟨by decide +kernel, by decide +kernel, ?_, ⟨?_, ?_⟩⟩,
    ⟨by decide +kernel, by decide +kernel, ?_, ?_⟩⟩
  · rintro m ⟨hw, z, ch, ha⟩
    exact addressed_gallery m (polls_waiting m hw) z ch ha
  · exact And.intro (by decide +kernel) (by decide +kernel)
  · have : ∀ m, (polls.node m).waiting = true → polls.dueSeconds 4 = polls.dueSeconds m ∧ (4 : NodeId) ≤ m := by decide +kernel
    exact fun m h => .inr (this m h.1)
  · have : ∀ m, (gallery.node m).waiting = false := by decide +kernel
    intro m h; have hw := h.1; rw [this m] at hw; cases hw
  · have : ∀ m, (gallery.node m).waiting = false := by decide +kernel
    intro m h; have hw := h.1; rw [this m] at hw; cases hw

/-- The gallery with the STATUS of the LIGHT actuator waiting. -/
def statusPoll : State := gallery.modNode 0 fun nd => { nd with waiting := true }

theorem meets_LoopTakesCommandsThenPolls_status :
    statusPoll.txn = none ∧ statusPoll.commands = [] ∧ FirstDue statusPoll (StatusWaits statusPoll) 0 := by
  refine ⟨by decide +kernel, by decide +kernel, And.intro (by decide +kernel)
    ⟨0, .light, And.intro (by decide +kernel) (by decide +kernel)⟩, ?_⟩
  have : ∀ m, (statusPoll.node m).waiting = true → statusPoll.dueSeconds 0 = statusPoll.dueSeconds m ∧ (0 : NodeId) ≤ m := by
    decide +kernel
  exact fun m h => .inr (this m h.1)

theorem meets_SensorRepliesReachTheZone :
    gallery.txn = none ∧
      ((under gallery 4 .read).txn = some { node := 4, op := .read, value := 0, abandoned := false } ∧
        ((under gallery 4 .read).node 4).kind = .climateSensor ∧ (-4000 : Int) ≤ 8500 ∧ 65535 < 0x10000 ∧
        (under gallery 4 .read).boundAt 4 = some (0, 2)) ∧
      ((under gallery 5 .read).txn = some { node := 5, op := .read, value := 0, abandoned := false } ∧
        ((under gallery 5 .read).node 5).kind = .lightSensor ∧ (under gallery 5 .read).boundAt 5 = some (0, 3)) := by
  decide +kernel

/-- Sensors that no zone binds, one of each kind. -/
theorem meets_SensorRepliesReachTheZone_unbound :
    let s := fun k : NodeKind => under (gallery.modNode 31 fun nd => { nd with kind := k, code := 7 }) 31 .read
    ((s .climateSensor).txn = some { node := 31, op := .read, value := 0, abandoned := false } ∧
        (s .climateSensor).boundAt 31 = none ∧ ((s .climateSensor).node 31).kind = .climateSensor) ∧
      ((s .lightSensor).boundAt 31 = none ∧ ((s .lightSensor).node 31).kind = .lightSensor ∧ ((s .lightSensor).node 31).state ≠ .fresh) := by
  decide +kernel

theorem meets_ActuatorRepliesAreApplied :
    ((under gallery 3 .command).boundChan 3 = some (0, .moist) ∧ chanOfKind ((under gallery 3 .command).node 3).kind = some .moist ∧
        inChanRange .moist (-100) = true ∧
        (under gallery 3 .command).txn = some { node := 3, op := .command, value := 0, abandoned := false }) ∧
      ((under gallery 0 .status).boundChan 0 = some (0, .light) ∧ inChanRange .light 1000 = true ∧
        (under gallery 0 .status).txn = some { node := 0, op := .status, value := 0, abandoned := false }) := by
  decide +kernel

theorem meets_FailedTransactionsAreCounted :
    gallery.txn = none ∧
      ({ node := 0, op := .status, value := 0, abandoned := true } : Transaction).abandoned = true ∧
      (replyData 0 .status (gallery.node 0).kind [0x81, 0, 0, 0, 0] = none ∧
        (under gallery 0 .status).txn = some { node := 0, op := .status, value := 0, abandoned := false }) ∧
      ((under gallery 4 .read).txn = some { node := 4, op := .read, value := 0, abandoned := false } ∧
        ((under gallery 4 .read).node 4).state = .fresh) ∧
      (LoopOp.command ≠ .read ∧ (under gallery 0 .command).boundChan 0 = some (0, .light) ∧
        ((under gallery 0 .command).node 0).attempts < 3) ∧
      3 ≤ ((under (gallery.modNode 0 fun nd => { nd with attempts := 3 }) 0 .command).node 0).attempts := by
  decide +kernel

/-! ### Excursions and the light the part lowers -/

theorem meets_ClimateOutputsTestExcursions :
    ((under gallery 4 .read).txn = some { node := 4, op := .read, value := 0, abandoned := false } ∧
        ((under gallery 4 .read).node 4).kind = .climateSensor ∧ (under gallery 4 .read).boundAt 4 = some (0, 2) ∧
        ((under gallery 4 .read).zone 0).cfg.use = true ∧ ((under gallery 4 .read).zone 0).conflict = false) ∧
      (((under torn 4 .read).zone 0).conflict = true ∧ (under torn 4 .read).boundAt 4 = some (0, 2)) ∧
      (((under shut 4 .read).zone 0).cfg.use = false ∧ (under shut 4 .read).boundAt 4 = some (0, 2)) := by
  decide +kernel

theorem meets_LightSamplesTestExcursions :
    ((under gallery 5 .read).txn = some { node := 5, op := .read, value := 0, abandoned := false } ∧
        ((under gallery 5 .read).node 5).kind = .lightSensor ∧ (under gallery 5 .read).boundAt 5 = some (0, 3) ∧
        ((under gallery 5 .read).zone 0).cfg.use = true) ∧
      (((under shut 5 .read).zone 0).cfg.use = false ∧ (under shut 5 .read).boundAt 5 = some (0, 3)) := by
  decide +kernel

/-- The lit gallery with a LUX excursion of Z0 open, and daylight of 300 under C 200. -/
def glaring : State :=
  lit.modZone 0 fun zn =>
    { zn with
        est := { zn.est with d0 := some 300, d0Status := .known, d := some 300 }
        det := { zn.det with exc := zn.det.exc.set 4 (some { start := .zero, side := .high, peak := 1, peakTime := .zero }) } }

/-- The lit gallery in which an object of Z0 that is EXHAUSTED has come to count. -/
def dimmed : State := lit.modObject 0 fun ob => { ob with cfg := { ob.cfg with use := true, w := 1000, exhausted := 10 }, pace := .exhausted }

theorem meets_PartLowersTheLight :
    (glaring.supervised = true ∧ (glaring.zone 0).cfg.use = true ∧ ((glaring.zone 0).exc .lux).isSome = true ∧
        newParts (glaring.zone 0) ≠ (glaring.zone 0).ovr ∧
        shadeEntering (newParts (glaring.zone 0)) (glaring.chan 0 .shade).granted = some 37 ∧
        lightEntering (newParts (glaring.zone 0)) (glaring.chan 0 .light).granted = some 0 ∧
        (glaring.zone 0).cfg.act .shade ≠ none) ∧
      (lit.zone 0).exc .uv = none ∧ Follows dimmed 0 (dimmed.ceilingOf 0) 300 ∧ dimmed.ceilingOf 0 = 10 ∧
      ¬ Follows gallery 0 (gallery.ceilingOf 0) 300 := by
  unfold Follows; decide +kernel

/-! ### What every step keeps -/

/-- The lit gallery with a second of the crystal next in the queue of commands. -/
def ticking : State := { lit with pending := [.clockSecond] }

theorem ticking_steps : ∃ t, step ticking = .next t := ⟨_, rfl⟩

theorem meets_StepKeepsTheQueueInBounds : QueueFits ticking ∧ HeldRecordsUnread ticking ∧ ∃ t, step ticking = .next t := by
  refine ⟨by unfold QueueFits; decide +kernel, ⟨?_, fun _ => ⟨0, _, rfl, rfl⟩⟩, ticking_steps⟩
  intro p sub h
  have : ∀ p x, (ticking.port p).sub = some x → x.cursor = 0 := by
    intro p x h
    match p, h with
    | 0, h => cases h; rfl
    | 1, h => cases h
    | 2, h => cases h
  rw [this p sub h]
  exact Nat.zero_le _

theorem meets_StepKeepsPortPromises :
    RequestsFit ticking ∧ OneConservation ticking ∧ ConservationKeepsEnvelope ticking ∧ ∃ t, step ticking = .next t :=
  ⟨by unfold RequestsFit; decide +kernel, ⟨0, by decide +kernel, by decide +kernel⟩,
    by unfold ConservationKeepsEnvelope; decide +kernel, ticking_steps⟩

theorem meets_StepKeepsTenureInOrder : TenureInOrder ticking ∧ ∃ t, step ticking = .next t := by
  refine ⟨?_, ticking_steps⟩
  intro z ch
  revert z
  cases ch <;> decide +kernel

theorem meets_StepKeepsEnvelopePaceAndCeiling :
    ExhaustedExactly ticking ∧ EnvelopeInForce ticking ∧ CeilingInForce ticking ∧ ∃ t, step ticking = .next t :=
  ⟨by unfold ExhaustedExactly; decide +kernel, by unfold EnvelopeInForce; decide +kernel,
    by unfold CeilingInForce; decide +kernel, ticking_steps⟩

/-- The ticking gallery under an override of Z0 LIGHT at the value granted. -/
def capped : State := ticking.modZone 0 fun zn => { zn with ovr := { zn.ovr with light := some 300 } }

theorem meets_StepKeepsGrantsUnderOverrides :
    OverrideHolds capped ∧ (capped.zone 0).ovr.light = some 300 ∧ (capped.chan 0 .light).granted = some 300 ∧
      ∃ t, step capped = .next t := by
  refine ⟨fun z => ⟨?_, ?_⟩, by decide +kernel, by decide +kernel, _, rfl⟩
  · have h : ∀ z, (capped.chan z .light).granted = none ∨
        ((capped.chan z .light).granted = some 300 ∧ (capped.zone z).ovr.light = some 300) := by decide +kernel
    intro v g hv hg
    rcases h z with h | ⟨h, ho⟩
    · rw [h] at hg; cases hg
    · rw [h] at hg; rw [ho] at hv; cases hg; cases hv; decide
  · have h : ∀ z, (capped.chan z .shade).granted = none := by decide +kernel
    intro v g _ hg
    rw [h z] at hg; cases hg

theorem meets_StepKeepsLinksWellFormed :
    LinksWellFormed { linked with pending := [.linkTimeout 0] } ∧
      ∃ t, step { linked with pending := [.linkTimeout 0] } = .next t := by
  refine ⟨?_, _, rfl⟩
  intro p l h
  match p, h with
  | 0, h => cases h; unfold LinkRecord.WellFormed; decide +kernel
  | 1, h => cases h
  | 2, h => cases h

theorem meets_StepKeepsStandbyQuiet :
    (TransactionsAddressed ticking ∧ StandbyIsQuiet ticking ∧ ∃ t, step ticking = .next t) ∧
      (TransactionsAddressed { ticking with txn := some { node := 0, op := .command, value := 300, abandoned := false } } ∧
        ticking.supervised = true) := by
  refine ⟨⟨?_, ?_, ticking_steps⟩, ?_, by decide +kernel⟩
  · intro t h; cases h
  · intro h; cases h
  · intro t h
    cases h
    exact .inr (.inr ⟨0, .light, by decide +kernel, by decide +kernel⟩)

end Sys2Proof.Tests
end

section
/-! ## Requests: what taking, answering and refusing make of the state -/

namespace Sys2Proof.Machine

open Sys2Proof

set_option Elab.async false

theorem State.modPort_modPort (s : State) (p : PortId) (f g : Port → Port) :
    (s.modPort p f).modPort p g = s.modPort p fun pt => g (f pt) := by
  have hp : (s.modPort p f).port p = f (s.port p) := State.port_modPort_self s p f
  simp only [State.modPort] at hp ⊢
  simp only [hp, Vector.set_set]

/-- The frame at the head of a port's queue is taken, handled and counted (R102, R171). -/
theorem serve_next {s : State} {p : PortId} {f : Frame} {rest : List Frame} {row : ReqRow}
    (hq : (s.port p).queue = f :: rest) (hrow : rowOf f = row) (handle : Frame → State → State) :
    s.serve p row handle = (handle f (s.withTaken p rest)).countRequest p := by
  simp only [State.serve, State.takeFrame, hq, hrow, if_true]
  rfl

theorem answer_withTaken (s : State) (p : PortId) (f : Frame) (rest : List Frame) (st : Status) (payload : List Byte) :
    (s.withTaken p rest).answer p f st payload = s.answered p f rest st payload := by
  simp only [State.answer, State.respond, State.withTaken, State.modPort_modPort]
  rfl

theorem refuse_withTaken (s : State) (p : PortId) (f : Frame) (rest : List Frame) (code : Status) :
    (s.withTaken p rest).refuse p f code = s.refusedWith p f rest code (namedBy f).1 (namedBy f).2 := by
  simp only [State.refuse, State.noteRefusal, State.respond, State.withTaken, State.modPort_modPort]
  rfl

@[simp] theorem withTaken_may (s : State) (p q : PortId) (rest : List Frame) (z : ZoneId) (r : Right) :
    (s.withTaken p rest).may q z r = s.may q z r := by
  simp only [State.may, State.withTaken, State.port_modPort]
  split
  · next h => subst h; rfl
  · rfl

@[simp] theorem withTaken_zone (s : State) (p : PortId) (rest : List Frame) (z : ZoneId) :
    (s.withTaken p rest).zone z = s.zone z := rfl
@[simp] theorem withTaken_object (s : State) (p : PortId) (rest : List Frame) (o : ObjId) :
    (s.withTaken p rest).object o = s.object o := rfl
@[simp] theorem withTaken_node (s : State) (p : PortId) (rest : List Frame) (n : NodeId) :
    (s.withTaken p rest).node n = s.node n := rfl

end Sys2Proof.Machine
end

section
/-! ## Footprints of the closing of a set and of taking a request -/

namespace Sys2Proof.Machine

open Sys2Proof

set_option Elab.async false

theorem standing_touches (s : State) (p : PortId) (z : ZoneId) (ch : ChanKind) :
    Touches tenures s (s.standing p z ch).1 := by
  unfold State.standing
  split
  · exact .refl _ s
  · split
    · exact .refl _ s
    · split
      · exact .refl _ s
      · next h => exact tenureCheck_touches h

theorem recheck_touches (p : PortId) (z : ZoneId) (ms : List Member) (s : State) :
    Touches tenures s (State.recheck p z ms s).1 := by
  induction ms generalizing s with
  | nil => exact .refl _ s
  | cons m ms ih =>
    have h := standing_touches s p z m.ch
    unfold State.recheck
    generalize s.standing p z m.ch = r at h ⊢
    obtain ⟨t, code⟩ := r
    cases code with
    | some code => exact h
    | none =>
      dsimp only
      split
      · exact h
      · exact h.trans (ih t)

/-- What the close of a linked set touches (R108 to R110). -/
abbrev closes : List Part := [.link, .granted, .delivery, .tenure, .activity, .commands, .cause, .sticky] ++ reports

theorem refuseLinked_touches (s : State) (p : PortId) (z : ZoneId) (l : LinkRecord) (culprit : ChanKind) (code : Status)
    (conds : CondSet) : Touches reports s (s.refuseLinked p z l culprit code conds) :=
  ((foldl_touches _ (fun s _ => offer_touches s _) _ s).trans (noteRefusal_touches _ p _ _ _ _)).trans
    (foldl_touches _ (fun s _ => respond_touches s p _ _ _) _ _)

theorem grantLinked_touches (s : State) (p : PortId) (z : ZoneId) (l : LinkRecord) (e : Evaluation) :
    Touches grants s (s.grantLinked p z l e) :=
  (foldl_touches _ (fun s _ => grant_touches s _ z _ _ _ _) _ s).trans
    (foldl_touches _ (fun s _ => (respond_touches s p _ _ _).mono (by decide)) _ _)

theorem closeMembers_touches (s : State) (p : PortId) (z : ZoneId) (l : LinkRecord) :
    Touches closes s (s.closeMembers p z l) := by
  have h0 : Touches closes s (s.modZone z fun zn => { zn with cause := 0 }) := modZone_touches s z _
  have h1 := h0.then_mono (recheck_touches p z l.ordered _) (by decide)
  unfold State.closeMembers
  generalize State.recheck p z l.ordered (s.modZone z fun zn => { zn with cause := 0 }) = r at h1 ⊢
  obtain ⟨t, failed⟩ := r
  cases failed with
  | some f => exact h1.then_mono (refuseLinked_touches t p z l _ _ _) (by decide)
  | none =>
    dsimp only
    have h2 := h1.then_mono (recordEvaluation_touches t z (t.evaluate z l.values).conds) (by decide)
    split
    · exact h2.then_mono (grantLinked_touches _ p z l _) (by decide)
    · exact h2.then_mono (refuseLinked_touches _ p z l _ _ _) (by decide)

theorem dropLink_touches (s : State) (p : PortId) : Touches [.link] s (s.dropLink p) := modPort_touches s p _

theorem breakLink_touches (s : State) (p : PortId) (b : Bool) : Touches (.link :: reports) s (s.breakLink p b) := by
  unfold State.breakLink
  split
  · exact .refl _ s
  · next l _ =>
    have h : Touches (.link :: reports) s (l.members.foldl (fun s m => s.breakMember p l.zone m) (s.dropLink p)) :=
      ((dropLink_touches s p).mono (by decide)).then_mono (foldl_touches _ (fun s m => breakMember_touches s p _ m) _ _)
        (by decide)
    dsimp only
    split
    · exact h.then_mono (noteRefusal_touches _ p _ _ _ _) (by decide)
    · exact h

theorem closeLink_touches (s : State) (p : PortId) : Touches closes s (s.closeLink p) := by
  unfold State.closeLink
  split
  · exact .refl _ s
  · split
    · exact (closeMembers_touches s p _ _).then_mono (dropLink_touches _ p) (by decide)
    · exact (dropLink_touches s p).mono (by decide)

theorem countRequest_touches (s : State) (p : PortId) : Touches closes s (s.countRequest p) := by
  unfold State.countRequest
  split
  · exact .refl _ s
  · split
    · exact closeLink_touches s p
    · exact modPort_touches s p _

theorem taken_touches (s : State) (p : PortId) (rest : List Frame) : Touches [.queue, .counters] s (s.taken p rest) :=
  modPort_touches s p _

theorem admitAlone_touches (s : State) (p : PortId) (tag : Byte) (z : ZoneId) (ch : ChanKind) (v : Int) :
    Touches closes s (s.admitAlone p tag z ch v) := by
  unfold State.admitAlone
  split
  · exact (refuseSetPoint_touches s p tag _ _ _ _).mono (by decide)
  · dsimp only
    have h := (recordEvaluation_touches s z (s.evaluate z (.only ch v)).conds).mono (by decide : _ ⊆ closes)
    split
    · exact (h.then_mono (grant_touches _ _ z ch _ _ _) (by decide)).then_mono (respond_touches _ p tag _ _) (by decide)
    · exact h.then_mono (refuseSetPoint_touches _ p tag _ _ _ _) (by decide)

theorem setPointStanding_touches (s : State) (p : PortId) (tag : Byte) (z : ZoneId) (ch : ChanKind) (v : Int) :
    Touches closes s (s.setPointStanding p tag z ch v) := by
  unfold State.setPointStanding
  split
  · exact admitAlone_touches s p tag z ch v
  · split
    · exact ((refuseSetPoint_touches s p tag _ _ _ _).mono (by decide)).then_mono (breakLink_touches _ p _) (by decide)
    · exact Touches.trans (t := s.modPort p _) (modPort_touches s p _) (countRequest_touches _ p)

theorem refuseSetPoint_breakLink_touches (s : State) (p : PortId) (tag : Byte) (chan : Option (ZoneId × ChanKind))
    (r : Option Int) (code : Status) :
    Touches closes s ((s.refuseSetPoint p tag chan r code 0).breakLink p true) :=
  ((refuseSetPoint_touches s p tag chan r code 0).mono (by decide)).then_mono (breakLink_touches _ p _) (by decide)

theorem setPointRequest_touches (s : State) (p : PortId) (f : Frame) : Touches closes s (s.setPointRequest p f) := by
  unfold State.setPointRequest
  split
  · exact refuseSetPoint_breakLink_touches s p _ _ _ _
  · next z ch v _ =>
    split
    · exact refuseSetPoint_breakLink_touches s p _ _ _ _
    · have h := (standing_touches s p z ch).mono (by decide : _ ⊆ closes)
      generalize s.standing p z ch = r at h ⊢
      obtain ⟨t, code⟩ := r
      cases code with
      | some code => exact h.trans (refuseSetPoint_breakLink_touches t p _ _ _ _)
      | none => exact h.trans (setPointStanding_touches t p _ z ch v)

theorem linkRequest_touches (s : State) (p : PortId) (f : Frame) : Touches closes s (s.linkRequest p f) := by
  unfold State.linkRequest
  split
  · unfold State.linkBadArg
    dsimp only
    exact (((refuse_touches s p f _).mono (by decide)).trans (t := s.refuse p f .badArg) (modPort_touches _ p _)).trans
      (countRequest_touches _ p)
  · split
    · exact (refuse_touches s p f _).mono (by decide)
    · exact Touches.trans (t := s.modPort p _) (modPort_touches s p _) ((answer_touches _ p f _ _).mono (by decide))

end Sys2Proof.Machine
end

section
/-! ## Folds over an index -/

namespace Sys2Proof.Machine

open Sys2Proof

set_option Elab.async false

/-- A fold in which the step of each index makes a property of that index hold, and no other step spoils it. -/
theorem foldl_each {ι : Type} (F : State → ι → State) (P : ι → State → Prop) (own : ∀ s i, P i (F s i))
    (keep : ∀ s i j, P j s → P j (F s i)) (l : List ι) (s : State) : ∀ i ∈ l, P i (l.foldl F s) := by
  have kept : ∀ (l : List ι) (s : State) (i : ι), P i s → P i (l.foldl F s) := fun l => by
    induction l with
    | nil => exact fun s i h => h
    | cons j l ih => exact fun s i h => ih _ i (keep s j i h)
  induction l generalizing s with
  | nil => exact fun i hi => absurd hi (List.not_mem_nil)
  | cons j l ih =>
    intro i hi
    rcases List.mem_cons.mp hi with rfl | hi
    · exact kept l _ i (own s i)
    · exact ih _ i hi

/-- A fold keeps what each of its steps keeps. -/
theorem foldl_keeps {ι : Type} (F : State → ι → State) (P : State → Prop) (keep : ∀ s i, P s → P (F s i)) (l : List ι) (s : State)
    (h : P s) : P (l.foldl F s) := by
  induction l generalizing s with
  | nil => exact h
  | cons i l ih => exact ih _ (keep s i h)

theorem forZones_each (s : State) (F : ZoneId → State → State) (P : ZoneId → State → Prop) (own : ∀ z s, P z (F z s))
    (keep : ∀ z s x, P x s → P x (F z s)) (z : ZoneId) : P z (s.forZones F) :=
  foldl_each (fun s z => F z s) P (fun s z => own z s) (fun s z x => keep z s x) _ s z (List.mem_finRange z)

theorem forObjects_each (s : State) (F : ObjId → State → State) (P : ObjId → State → Prop) (own : ∀ o s, P o (F o s))
    (keep : ∀ o s x, P x s → P x (F o s)) (o : ObjId) : P o (s.forObjects F) :=
  foldl_each (fun s o => F o s) P (fun s o => own o s) (fun s o x => keep o s x) _ s o (List.mem_finRange o)

end Sys2Proof.Machine
end

section
/-! ## Changes of one zone

A change of one zone stays in that zone and, for what it reports, in the queue and the attention bits: it answers and refuses
nothing. -/

namespace Sys2Proof.Machine

open Sys2Proof

set_option Elab.async false

/-- A change with the footprint `F` that leaves every zone but `z`. -/
structure InZone (z : ZoneId) (F : List Part) (s t : State) : Prop where
  touches : Touches F s t
  others  : OtherZones s t z

namespace InZone

variable {z : ZoneId} {F G : List Part} {s t u : State}

theorem refl (z : ZoneId) (F : List Part) (s : State) : InZone z F s s := ⟨.refl F s, fun _ _ => rfl⟩

theorem mono (h : InZone z F s t) (hs : F ⊆ G) : InZone z G s t := ⟨h.touches.mono hs, h.others⟩

theorem trans (h : InZone z F s t) (k : InZone z F t u) : InZone z F s u :=
  ⟨h.touches.trans k.touches, fun x hx => (k.others x hx).trans (h.others x hx)⟩

theorem then_mono (h : InZone z F s t) (k : InZone z G t u) (hs : G ⊆ F) : InZone z F s u := h.trans (k.mono hs)

/-- A change that leaves every zone as it is. -/
theorem of_zones (h : Touches F s t) (hz : t.zones = s.zones) : InZone z F s t :=
  ⟨h, fun x _ => by simp only [State.zone, hz]⟩

theorem of_modZone {f : Zone → Zone} (h : Touches F s (s.modZone z f)) : InZone z F s (s.modZone z f) :=
  ⟨h, fun _ hx => State.zone_modZone_ne s f hx⟩

theorem of_modChan {ch : ChanKind} {f : Channel → Channel} (h : Touches F s (s.modChan z ch f)) :
    InZone z F s (s.modChan z ch f) := ⟨h, fun _ hx => State.zone_modZone_ne s _ hx⟩

end InZone

/-! ### Records and attention bits -/

/-- What a record or a bit made pending does to a port: no response, no refusal. -/
structure Unanswered (a b : Port) : Prop where
  tx       : b.tx = a.tx
  refusal  : b.refusal = a.refusal
  refusals : b.refusals = a.refusals

theorem Unanswered.refl (a : Port) : Unanswered a a := ⟨rfl, rfl, rfl⟩

theorem Unanswered.trans {a b c : Port} (h : Unanswered a b) (k : Unanswered b c) : Unanswered a c :=
  ⟨k.tx.trans h.tx, k.refusal.trans h.refusal, k.refusals.trans h.refusals⟩

theorem raise_unanswered (pt : Port) (b : AttnBit) : Unanswered pt (pt.raise b) := by
  unfold Port.raise
  split <;> exact ⟨rfl, rfl, rfl⟩

theorem testAppended_unanswered (before : List Record) (r : Record) (pt : Port) :
    Unanswered pt (pt.testAppended before r) := by
  unfold Port.testAppended
  split
  · exact .refl pt
  · next sub _ =>
    have h : Unanswered pt (match sub.watch with
        | some sel => if matchesSel sel r then pt.raise .watchMatch else pt
        | none => pt) := by
      split
      · split
        · exact raise_unanswered pt _
        · exact .refl pt
      · exact .refl pt
    dsimp only
    split
    · exact h.trans (raise_unanswered _ _)
    · exact h

/-- Reporting of which nothing is a response or a refusal. -/
structure Signalled (s t : State) : Prop where
  reported : Reported s t
  drops    : t.sampleDrops = s.sampleDrops
  ports    : ∀ p, Unanswered (s.port p) (t.port p)

namespace Signalled

variable {s t u : State}

theorem refl (s : State) : Signalled s s := ⟨.refl s, rfl, fun _ => .refl _⟩

theorem trans (h : Signalled s t) (k : Signalled t u) : Signalled s u :=
  ⟨h.reported.trans k.reported, k.drops.trans h.drops, fun p => (h.ports p).trans (k.ports p)⟩

theorem touches (h : Signalled s t) : Touches reporting s t := by
  intro k hk
  by_cases hr : k ∈ reports
  · have : k = .drops ∨ k = .tx ∨ k = .refusal := by
      revert hr hk; cases k <;> decide
    rcases this with rfl | rfl | rfl
    · exact h.drops
    · funext p; exact (h.ports p).tx
    · funext p; simp only [State.part, (h.ports p).refusal, (h.ports p).refusals]
  · exact h.reported.touches k hr

theorem inZone (h : Signalled s t) (z : ZoneId) : InZone z reporting s t := .of_zones h.touches h.reported.zones

end Signalled

theorem modPort_signalled (s : State) (p : PortId) (f : Port → Port) (h : SamePort (s.port p) (f (s.port p)))
    (hu : Unanswered (s.port p) (f (s.port p))) : Signalled s (s.modPort p f) :=
  ⟨modPort_reported s p f h, rfl, fun q => by
    rw [State.port_modPort]
    split
    · next e => subst e; exact hu
    · exact .refl _⟩

theorem forPorts_signalled (s : State) (f : PortId → State → State) (h : ∀ p s, Signalled s (f p s)) :
    Signalled s (s.forPorts f) :=
  foldl_keeps (fun s p => f p s) (Signalled s) (fun t p ht => ht.trans (h p t)) _ s (.refl s)

theorem records_signalled (s : State) (rs : List Record) : Signalled s { s with records := rs } :=
  ⟨records_reported s rs, rfl, fun _ => .refl _⟩

theorem pend_signalled (s : State) (p : PortId) (b : AttnBit) : Signalled s (s.pend p b) :=
  modPort_signalled s p _ (raise_samePort _ b) (raise_unanswered _ b)

theorem pendWhere_signalled (s : State) (b : AttnBit) (test : Port → Bool) : Signalled s (s.pendWhere b test) :=
  forPorts_signalled s _ fun p s => by
    show Signalled s (if _ then _ else _)
    split
    · exact pend_signalled s p b
    · exact .refl s

theorem makeRoom_signalled (s : State) (size : Nat) : Signalled s (s.makeRoom size) := by
  unfold State.makeRoom
  dsimp only
  split
  · exact .refl s
  · exact (records_signalled s _).trans
      (forPorts_signalled _ _ fun p s => modPort_signalled s p _ (loseOldest_samePort _ _) ⟨rfl, rfl, rfl⟩)

theorem append_signalled (s : State) (r : Record) : Signalled s (s.append r) :=
  (records_signalled s _).trans (forPorts_signalled _ _ fun p s =>
    modPort_signalled s p _ (testAppended_samePort _ _ _) (testAppended_unanswered _ _ _))

theorem offer_signalled (s : State) (r : Record) : Signalled s (s.offer r) := by
  unfold State.offer
  split
  · exact (makeRoom_signalled s _).trans (append_signalled _ r)
  · exact .refl s

/-! ### The operations of a zone -/

theorem addSticky_inZone (s : State) (z : ZoneId) (c : Condition) : InZone z (.sticky :: reporting) s (s.addSticky z c) := by
  unfold State.addSticky
  split
  · exact .refl z _ s
  · exact InZone.then_mono (.of_modZone (modZone_touches s z _)) ((pendWhere_signalled _ _ _).inZone z) (by decide)

theorem addStickySet_inZone (s : State) (z : ZoneId) (cs : CondSet) :
    InZone z (.sticky :: reporting) s (s.addStickySet z cs) :=
  foldl_keeps _ (InZone z (.sticky :: reporting) s) (fun t c ht => by
    split
    · exact ht.trans (addSticky_inZone t z c)
    · exact ht) _ s (.refl z _ s)

theorem recordEvaluation_inZone (s : State) (z : ZoneId) (cs : CondSet) :
    InZone z ([.cause, .sticky] ++ reporting) s (s.recordEvaluation z cs) :=
  InZone.then_mono (.of_modZone (modZone_touches s z _)) (addStickySet_inZone _ z cs) (by decide)

theorem enlist_zones (s : State) (z : ZoneId) (ch : ChanKind) : (s.enlist z ch).zones = s.zones := by
  unfold State.enlist
  split <;> rfl

theorem handToLoop_inZone (s : State) (z : ZoneId) (ch : ChanKind) (v : Int) :
    InZone z [.delivery, .commands] s (s.handToLoop z ch v) := by
  refine ⟨handToLoop_touches s z ch v, fun x hx => ?_⟩
  unfold State.handToLoop
  split
  · rfl
  · dsimp only
    split
    · exact State.zone_modZone_ne s _ hx
    · simp only [State.zone, enlist_zones]
      exact State.zone_modZone_ne s _ hx

theorem grant_inZone (s : State) (port : Option PortId) (z : ZoneId) (ch : ChanKind) (r : Option Int) (v : Int) (c : Bool) :
    InZone z ([.granted, .delivery, .commands] ++ reporting) s (s.grant port z ch r v c) :=
  InZone.then_mono (InZone.then_mono (.of_modChan (modChan_touches s z ch _)) (handToLoop_inZone _ z ch v) (by decide))
    ((offer_signalled _ _).inZone z) (by decide)

/-- What a grant made by a zone evaluation touches, besides what it reports. -/
abbrev followParts : List Part := [.granted, .delivery, .commands, .cause, .sticky] ++ reporting

theorem ceilingFollow_inZone (s : State) (z : ZoneId) (old : Nat) : InZone z followParts s (s.ceilingFollow z old) := by
  unfold State.ceilingFollow
  split
  · exact .refl z _ s
  · split
    · exact ((recordEvaluation_inZone s z _).mono (by decide)).then_mono (grant_inZone _ _ z _ _ _ _) (by decide)
    · exact .refl z _ s

theorem recomputeCeiling_inZone (s : State) (z : ZoneId) :
    InZone z (.ceiling :: followParts) s (s.recomputeCeiling z) := by
  unfold State.recomputeCeiling
  dsimp only
  split
  · exact .refl z _ s
  · exact InZone.then_mono (.of_modZone (modZone_touches s z _)) (ceilingFollow_inZone _ z _) (by decide)

theorem closeExc_inZone (s : State) (z : ZoneId) (k : ExcKind) (r : CloseReason) :
    InZone z ([.det, .ovr] ++ reporting) s (s.closeExc z k r) := by
  unfold State.closeExc
  split
  · exact .refl z _ s
  · exact InZone.then_mono (InZone.then_mono (InZone.then_mono (.of_modZone (modZone_touches s z _))
      (.of_modZone (setExc_touches _ z k _)) (by decide)) ((offer_signalled _ _).inZone z) (by decide))
      ((pendWhere_signalled _ _ _).inZone z) (by decide)

theorem updateConflict_inZone (s : State) (z : ZoneId) :
    InZone z ([.conflict, .sticky, .det, .ovr] ++ reporting) s (s.updateConflict z) := by
  unfold State.updateConflict
  dsimp only
  split
  · exact ((InZone.then_mono (.of_modZone (modZone_touches s z _)) (addSticky_inZone _ z _) (by decide)).then_mono
      (closeExc_inZone _ z _ _) (by decide)).then_mono (closeExc_inZone _ z _ _) (by decide)
  · exact .of_modZone (modZone_touches s z _)

theorem recomputeZone_inZone (s : State) (z : ZoneId) : InZone z envelopeEffects s (s.recomputeZone z) :=
  ((InZone.of_modZone (modZone_touches s z _)).then_mono (recomputeCeiling_inZone _ z) (by decide)).then_mono
    (updateConflict_inZone _ z) (by decide)

end Sys2Proof.Machine
end

section
/-! ## The effective envelope, the zone ceiling and the pace states -/

namespace Sys2Proof.Machine

open Sys2Proof

set_option Elab.async false

/-! ### What they rest on -/

namespace Touches

variable {F : List Part} {s t : State}

theorem zoneCfg (h : Touches F s t) (z : ZoneId) (hF : Part.cfg ∉ F := by decide) : (t.zone z).cfg = (s.zone z).cfg :=
  congrFun (h .cfg hF) z
theorem zoneEnv (h : Touches F s t) (z : ZoneId) (hF : Part.env ∉ F := by decide) : (t.zone z).env = (s.zone z).env :=
  congrFun (h .env hF) z
theorem zoneEff (h : Touches F s t) (z : ZoneId) (hF : Part.eff ∉ F := by decide) : (t.zone z).eff = (s.zone z).eff :=
  congrFun (h .eff hF) z
theorem zoneConflict (h : Touches F s t) (z : ZoneId) (hF : Part.conflict ∉ F := by decide) :
    (t.zone z).conflict = (s.zone z).conflict := congrFun (h .conflict hF) z
theorem zoneCeiling (h : Touches F s t) (z : ZoneId) (hF : Part.ceiling ∉ F := by decide) :
    (t.zone z).ceiling = (s.zone z).ceiling := congrFun (h .ceiling hF) z
theorem objectCfg (h : Touches F s t) (o : ObjId) (hF : Part.objCfg ∉ F := by decide) :
    (t.object o).cfg = (s.object o).cfg := congrFun (h .objCfg hF) o
theorem objectAcct (h : Touches F s t) (o : ObjId) (hF : Part.acct ∉ F := by decide) :
    (t.object o).acct = (s.object o).acct := congrFun (h .acct hF) o
theorem objectPace (h : Touches F s t) (o : ObjId) (hF : Part.pace ∉ F := by decide) :
    (t.object o).pace = (s.object o).pace := congrFun (h .pace hF) o

theorem object (h : Touches F s t) (o : ObjId) (hF : ∀ k ∈ [Part.objCfg, .acct, .pace], k ∉ F := by decide) :
    t.object o = s.object o := by
  have hc := h.objectCfg o (hF _ (by decide))
  have ha := h.objectAcct o (hF _ (by decide))
  have hp := h.objectPace o (hF _ (by decide))
  cases ht : t.object o
  cases hs : s.object o
  simp_all only

end Touches

/-- The effective envelope rests on the zone's envelope and on the objects that count in the zone (R14). -/
theorem effOf_congr {s t : State} {z : ZoneId} (henv : (t.zone z).env = (s.zone z).env)
    (hin : ∀ o, (t.object o).inZone z = (s.object o).inZone z)
    (hcfg : ∀ o, (s.object o).inZone z = true → (t.object o).cfg = (s.object o).cfg) : t.effOf z = s.effOf z := by
  unfold State.effOf
  rw [henv]
  refine List.foldl_ext _ _ _ fun e o _ => ?_
  rw [hin o]
  split
  · next h => rw [hcfg o h]
  · rfl

/-- C rests on the envelope ceiling and on the pace ceilings of the objects that count in the zone (R71). -/
theorem ceilingOf_congr {s t : State} {z : ZoneId} (heff : (t.zone z).eff = (s.zone z).eff)
    (hin : ∀ o, (t.object o).inZone z = (s.object o).inZone z)
    (hpace : ∀ o, (s.object o).inZone z = true → (t.object o).paceCeiling = (s.object o).paceCeiling) :
    t.ceilingOf z = s.ceilingOf z := by
  unfold State.ceilingOf
  rw [heff]
  refine List.foldl_ext _ _ _ fun e o _ => ?_
  rw [hin o]
  split
  · next h => rw [hpace o h]
  · rfl

theorem Object.inZone_congr {a b : Object} (h : b.cfg = a.cfg) (z : ZoneId) : b.inZone z = a.inZone z := by
  simp only [Object.inZone, h]

theorem Object.paceCeiling_congr {a b : Object} (h : b.cfg = a.cfg) (hp : b.pace = a.pace) :
    b.paceCeiling = a.paceCeiling := by simp only [Object.paceCeiling, h, hp]

/-- An object that is OFF counts in no zone, and another only in its own (R14). -/
theorem Object.inZone_iff (ob : Object) (z : ZoneId) : ob.inZone z = true ↔ ob.cfg.use = true ∧ ob.cfg.zone = z := by
  simp [Object.inZone]

theorem Touches.effOf {F : List Part} {s t : State} (h : Touches F s t) (z : ZoneId)
    (hF : ∀ k ∈ [Part.env, .objCfg], k ∉ F := by decide) : t.effOf z = s.effOf z := by
  have hc := fun o => h.objectCfg o (hF _ (by decide))
  exact effOf_congr (h.zoneEnv z (hF _ (by decide))) (fun o => Object.inZone_congr (hc o) z) fun o _ => hc o

theorem Touches.ceilingOf {F : List Part} {s t : State} (h : Touches F s t) (z : ZoneId)
    (hF : ∀ k ∈ [Part.eff, .objCfg, .pace], k ∉ F := by decide) : t.ceilingOf z = s.ceilingOf z := by
  have hc := fun o => h.objectCfg o (hF _ (by decide))
  have hp := fun o => h.objectPace o (hF _ (by decide))
  exact ceilingOf_congr (h.zoneEff z (hF _ (by decide))) (fun o => Object.inZone_congr (hc o) z)
    fun o _ => Object.paceCeiling_congr (hc o) (hp o)

/-! ### Each promise for one zone or object, and the operations that restore it -/

/-- The effective envelope of a zone and its CONFLICT state are those the configuration gives (R14, R16 to R18). -/
def EnvelopeAt (s : State) (z : ZoneId) : Prop :=
  (s.zone z).eff = s.effOf z ∧ (s.zone z).conflict = decide ((s.zone z).eff.rhHi < (s.zone z).eff.rhLo)

/-- C of a zone is the one its envelope and the pace states give (R71). -/
def CeilingAt (s : State) (z : ZoneId) : Prop := (s.zone z).ceiling = s.ceilingOf z

/-- An object is EXHAUSTED exactly when its consumed dose is at least its allowance (R70). -/
def ExhaustedAt (s : State) (o : ObjId) : Prop :=
  (s.object o).pace = .exhausted ↔ (s.object o).cfg.allowance ≤ (s.object o).acct.consumed

theorem envelopeCurrent_iff (s : State) (z : ZoneId) : EnvelopeCurrent s z ↔ EnvelopeAt s z ∧ CeilingAt s z := by
  simp only [EnvelopeCurrent, EnvelopeAt, CeilingAt, and_assoc]

theorem EnvelopeAt.of_touches {F : List Part} {s t : State} {z : ZoneId} (c : EnvelopeAt s z) (h : Touches F s t)
    (hF : ∀ k ∈ [Part.env, .eff, .conflict, .objCfg], k ∉ F := by decide) : EnvelopeAt t z := by
  have he := h.zoneEff z (hF _ (by decide))
  have ho := h.effOf z fun k hk => hF k (by revert hk; cases k <;> decide)
  exact ⟨by rw [he, ho]; exact c.1, by rw [he, h.zoneConflict z (hF _ (by decide))]; exact c.2⟩

theorem CeilingAt.of_touches {F : List Part} {s t : State} {z : ZoneId} (c : CeilingAt s z) (h : Touches F s t)
    (hF : ∀ k ∈ [Part.eff, .ceiling, .objCfg, .pace], k ∉ F := by decide) : CeilingAt t z := by
  have ho := h.ceilingOf z fun k hk => hF k (by revert hk; cases k <;> decide)
  unfold CeilingAt
  rw [h.zoneCeiling z (hF _ (by decide)), ho]
  exact c

theorem ExhaustedAt.of_object {s t : State} {o : ObjId} (c : ExhaustedAt s o) (h : t.object o = s.object o) :
    ExhaustedAt t o := by
  unfold ExhaustedAt
  rw [h]
  exact c

theorem ExhaustedAt.of_touches {F : List Part} {s t : State} {o : ObjId} (c : ExhaustedAt s o) (h : Touches F s t)
    (hF : ∀ k ∈ [Part.objCfg, .acct, .pace], k ∉ F := by decide) : ExhaustedAt t o := c.of_object (h.object o hF)

/-- R72: the recomputed C is the one of R71, whether or not ceiling follow makes a grant. -/
theorem recomputeCeiling_ceilingAt (s : State) (z : ZoneId) : CeilingAt (s.recomputeCeiling z) z := by
  have hc : (s.recomputeCeiling z).ceilingOf z = s.ceilingOf z := (recomputeCeiling_touches s z).ceilingOf z
  unfold CeilingAt
  rw [hc]
  unfold State.recomputeCeiling
  dsimp only
  split
  · next h => exact h.symm
  · rw [(ceilingFollow_touches _ z _).zoneCeiling z, State.zone_modZone_self]

theorem CeilingAt.of_recomputeCeiling {s : State} {x : ZoneId} (c : CeilingAt s x) (z : ZoneId) :
    CeilingAt (s.recomputeCeiling z) x := by
  by_cases hx : x = z
  · subst hx; exact recomputeCeiling_ceilingAt s x
  · unfold CeilingAt
    rw [(recomputeCeiling_touches s z).ceilingOf x, (recomputeCeiling_inZone s z).others x hx]
    exact c

theorem paceFor_exhausted (consumed allowance slack n elapsed : Nat) :
    paceFor consumed allowance slack n elapsed = .exhausted ↔ allowance ≤ consumed := by
  unfold paceFor
  split
  · next h => simp [h]
  · next h => split <;> simp [h]

/-- R70: the object's pace state is that of R69 now, and its configuration and account stand. -/
theorem reevalPace_object (s : State) (o : ObjId) :
    (s.reevalPace o).object o = { s.object o with pace := s.paceNow o } := by
  unfold State.reevalPace
  dsimp only
  split
  · next h => rw [h]
  · have ho : ((s.modObject o fun ob => { ob with pace := s.paceNow o }).offer (.pace s.clock o (s.object o).cfg.zone
        (s.object o).pace (s.paceNow o) (s.object o).acct.consumed)).object o = { s.object o with pace := s.paceNow o } :=
      ((offer_reported _ _).object o).trans (State.object_modObject_self s o _)
    split
    · exact ((recomputeCeiling_touches _ _).object o).trans ho
    · exact ho

theorem reevalPace_otherObjects (s : State) (o : ObjId) : OtherObjects s (s.reevalPace o) o := by
  intro x hx
  unfold State.reevalPace
  dsimp only
  split
  · rfl
  · have ho : ((s.modObject o fun ob => { ob with pace := s.paceNow o }).offer (.pace s.clock o (s.object o).cfg.zone
        (s.object o).pace (s.paceNow o) (s.object o).acct.consumed)).object x = s.object x :=
      ((offer_reported _ _).object x).trans (State.object_modObject_ne s _ hx)
    split
    · exact ((recomputeCeiling_touches _ _).object x).trans ho
    · exact ho

theorem reevalPace_exhaustedAt (s : State) (o : ObjId) : ExhaustedAt (s.reevalPace o) o := by
  unfold ExhaustedAt
  rw [reevalPace_object]
  exact paceFor_exhausted _ _ _ _ _

theorem ExhaustedAt.of_reevalPace {s : State} {x : ObjId} (c : ExhaustedAt s x) (o : ObjId) :
    ExhaustedAt (s.reevalPace o) x := by
  by_cases hx : x = o
  · subst hx; exact reevalPace_exhaustedAt s x
  · exact c.of_object (reevalPace_otherObjects s o x hx)

/-- A change of the pace state of an object that counts nowhere with a weight leaves every C as it should be (R70, R71). -/
theorem ceilingOf_modPace (s : State) (o : ObjId) (p : Pace) (z : ZoneId)
    (h : ¬ ((s.object o).cfg.use = true ∧ 0 < (s.object o).cfg.w ∧ (s.object o).cfg.zone = z)) :
    (s.modObject o fun ob => { ob with pace := p }).ceilingOf z = s.ceilingOf z := by
  refine ceilingOf_congr rfl (fun x => ?_) fun x hx => ?_
  · rw [State.object_modObject]; split
    · next e => subst e; rfl
    · rfl
  · rw [State.object_modObject]; split
    · next e =>
      subst e
      obtain ⟨hu, hz⟩ := (Object.inZone_iff _ _).mp hx
      have hw : ¬ 0 < (s.object x).cfg.w := fun hw => h ⟨hu, hw, hz⟩
      simp only [Object.paceCeiling, hw, if_false]
    · rfl

theorem CeilingAt.of_reevalPace {s : State} {z : ZoneId} (c : CeilingAt s z) (o : ObjId) :
    CeilingAt (s.reevalPace o) z := by
  unfold State.reevalPace
  dsimp only
  split
  · exact c
  · generalize (Record.pace _ _ _ _ _ _) = r
    have hoff := offer_touches (s.modObject o fun ob => { ob with pace := s.paceNow o }) r
    have modified : ¬ ((s.object o).cfg.use = true ∧ 0 < (s.object o).cfg.w ∧ (s.object o).cfg.zone = z) →
        CeilingAt ((s.modObject o fun ob => { ob with pace := s.paceNow o }).offer r) z := fun h => by
      refine CeilingAt.of_touches ?_ hoff
      exact c.trans (ceilingOf_modPace s o _ z h).symm
    split
    · by_cases hz : z = (s.object o).cfg.zone
      · subst hz; exact recomputeCeiling_ceilingAt _ _
      · exact (modified fun h => hz h.2.2.symm).of_recomputeCeiling _
    · next h => exact modified fun hh => h (by simp [hh.1, hh.2.1])

/-- R17: the CONFLICT state says whether the effective RH band is inverted. -/
theorem updateConflict_conflict (s : State) (z : ZoneId) :
    ((s.updateConflict z).zone z).conflict = decide ((s.zone z).eff.rhHi < (s.zone z).eff.rhLo) := by
  unfold State.updateConflict
  dsimp only
  split
  · rw [(closeExc_touches _ z _ _).zoneConflict z, (closeExc_touches _ z _ _).zoneConflict z,
      (addSticky_touches _ z _).zoneConflict z, State.zone_modZone_self]
  · rw [State.zone_modZone_self]

theorem recomputeZone_envelopeAt (s : State) (z : ZoneId) : EnvelopeAt (s.recomputeZone z) z := by
  have heff : ((s.recomputeZone z).zone z).eff = s.effOf z := by
    unfold State.recomputeZone
    rw [(updateConflict_touches _ z).zoneEff z, (recomputeCeiling_touches _ z).zoneEff z, State.zone_modZone_self]
  refine ⟨heff.trans ((recomputeZone_touches s z).effOf z).symm, ?_⟩
  rw [heff]
  unfold State.recomputeZone
  rw [updateConflict_conflict, (recomputeCeiling_touches _ z).zoneEff z, State.zone_modZone_self]

theorem recomputeZone_ceilingAt (s : State) (z : ZoneId) : CeilingAt (s.recomputeZone z) z :=
  CeilingAt.of_touches (recomputeCeiling_ceilingAt (s.modZone z fun zn => { zn with eff := s.effOf z }) z)
    (updateConflict_touches _ z)

/-- R16 to R18: a recomputed zone has the envelope, CONFLICT and C that the configuration and the pace states give. -/
theorem recomputeZone_current (s : State) (z : ZoneId) : EnvelopeCurrent (s.recomputeZone z) z :=
  (envelopeCurrent_iff _ z).mpr ⟨recomputeZone_envelopeAt s z, recomputeZone_ceilingAt s z⟩

/-- A recomputation of one zone leaves what another zone has, which rests on nothing it changed. -/
theorem EnvelopeAt.of_recomputeZone {s : State} {x : ZoneId} (c : EnvelopeAt s x) (z : ZoneId) :
    EnvelopeAt (s.recomputeZone z) x := by
  by_cases hx : x = z
  · subst hx; exact recomputeZone_envelopeAt s x
  · unfold EnvelopeAt
    rw [(recomputeZone_touches s z).effOf x, (recomputeZone_inZone s z).others x hx]
    exact c

theorem CeilingAt.of_recomputeZone {s : State} {x : ZoneId} (c : CeilingAt s x) (z : ZoneId) :
    CeilingAt (s.recomputeZone z) x := by
  by_cases hx : x = z
  · subst hx; exact recomputeZone_ceilingAt s x
  · have ho : ∀ o, (s.recomputeZone z).object o = s.object o := fun o => (recomputeZone_touches s z).object o
    have hzone := (recomputeZone_inZone s z).others x hx
    have hc : (s.recomputeZone z).ceilingOf x = s.ceilingOf x :=
      ceilingOf_congr (by rw [hzone]) (fun o => by rw [ho]) fun o _ => by rw [ho]
    unfold CeilingAt
    rw [hc, hzone]
    exact c

/-! ### The three promises together -/

/-- Pace states, effective envelopes, CONFLICT and C stand as R16, R17 and R70 to R72 give them. -/
structure Current (s : State) : Prop where
  exhausted : ∀ o, ExhaustedAt s o
  envelope  : ∀ z, EnvelopeAt s z
  ceiling   : ∀ z, CeilingAt s z

theorem current_iff (s : State) : Current s ↔ ExhaustedExactly s ∧ EnvelopeInForce s ∧ CeilingInForce s :=
  ⟨fun c => ⟨c.exhausted, c.envelope, c.ceiling⟩, fun ⟨hx, he, hc⟩ => ⟨hx, he, hc⟩⟩

/-- What the three promises rest on. -/
abbrev currentParts : List Part := [.env, .eff, .conflict, .ceiling, .objCfg, .acct, .pace]

theorem Current.of_touches {F : List Part} {s t : State} (c : Current s) (h : Touches F s t)
    (hF : ∀ k ∈ currentParts, k ∉ F := by decide) : Current t where
  exhausted o := ExhaustedAt.of_touches (c.exhausted o) h fun k hk => hF k (by revert hk; cases k <;> decide)
  envelope z := EnvelopeAt.of_touches (c.envelope z) h fun k hk => hF k (by revert hk; cases k <;> decide)
  ceiling z := CeilingAt.of_touches (c.ceiling z) h fun k hk => hF k (by revert hk; cases k <;> decide)

/-- An evaluation of every pace state needs no pace state to be right before (R70). -/
theorem current_reevalAll {s : State} (he : ∀ z, EnvelopeAt s z) (hc : ∀ z, CeilingAt s z) : Current s.reevalAll where
  exhausted o := by
    unfold State.reevalAll
    exact forObjects_each s _ (fun o t => ExhaustedAt t o) (fun o t => reevalPace_exhaustedAt t o)
      (fun o _ _ h => h.of_reevalPace o) o
  envelope z := EnvelopeAt.of_touches (he z) (reevalAll_touches s)
  ceiling z := foldl_keeps (fun t o => t.reevalPace o) (CeilingAt · z) (fun _ o h => h.of_reevalPace o) _ s (hc z)

theorem Current.forZones {s : State} (c : Current s) (F : ZoneId → State → State) (h : ∀ z t, Current t → Current (F z t)) :
    Current (s.forZones F) := foldl_keeps (fun t z => F z t) Current (fun t z => h z t) _ s c

theorem Current.forObjects {s : State} (c : Current s) (F : ObjId → State → State) (h : ∀ o t, Current t → Current (F o t)) :
    Current (s.forObjects F) := foldl_keeps (fun t o => F o t) Current (fun t o => h o t) _ s c

end Sys2Proof.Machine
end

section
/-! ## The footprints of events and of what requests do -/

namespace Sys2Proof.Machine

open Sys2Proof

set_option Elab.async false

/-! ### Receivers -/

/-- What the bytes of a frame touch (R170, R171). -/
abbrev receivers : List Part := [.rx, .queue, .counters, .link] ++ reports

theorem discard_touches (s : State) (p : PortId) : Touches receivers s (s.discard p) :=
  Touches.then_mono (modPort_touches s p _) (breakLink_touches _ p _) (by decide)

theorem setReceiver_touches (s : State) (p : PortId) (rx : Receiver) : Touches [.rx] s (s.setReceiver p rx) :=
  modPort_touches s p _

theorem receiveFrame_touches (s : State) (p : PortId) (f : Frame) : Touches receivers s (s.receiveFrame p f) := by
  unfold State.receiveFrame
  split
  · exact modPort_touches s p _
  · exact ((Touches.then_mono (modPort_touches s p _) (noteRefusal_touches _ p _ _ _ _) (by decide)).then_mono
      (respond_touches _ p _ _ _) (by decide)).then_mono (breakLink_touches _ p _) (by decide)

theorem takeBytes_touches (s : State) (p : PortId) (bs : List Byte) : Touches receivers s (s.takeBytes p bs) := by
  unfold State.takeBytes
  split
  · exact .refl _ s
  · split
    · exact discard_touches s p
    · split
      · exact (setReceiver_touches s p _).mono (by decide)
      · unfold State.endFrame
        dsimp only
        split
        · split
          · exact ((setReceiver_touches s p _).mono (by decide)).trans (receiveFrame_touches _ p _)
          · exact discard_touches s p
        · exact discard_touches s p

theorem takeByte_touches (s : State) (p : PortId) (b : Byte) : Touches receivers s (s.takeByte p b) := by
  unfold State.takeByte
  split
  · split
    · exact (setReceiver_touches s p _).mono (by decide)
    · exact .refl _ s
  · exact takeBytes_touches s p _

/-! ### Subscriptions and marks -/

theorem subscribe_touches (s : State) (p : PortId) (w : Nat) : Touches reports s (s.subscribe p w) := by
  have h : Touches reports s (s.modPort p fun pt => { pt with sub := some (subscribed (s.port p).sub s.records.length w) }) :=
    modPort_touches s p _
  unfold State.subscribe
  dsimp only
  split
  · exact h.trans (pend_touches _ p _)
  · exact h

theorem unsubscribe_touches (s : State) (p : PortId) : Touches reports s (s.unsubscribe p) := by
  unfold State.unsubscribe
  split
  · exact Touches.trans (t := s.modPort p _) (modPort_touches s p _) (freeRead_touches _)
  · exact .refl _ s

theorem drainRequest_touches (s : State) (p : PortId) (f : Frame) (sub : Subscription) (n : Nat) :
    Touches reports s (s.drainRequest p f sub n) :=
  (Touches.trans (t := s.modPort p _) (modPort_touches s p _) (passRecords_touches _ p _)).trans (answer_touches _ p f _ _)

theorem scanRequest_touches (s : State) (p : PortId) (f : Frame) (sub : Subscription) (sel : Selection) :
    Touches reports s (s.scanRequest p f sub sel) := (passRecords_touches s p _).trans (answer_touches _ p f _ _)

theorem setWatch_touches (s : State) (p : PortId) (w : Option Selection) : Touches [.sub] s (s.setWatch p w) :=
  modPort_touches s p _

theorem markZones_touches (s : State) (zs : ZoneSet) : Touches [.est] s (s.markZones zs) :=
  forZones_touches s _ fun z s => by
    split
    · exact modZone_touches s z _
    · exact .refl _ s

/-! ### System commands -/

theorem supervised_touches (s : State) (b : Bool) : Touches [.supervised] s { s with supervised := b } := by
  intro k hk
  cases k <;> first | rfl | simp at hk

theorem enterSupervised_touches (s : State) : Touches [.supervised, .activity, .nodes] s s.enterSupervised :=
  (((supervised_touches s true).mono (by decide)).then_mono (touchAll_touches _) (by decide)).trans
    (forZones_touches _ _ fun z s => by
      split
      · exact (makeZoneDue_touches s z).mono (by decide)
      · exact .refl _ s)

/-- The channels of a zone whose granted values are dropped. -/
theorem Zone.chan_ungranted {zn zn' : Zone} (h : zn'.chans = Vector.ofFn fun i => { zn.chans[i] with granted := none })
    (ch : ChanKind) : zn'.chan ch = { zn.chan ch with granted := none } := by
  simp only [Zone.chan, h, Fin.getElem_fin, Vector.getElem_ofFn]

theorem clearGrants_touches (s : State) (z : ZoneId) : Touches [.ovr, .granted] s (s.clearGrants z) :=
  modZone_touches s z _ (h_delivery := fun _ c => by rw [Zone.chan_ungranted rfl])
    (h_tenure := fun _ c => by rw [Zone.chan_ungranted rfl]) (h_activity := fun _ c => by rw [Zone.chan_ungranted rfl])

theorem enterStandby_touches (s : State) :
    Touches ([.supervised, .link, .ovr, .granted] ++ drops' ++ reports) s s.enterStandby :=
  (((supervised_touches s false).mono (by decide)).then_mono (forPorts_touches _ _ fun p s => breakLink_touches s p false)
    (by decide)).trans (forZones_touches _ _ fun z s =>
      ((clearGrants_touches s z).mono (by decide)).then_mono (stopZone_touches _ z) (by decide))

theorem loseRight_touches (s : State) (z : ZoneId) (r : Right) (b : Bool) : Touches tenures s (s.loseRight z r b) := by
  unfold State.loseRight
  split
  · exact foldl_touches _ (fun s ch => dropUnrighted_touches s z ch r) _ s
  · exact .refl _ s

theorem writeRights_touches (s : State) (q : PortId) (z : ZoneId) (rs : RightSet) :
    Touches (.rights :: tenures) s (s.writeRights q z rs) :=
  (Touches.then_mono (modPort_touches s q _) (loseRight_touches _ z _ _) (by decide)).then_mono (loseRight_touches _ z _ _)
    (by decide)

/-- What a WRITE_NODE touches (R147). -/
abbrev nodeWrites : List Part := .txn :: nodeStates

theorem changeKind_touches (s : State) (n : NodeId) (kind : NodeKind) (code : Nat) :
    Touches nodeWrites s (s.changeKind n kind code) := by
  have h := (((setNodeState_touches s n .absent).mono (by decide : _ ⊆ nodeWrites)).then_mono (modNode_touches _ n fun nd =>
    { nd with kind := kind, code := code, misses := 0, attempts := 0, due := none, waiting := false, retry := none })
    (by decide)).then_mono (abandon_touches _ n) (by decide)
  unfold State.changeKind
  dsimp only
  split
  · exact h.then_mono (setDue_touches _ n _) (by decide)
  · exact h

theorem flagRate_touches (s : State) (n : NodeId) : Touches [.est] s (s.flagRate n) := by
  unfold State.flagRate
  split
  · exact modZone_touches s _ _
  · exact modZone_touches s _ _
  · exact .refl _ s

theorem changeCode_touches (s : State) (n : NodeId) (code : Nat) : Touches nodeWrites s (s.changeCode n code) := by
  have h : Touches nodeWrites s (s.modNode n fun nd => { nd with code := code }) := (modNode_touches s n _).mono (by decide)
  unfold State.changeCode
  dsimp only
  split
  · exact ((h.then_mono (setNodeState_touches _ n _) (by decide)).then_mono (modNode_touches _ n _) (by decide)).then_mono
      (flagRate_touches _ n) (by decide)
  · exact (h.then_mono (setDue_touches _ n _) (by decide)).then_mono (flagRate_touches _ n) (by decide)

theorem applyNode_touches (s : State) (n : NodeId) (kind : NodeKind) (code : Nat) :
    Touches nodeWrites s (s.applyNode n kind code) := by
  have h : Touches nodeWrites s (if (s.node n).kind = kind then s else s.changeKind n kind code) := by
    split
    · exact .refl _ s
    · exact changeKind_touches s n kind code
  unfold State.applyNode
  dsimp only
  split
  · exact h.trans (changeCode_touches _ n code)
  · exact h

theorem clockLoop_touches (s : State) : Touches [.nodes] s s.clockLoop :=
  forNodes_touches s _ fun n s => by
    have h1 : Touches [.nodes] s (if (s.node n).due.isSome then s.setDue n s.clock else s) := by
      split
      · exact setDue_touches s n _
      · exact .refl _ s
    have h2 : ∀ t : State, Touches [.nodes] s t → Touches [.nodes] s
        (if (t.node n).retry.isSome then t.modNode n fun nd => { nd with retry := some t.clock } else t) := fun t ht => by
      split
      · exact ht.trans (modNode_touches t n _)
      · exact ht
    exact h2 _ h1

/-! ### The loop -/

theorem rescheduleRead_touches (s : State) (n : NodeId) : Touches [.nodes] s (s.rescheduleRead n) := by
  unfold State.rescheduleRead
  dsimp only
  split
  · exact .refl _ s
  · exact setDue_touches s n _

/-- What a STATUS or COMMAND that ends does to the node's record and its channel's place in the command list (R152). -/
abbrev nodeOutcomes : List Part := .commands :: nodeStates

theorem nodeAnswered_touches (s : State) (n : NodeId) : Touches nodeOutcomes s (s.nodeAnswered n) := by
  have h : Touches nodeOutcomes s ((s.modNode n fun nd => { nd with attempts := 0, retry := none }).setNodeState n .ready) :=
    ((modNode_touches s n _).mono (by decide)).then_mono (setNodeState_touches _ n _) (by decide)
  have hd := h.then_mono (setDue_touches _ n (((s.modNode n fun nd =>
    { nd with attempts := 0, retry := none }).setNodeState n .ready).clock.plus statusPeriod)) (by decide)
  unfold State.nodeAnswered
  dsimp only
  split
  · split
    · split
      · exact hd.then_mono (enlist_touches _ _ _) (by decide)
      · exact hd
    · exact hd
  · exact h

theorem nodeFailed_touches (s : State) (n : NodeId) : Touches nodeOutcomes s (s.nodeFailed n) := by
  unfold State.nodeFailed
  dsimp only
  generalize min silentLimit ((s.node n).attempts + 1) = k
  have h : Touches nodeOutcomes s (s.modNode n fun nd => { nd with attempts := k }) := (modNode_touches s n _).mono (by decide)
  split
  · have hs := (h.then_mono (setNodeState_touches _ n .silent) (by decide)).then_mono (modNode_touches _ n fun nd =>
      { nd with due := none, waiting := false,
                retry := some (((s.modNode n fun nd => { nd with attempts := k }).setNodeState n .silent).clock.plus retryPeriod) })
      (by decide)
    split
    · exact hs.then_mono (delist_touches _ _ _) (by decide)
    · exact hs
  · exact h

/-- What the outcome of a COMMAND or STATUS touches (R151 to R153). -/
abbrev actuatorOutcomes : List Part := [.delivery, .sticky] ++ nodeOutcomes

theorem endCommand_touches (s : State) (n : NodeId) (d : Option ReplyData) :
    Touches actuatorOutcomes s (s.endCommand n d) := by
  unfold State.endCommand
  split
  · exact .refl _ s
  · next z ch _ =>
    dsimp only
    split
    · next v =>
      have h1 : Touches actuatorOutcomes s (s.modChan z ch fun c => { c with applied := some v }) := modChan_touches s z ch _
      have h2 : ∀ t, Touches actuatorOutcomes s t →
          Touches actuatorOutcomes s (if (s.chan z ch).sent = some v then t else t.addSticky z .actLimited) := fun t ht => by
        split
        · exact ht
        · exact ht.then_mono (addSticky_touches _ _ _) (by decide)
      have h3 : ∀ t, Touches actuatorOutcomes s t → Touches actuatorOutcomes s
          (if (s.chan z ch).replaced then t else (t.modChan z ch fun c => { c with pending := none }).delist z ch) :=
        fun t ht => by
          split
          · exact ht
          · exact (ht.trans (modChan_touches (F := actuatorOutcomes) t z ch fun c => { c with pending := none })).then_mono
              (delist_touches _ _ _) (by decide)
      exact (((h3 _ (h2 _ h1)).trans (modChan_touches (F := actuatorOutcomes) _ z ch
        fun c => { c with sent := none, replaced := false })).then_mono (nodeAnswered_touches _ n) (by decide)).then_mono
        (setDue_touches _ n _) (by decide)
    · exact Touches.then_mono (modChan_touches s z ch _) (nodeFailed_touches _ n) (by decide)

theorem endStatus_touches (s : State) (n : NodeId) (d : Option ReplyData) : Touches actuatorOutcomes s (s.endStatus n d) := by
  unfold State.endStatus
  split
  · exact .refl _ s
  · next z ch _ =>
    dsimp only
    split
    · next v =>
      have h1 : ∀ b : Bool, Touches actuatorOutcomes s (if b then s.addSticky z .actLimited else s) := fun b => by
        split
        · exact (addSticky_touches s z _).mono (by decide)
        · exact .refl _ s
      have h2 := fun b => ((h1 b).trans (modChan_touches (F := actuatorOutcomes) _ z ch fun c =>
        { c with applied := some v })).then_mono (nodeAnswered_touches _ n) (by decide)
      split
      · exact h2 _
      · exact (h2 _).then_mono (setDue_touches _ n _) (by decide)
    · have h := (nodeFailed_touches s n).mono (by decide : _ ⊆ actuatorOutcomes)
      split
      · exact h
      · exact h.then_mono (setDue_touches _ n _) (by decide)

theorem begin_touches (s : State) (c : Choice) : Touches [.delivery, .txn, .nodes] s (s.begin c) := by
  have put : ∀ (t : State) (n : NodeId) (op : LoopOp) (v : Int), Touches [.txn] t (t.putOnLoop n op v) := fun t n op v k hk => by
    cases k <;> first | rfl | simp at hk
  cases c with
  | command z ch n v => exact Touches.then_mono (modChan_touches s z ch _) (put _ n _ v) (by decide)
  | status n => exact ((modNode_touches s n _).mono (by decide)).then_mono (put _ n _ _) (by decide)
  | read n => exact ((modNode_touches s n _).mono (by decide)).then_mono (put _ n _ _) (by decide)

theorem retryNode_touches (s : State) (n : NodeId) : Touches [.nodes, .commands] s (s.retryNode n) := by
  have h : Touches [.nodes, .commands] s (s.modNode n fun nd => { nd with retry := none }) :=
    (modNode_touches s n _).mono (by decide)
  unfold State.retryNode
  dsimp only
  split
  · split
    · exact h.then_mono (enlist_touches _ _ _) (by decide)
    · exact h.then_mono (setDue_touches _ n _) (by decide)
  · exact h

theorem pruneCommands_touches (s : State) : Touches [.commands] s s.pruneCommands := by
  intro k hk
  cases k <;> first | rfl | simp at hk

theorem txn_touches (s : State) (t : Option Transaction) : Touches [.txn] s { s with txn := t } := by
  intro k hk
  cases k <;> first | rfl | simp at hk

end Sys2Proof.Machine
end

section
/-! ## The footprint of a zone write -/

namespace Sys2Proof.Machine

open Sys2Proof

set_option Elab.async false

theorem turnOff_touches (s : State) (z : ZoneId) :
    Touches ([.det, .ovr, .granted] ++ drops' ++ reporting) s (s.turnOff z) := by
  have h : Touches ([.det, .ovr, .granted] ++ drops' ++ reporting) s
      (allKinds.foldl (fun s k => s.closeExc z k .zoneOff) s) :=
    (foldl_touches _ (fun s k => (closeExc_inZone s z k _).touches) _ s).mono (by decide)
  unfold State.turnOff
  generalize allKinds.foldl (fun s k => s.closeExc z k .zoneOff) s = t at h ⊢
  refine (h.trans (modZone_touches t z _ (h_delivery := fun _ c => ?_) (h_tenure := fun _ c => ?_)
    (h_activity := fun _ c => ?_))).then_mono (stopZone_touches _ z) (by decide)
  all_goals rw [Zone.chan_ungranted rfl]

theorem turnOn_touches (s : State) (z : ZoneId) : Touches [.horizon, .det, .ovr, .activity] s (s.turnOn z) :=
  Touches.then_mono (modZone_touches s z _) (touchZone_touches _ z) (by decide)

/-- What a changed actuator field touches (R7). -/
abbrev rebinds : List Part := .activity :: drops'

theorem rebind_touches (s : State) (z : ZoneId) (ch : ChanKind) (old new : Option NodeId) :
    Touches rebinds s (s.rebind z ch old new) := by
  unfold State.rebind
  split
  · exact .refl _ s
  · have h1 := (dropChannel_touches s z ch).mono (by decide : _ ⊆ rebinds)
    have h2 : ∀ old : Option NodeId, Touches rebinds s (match old with
        | some n => ((s.dropChannel z ch).abandon n).clearTimes n
        | none => s.dropChannel z ch) := fun old => by
      split
      · exact (h1.then_mono (abandon_touches _ _) (by decide)).then_mono (clearTimes_touches _ _) (by decide)
      · exact h1
    have h3 : ∀ t n, Touches rebinds s t →
        Touches rebinds s (if (t.zone z).cfg.use && t.supervised then t.makeActuatorDue n else t) := fun t n ht => by
      split
      · exact ht.then_mono (makeActuatorDue_touches _ n) (by decide)
      · exact ht
    dsimp only
    cases new with
    | none => exact h2 old
    | some n =>
      dsimp only
      split
      · exact (h3 _ n (h2 old)).then_mono (touch_touches _ z ch) (by decide)
      · exact h3 _ n (h2 old)

theorem sensorChanges_touches (s : State) (z : ZoneId) (old new : ZoneRec) :
    Touches [.est, .det] s (s.sensorChanges z old new) := by
  unfold State.sensorChanges
  dsimp only
  have h1 : Touches [.est, .det] s (if old.climateNode = new.climateNode then s else s.unseed z) := by
    split
    · exact .refl _ s
    · exact (unseed_touches s z).mono (by decide)
  have h2 : ∀ t, Touches [.est, .det] s t → Touches [.est, .det] s (if old.lightNode = new.lightNode then t
      else (t.modZone z fun zn => { zn with est := { zn.est with d0 := none, d0Status := .unknown } }).dropPendingLight z) :=
    fun t ht => by
      split
      · exact ht
      · exact (ht.trans (modZone_touches (F := [.est, .det]) t z fun zn =>
          { zn with est := { zn.est with d0 := none, d0Status := .unknown } })).then_mono (dropPendingLight_touches _ z)
          (by decide)
  exact (h2 _ h1).trans (modZone_touches _ z _)

end Sys2Proof.Machine
end

section
/-! ## Every step keeps pace, effective envelope, CONFLICT and C current -/

namespace Sys2Proof.Machine

open Sys2Proof

set_option Elab.async false

/-! ### The operations that write what the promises rest on -/

/-- A written account followed by an evaluation of the object's pace state (R64, R70, R76). -/
theorem Current.reevalPace_modAcct {s : State} (c : Current s) (o : ObjId) (a : Account → Account) :
    Current ((s.modObject o fun ob => { ob with acct := a ob.acct }).reevalPace o) where
  exhausted x := by
    by_cases hx : x = o
    · subst hx; exact reevalPace_exhaustedAt _ x
    · exact (c.exhausted x).of_object ((reevalPace_otherObjects _ o x hx).trans (State.object_modObject_ne s _ hx))
  envelope z := ((c.envelope z).of_touches (F := [.acct]) (modObject_touches s o _)).of_touches (reevalPace_touches _ o)
  ceiling z := CeilingAt.of_reevalPace ((c.ceiling z).of_touches (F := [.acct]) (modObject_touches s o _)) o

theorem Current.chargeObject {s : State} (c : Current s) (o : ObjId) (inc : Nat) : Current (s.chargeObject o inc) := by
  unfold State.chargeObject
  dsimp only
  split
  · next h =>
    have ht : Touches [.acct] s (s.modObject o fun ob => { ob with acct := ob.acct.charge inc }) := modObject_touches s o _
    refine ⟨fun x => ?_, fun z => (c.envelope z).of_touches ht, fun z => (c.ceiling z).of_touches ht⟩
    by_cases hx : x = o
    · subst hx
      have hx := c.exhausted x
      unfold ExhaustedAt at hx ⊢
      rw [State.object_modObject_self]
      dsimp only
      rw [h]
      exact hx
    · exact (c.exhausted x).of_object (State.object_modObject_ne s _ hx)
  · exact c.reevalPace_modAcct o fun a => a.charge inc

theorem horizonTo_touches (s : State) (z : ZoneId) (t : GTime) :
    Touches [.horizon] s (s.modZone z fun zn => { zn with horizon := t }) := modZone_touches s z _

theorem Current.chargeZone {s : State} (c : Current s) (z : ZoneId) (upTo : GTime) (e : Nat) :
    Current (s.chargeZone z upTo e) := by
  have hcharged : ∀ dt, Current (s.forObjects fun o s =>
      if (s.object o).inZone z then s.chargeObject o (faceLux e (s.object o).cfg.w * dt) else s) := fun dt =>
    c.forObjects _ fun o t ht => by
      split
      · exact ht.chargeObject o _
      · exact ht
  exact (hcharged _).of_touches (horizonTo_touches _ z upTo)

theorem Current.blindCharge {s : State} (c : Current s) (z : ZoneId) (mark : GTime) : Current (s.blindCharge z mark) := by
  unfold State.blindCharge
  split
  · exact c.chargeZone z _ _
  · exact c

theorem Current.reevalAll {s : State} (c : Current s) : Current s.reevalAll := current_reevalAll c.envelope c.ceiling

/-- A rollover empties every account, and the evaluation that ends it puts every pace state right (R74). -/
theorem Current.rollover {s : State} (c : Current s) : Current s.rollover := by
  have hacct : Touches [.acct] s (s.forObjects fun o s => s.modObject o fun ob => { ob with acct := ob.acct.rollover }) :=
    forObjects_touches s _ fun o s => modObject_touches s o _
  unfold State.rollover
  split
  · dsimp only
    generalize (s.forObjects fun o s => s.modObject o fun ob => { ob with acct := ob.acct.rollover }) = t at hacct ⊢
    have hoffers : Touches (.periodStart :: reports) t { (t.forObjects fun o t =>
        if s.objects[o].cfg.use then t.offer (.rollover t.clock o s.objects[o].cfg.zone s.objects[o].acct.consumed) else t)
        with periodStart := (t.forObjects fun o t =>
        if s.objects[o].cfg.use then t.offer (.rollover t.clock o s.objects[o].cfg.zone s.objects[o].acct.consumed)
          else t).clock.day } :=
      Touches.then_mono (forObjects_touches t _ fun o t => by
        split
        · exact (offer_touches t _).mono (by decide)
        · exact .refl _ t) (periodStart_touches _ _) (by decide)
    exact current_reevalAll (fun z => ((c.envelope z).of_touches hacct).of_touches hoffers)
      fun z => ((c.ceiling z).of_touches hacct).of_touches hoffers
  · exact c

theorem Current.minuteWork {s : State} (c : Current s) (mark : GTime) : Current (s.minuteWork mark) := by
  have hcharged := c.forZones (fun z s => s.blindCharge z mark) fun z t ht => ht.blindCharge z mark
  have hrolled : ∀ t : State, Current t → Current (if mark.isDayStart then t.rollover else t) := fun t ht => by
    split
    · exact ht.rollover
    · exact ht
  have hpaced := (hrolled _ hcharged).reevalAll
  unfold State.minuteWork
  dsimp only
  split
  · exact hpaced.of_touches (requestCheckpoint_touches _)
  · exact hpaced

theorem Current.lightSample {s : State} (c : Current s) (z : ZoneId) (e uv : Nat) : Current (s.lightSample z e uv) := by
  unfold State.lightSample
  dsimp only
  generalize (max ((s.zone z).est.eMeas.getD e) e) = peak
  have htaken : ∀ f : Zone → Estimate, Current (s.modZone z fun zn => { zn with est := f zn }) := fun f =>
    c.of_touches (F := [.est]) (modZone_touches s z _)
  split
  · exact (((((htaken _).chargeZone z _ _).of_touches (testLux_touches _ z e)).of_touches
      (testUv_touches _ z _)).of_touches (computeOverride_touches _ z)).of_touches (countLight_touches _ z)
  · exact (htaken _).of_touches (countLight_touches _ z)

theorem Current.endRead {s : State} (c : Current s) (n : NodeId) (d : Option ReplyData) : Current (s.endRead n d) := by
  have h : ∀ (f : Node → Node) (st : NodeState), Current (((s.modNode n f).setNodeState n st).rescheduleRead n) := fun f st =>
    ((c.of_touches (modNode_touches s n f)).of_touches (setNodeState_touches _ n st)).of_touches (rescheduleRead_touches _ n)
  unfold State.endRead
  split
  · exact h _ _
  · dsimp only
    split
    · exact (h _ _).of_touches (climateSample_touches _ _ _ _)
    · exact (h _ _).lightSample _ _ _
    · exact h _ _

theorem Current.endTransaction {s : State} (c : Current s) (t : Transaction) (d : Option ReplyData) :
    Current (s.endTransaction t d) := by
  have h : Current { s with txn := none } := c.of_touches (txn_touches s none)
  unfold State.endTransaction
  dsimp only
  split
  · exact h.endRead _ d
  · exact h.of_touches (endCommand_touches _ _ d)
  · exact h.of_touches (endStatus_touches _ _ d)

theorem Current.recomputeZone {s : State} (c : Current s) (z : ZoneId) : Current (s.recomputeZone z) where
  exhausted o := (c.exhausted o).of_touches (recomputeZone_touches s z)
  envelope x := EnvelopeAt.of_recomputeZone (c.envelope x) z
  ceiling x := CeilingAt.of_recomputeZone (c.ceiling x) z

theorem Current.applyZone {s : State} (c : Current s) (z : ZoneId) (new : ZoneRec) : Current (s.applyZone z new) := by
  have hoff : Current (if (s.zone z).cfg.use && !new.use then s.turnOff z else s) := by
    split
    · exact c.of_touches (turnOff_touches s z)
    · exact c
  have hon : ∀ t : State, Current t → Current (if !(s.zone z).cfg.use && new.use then t.turnOn z else t) := fun t ht => by
    split
    · exact ht.of_touches (turnOn_touches t z)
    · exact ht
  have hdue : ∀ t : State, Current t →
      Current (if !(s.zone z).cfg.use && new.use && t.supervised then t.makeZoneDue z else t) := fun t ht => by
    split
    · exact ht.of_touches (makeZoneDue_touches t z)
    · exact ht
  have hrebind : ∀ t : State, Current t →
      Current (t.forChans fun ch s' => s'.rebind z ch ((s.zone z).cfg.act ch) (new.act ch)) := fun t ht =>
    foldl_keeps _ Current (fun u ch hu => hu.of_touches (rebind_touches u z ch _ _)) _ t ht
  have hrecord := hon _ (hoff.of_touches (F := [.cfg]) (modZone_touches _ z fun zn => { zn with cfg := new }))
  exact ((hdue _ (hrebind _ hrecord)).of_touches (sensorChanges_touches _ z _ new)).recomputeZone z

/-- A zone's envelope tells in that zone alone (R14). -/
theorem EnvelopeAt.of_modEnv {s : State} {x z : ZoneId} (c : EnvelopeAt s x) (hx : x ≠ z) (e : Envelope) :
    EnvelopeAt (s.modZone z fun zn => { zn with env := e }) x := by
  have hz := State.zone_modZone_ne s (fun zn => { zn with env := e }) hx
  have he : (s.modZone z fun zn => { zn with env := e }).effOf x = s.effOf x :=
    effOf_congr (by rw [hz]) (fun _ => rfl) fun _ _ => rfl
  unfold EnvelopeAt
  rw [hz, he]
  exact c

theorem Current.applyEnvelope {s : State} (c : Current s) (z : ZoneId) (new : Envelope) : Current (s.applyEnvelope z new) := by
  have ht : Touches [.env] s (s.modZone z fun zn => { zn with env := new }) := modZone_touches s z _
  refine ⟨fun o => ((c.exhausted o).of_touches ht).of_touches (recomputeZone_touches _ z), fun x => ?_, fun x =>
    CeilingAt.of_recomputeZone ((c.ceiling x).of_touches ht) z⟩
  by_cases hx : x = z
  · subst hx; exact recomputeZone_envelopeAt _ x
  · exact EnvelopeAt.of_recomputeZone ((c.envelope x).of_modEnv hx new) z

/-- An object write tells in the zones it touches alone (R12). -/
theorem inZone_modCfg {s : State} {o : ObjId} {new : ObjConf} {z : ZoneId} (hz : z ∉ touchedZones (s.object o).cfg new)
    (x : ObjId) : ((s.modObject o fun ob => { ob with cfg := new }).object x).inZone z = (s.object x).inZone z := by
  have hne : (s.object o).cfg.zone ≠ z ∧ new.zone ≠ z := by
    unfold touchedZones at hz
    split at hz <;> simp_all [eq_comm]
  rw [State.object_modObject]
  split
  · next e => subst e; rw [Bool.eq_iff_iff, Object.inZone_iff, Object.inZone_iff]; simp [hne.1, hne.2]
  · rfl

theorem object_modCfg {s : State} {o : ObjId} {new : ObjConf} {z : ZoneId} (hz : z ∉ touchedZones (s.object o).cfg new)
    {x : ObjId} (hx : (s.object x).inZone z = true) :
    (s.modObject o fun ob => { ob with cfg := new }).object x = s.object x := by
  refine State.object_modObject_ne s _ fun e => hz ?_
  subst e
  have := ((Object.inZone_iff _ _).mp hx).2
  unfold touchedZones
  split <;> simp [this]

/-- After an object write the zones it touches are current, and another zone is as current as it was (R12, R16, R72). -/
theorem applyObject_zoneCurrent (s : State) (o : ObjId) (new : ObjConf) (z : ZoneId)
    (h : z ∉ touchedZones (s.object o).cfg new → EnvelopeAt s z ∧ CeilingAt s z) :
    EnvelopeAt (s.applyObject o new) z ∧ CeilingAt (s.applyObject o new) z := by
  have hrecomputed : EnvelopeAt ((touchedZones (s.object o).cfg new).foldl (fun s z => s.recomputeZone z)
        (s.modObject o fun ob => { ob with cfg := new })) z ∧
      CeilingAt ((touchedZones (s.object o).cfg new).foldl (fun s z => s.recomputeZone z)
        (s.modObject o fun ob => { ob with cfg := new })) z := by
    have keep : ∀ t x, EnvelopeAt t z ∧ CeilingAt t z → EnvelopeAt (t.recomputeZone x) z ∧ CeilingAt (t.recomputeZone x) z :=
      fun t x ht => ⟨EnvelopeAt.of_recomputeZone ht.1 x, CeilingAt.of_recomputeZone ht.2 x⟩
    by_cases hz : z ∈ touchedZones (s.object o).cfg new
    · exact foldl_each (fun t x => t.recomputeZone x) (fun x t => EnvelopeAt t x ∧ CeilingAt t x)
        (fun t x => ⟨recomputeZone_envelopeAt t x, recomputeZone_ceilingAt t x⟩)
        (fun t x y ht => ⟨EnvelopeAt.of_recomputeZone ht.1 x, CeilingAt.of_recomputeZone ht.2 x⟩) _ _ z hz
    · refine foldl_keeps _ (fun t => EnvelopeAt t z ∧ CeilingAt t z) keep _ _ ?_
      have hc := fun x => inZone_modCfg (new := new) hz x
      have heff : (s.modObject o fun ob => { ob with cfg := new }).effOf z = s.effOf z :=
        effOf_congr rfl hc fun x hx => congrArg _ (object_modCfg hz hx)
      have hceil : (s.modObject o fun ob => { ob with cfg := new }).ceilingOf z = s.ceilingOf z :=
        ceilingOf_congr rfl hc fun x hx => congrArg _ (object_modCfg hz hx)
      obtain ⟨⟨he, hconflict⟩, hc⟩ := h hz
      exact ⟨⟨he.trans heff.symm, hconflict⟩, Eq.trans hc hceil.symm⟩
  unfold State.applyObject
  dsimp only
  generalize (touchedZones (s.object o).cfg new).foldl (fun s z => s.recomputeZone z)
    (s.modObject o fun ob => { ob with cfg := new }) = t at hrecomputed ⊢
  have hpaced : EnvelopeAt (if (s.object o).cfg.allowance = new.allowance ∧ (s.object o).cfg.slack = new.slack then t
        else t.reevalPace o) z ∧
      CeilingAt (if (s.object o).cfg.allowance = new.allowance ∧ (s.object o).cfg.slack = new.slack then t
        else t.reevalPace o) z := by
    split
    · exact hrecomputed
    · exact ⟨hrecomputed.1.of_touches (reevalPace_touches t o), CeilingAt.of_reevalPace hrecomputed.2 o⟩
  split
  · exact foldl_keeps _ (fun t => EnvelopeAt t z ∧ CeilingAt t z) (fun t x ht =>
      ⟨ht.1.of_touches (recomputeCeiling_touches t x), ht.2.of_recomputeCeiling x⟩) _ _ hpaced
  · exact hpaced

/-- The object a write of `new` leaves: its pace state is evaluated if A or S changed (R12). -/
def State.writtenObject (s : State) (o : ObjId) (new : ObjConf) : Object :=
  { cfg := new
    acct := (s.object o).acct
    pace := if (s.object o).cfg.allowance = new.allowance ∧ (s.object o).cfg.slack = new.slack then (s.object o).pace
      else paceFor (s.object o).acct.consumed new.allowance new.slack s.periodN s.elapsed }

theorem applyObject_objects (s : State) (o : ObjId) (new : ObjConf) (x : ObjId) :
    (s.applyObject o new).object x = if x = o then s.writtenObject o new else s.object x := by
  have hzones : Touches envelopes (s.modObject o fun ob => { ob with cfg := new })
      ((touchedZones (s.object o).cfg new).foldl (fun s z => s.recomputeZone z)
        (s.modObject o fun ob => { ob with cfg := new })) := foldl_touches _ (fun t z => recomputeZone_touches t z) _ _
  unfold State.applyObject
  dsimp only
  generalize (touchedZones (s.object o).cfg new).foldl (fun s z => s.recomputeZone z)
    (s.modObject o fun ob => { ob with cfg := new }) = t at hzones ⊢
  have hobj : ∀ x, t.object x = if x = o then { s.object o with cfg := new } else s.object x := fun x =>
    (hzones.object x).trans (State.object_modObject s o x _)
  have hnow : t.paceNow o = paceFor (s.object o).acct.consumed new.allowance new.slack s.periodN s.elapsed := by
    have hn : t.periodN = s.periodN := hzones .periodN (by decide)
    have hs : t.periodStart = s.periodStart := hzones .periodStart (by decide)
    have hc : t.clock = s.clock := hzones .clock (by decide)
    simp only [State.paceNow, hobj o, if_true, State.elapsed, hn, hs, hc]
  have hpaced : (if (s.object o).cfg.allowance = new.allowance ∧ (s.object o).cfg.slack = new.slack then t
      else t.reevalPace o).object x = if x = o then s.writtenObject o new else s.object x := by
    unfold State.writtenObject
    by_cases hx : x = o
    · subst hx
      rw [if_pos rfl]
      split
      · rw [hobj, if_pos rfl]
      · rw [reevalPace_object, hobj, if_pos rfl, hnow]
    · rw [if_neg hx]
      split
      · rw [hobj, if_neg hx]
      · rw [reevalPace_otherObjects t o x hx, hobj, if_neg hx]
  split
  · exact ((foldl_touches (F := ceilings) _ (fun t z => recomputeCeiling_touches t z) _ _).object x).trans hpaced
  · exact hpaced

theorem Current.applyObject {s : State} (c : Current s) (o : ObjId) (new : ObjConf) : Current (s.applyObject o new) where
  exhausted x := by
    have hobj := applyObject_objects s o new x
    by_cases hx : x = o
    · subst hx
      unfold ExhaustedAt
      rw [hobj, if_pos rfl]
      unfold State.writtenObject
      dsimp only
      split
      · next h => rw [← h.1]; exact c.exhausted x
      · exact paceFor_exhausted _ _ _ _ _
    · exact (c.exhausted x).of_object (hobj.trans (if_neg hx))
  envelope z := (applyObject_zoneCurrent s o new z fun _ => ⟨c.envelope z, c.ceiling z⟩).1
  ceiling z := (applyObject_zoneCurrent s o new z fun _ => ⟨c.envelope z, c.ceiling z⟩).2

theorem Current.setClock {s : State} (c : Current s) (t : GTime) : Current (s.setClock t) := by
  have hset : Touches [.clock, .clockLost, .marks] s
      { s with clock := t, clockLost := false, minuteMarks := [], fiveMarks := [] } := by
    intro k hk
    cases k <;> first | rfl | simp at hk
  have hrings : ∀ u : State, Current u →
      Current (u.forZones fun z s => s.modZone z fun zn => { zn with est := { zn.est with ring := [] } }) := fun u hu =>
    hu.of_touches (F := [.est]) (forZones_touches u _ fun z s => modZone_touches s z _)
  have hdose : ∀ u : State, Current u → Current u.clockDose := fun u hu => by
    have hh : Touches [.horizon] u (u.forZones fun z s => s.modZone z fun zn => { zn with horizon := s.clock }) :=
      forZones_touches u _ fun z s => modZone_touches s z _
    exact ((hu.of_touches hh).of_touches (periodStart_touches _ _)).reevalAll
  unfold State.setClock
  dsimp only
  exact ((((hdose _ (hrings _ ((c.of_touches hset).of_touches (offer_touches _ _)))).of_touches
    (touchAll_touches _)).of_touches (clockLoop_touches _))).of_touches (F := [.det])
    (forZones_touches _ _ fun z s => modZone_touches s z _)

theorem Current.resetDose {s : State} (c : Current s) (o : ObjId) (dose : Nat) : Current (s.resetDose o dose) :=
  c.reevalPace_modAcct o fun a => { a with consumed := dose, frac := 0 }

theorem Current.setPeriod {s : State} (c : Current s) (n : Nat) (start : Option Nat) : Current (s.setPeriod n start) := by
  have h : Touches [.periodN, .periodStart] s { s with periodN := n, periodStart := start.getD s.periodStart } := by
    intro k hk
    cases k <;> first | rfl | simp at hk
  exact (c.of_touches h).reevalAll

/-! ### Start-up -/

theorem startEnvelope_touches (s : State) (z : ZoneId) : Touches [.eff, .conflict, .sticky] s (s.startEnvelope z) :=
  modZone_touches s z _

theorem startEnvelope_envelopeAt (s : State) (z : ZoneId) : EnvelopeAt (s.startEnvelope z) z := by
  unfold EnvelopeAt
  rw [(startEnvelope_touches s z).effOf z]
  simp only [State.startEnvelope, State.zone_modZone_self, and_self]

theorem EnvelopeAt.of_startEnvelope {s : State} {x : ZoneId} (c : EnvelopeAt s x) (z : ZoneId) :
    EnvelopeAt (s.startEnvelope z) x := by
  by_cases hx : x = z
  · subst hx; exact startEnvelope_envelopeAt s x
  · have hz : (s.startEnvelope z).zone x = s.zone x := State.zone_modZone_ne s _ hx
    unfold EnvelopeAt
    rw [(startEnvelope_touches s z).effOf x, hz]
    exact c

theorem startCeiling_touches (s : State) (z : ZoneId) : Touches [.ceiling] s (s.startCeiling z) := modZone_touches s z _

theorem startCeiling_ceilingAt (s : State) (z : ZoneId) : CeilingAt (s.startCeiling z) z := by
  unfold CeilingAt
  rw [(startCeiling_touches s z).ceilingOf z]
  simp only [State.startCeiling, State.zone_modZone_self]

theorem CeilingAt.of_startCeiling {s : State} {x : ZoneId} (c : CeilingAt s x) (z : ZoneId) :
    CeilingAt (s.startCeiling z) x := by
  by_cases hx : x = z
  · subst hx; exact startCeiling_ceilingAt s x
  · have hz : (s.startCeiling z).zone x = s.zone x := State.zone_modZone_ne s _ hx
    unfold CeilingAt
    rw [(startCeiling_touches s z).ceilingOf x, hz]
    exact c

theorem startPace_exhaustedAt (s : State) (o : ObjId) : ExhaustedAt (s.startPace o) o := by
  unfold ExhaustedAt State.startPace
  rw [State.object_modObject_self]
  exact paceFor_exhausted _ _ _ _ _

theorem ExhaustedAt.of_startPace {s : State} {x : ObjId} (c : ExhaustedAt s x) (o : ObjId) :
    ExhaustedAt (s.startPace o) x := by
  by_cases hx : x = o
  · subst hx; exact startPace_exhaustedAt s x
  · exact c.of_object (State.object_modObject_ne s _ hx)

theorem restore_touches (s : State) (d : DoseImage) (secs : Nat) (o : ObjId) : Touches [.acct] s (s.restore d secs o) := by
  unfold State.restore
  dsimp only
  split
  · exact modObject_touches s o _
  · exact .refl _ s

theorem startEnvelopes_envelopeAt (s : State) (z : ZoneId) : EnvelopeAt (s.forZones fun z s => s.startEnvelope z) z :=
  forZones_each s (fun z s => s.startEnvelope z) (fun z t => EnvelopeAt t z) (fun z t => startEnvelope_envelopeAt t z)
    (fun z _ _ h => h.of_startEnvelope z) z

theorem startPaces_exhaustedAt (s : State) (o : ObjId) : ExhaustedAt (s.forObjects fun o s => s.startPace o) o :=
  forObjects_each s (fun o s => s.startPace o) (fun o t => ExhaustedAt t o) (fun o t => startPace_exhaustedAt t o)
    (fun o _ _ h => h.of_startPace o) o

theorem startPaces_touches (s : State) : Touches [.pace] s (s.forObjects fun o s => s.startPace o) :=
  forObjects_touches s _ fun o s => modObject_touches s o _

theorem startCeilings_ceilingAt (s : State) (z : ZoneId) : CeilingAt (s.forZones fun z s => s.startCeiling z) z :=
  forZones_each s (fun z s => s.startCeiling z) (fun z t => CeilingAt t z) (fun z t => startCeiling_ceilingAt t z)
    (fun z _ _ h => h.of_startCeiling z) z

theorem startCeilings_touches (s : State) : Touches [.ceiling] s (s.forZones fun z s => s.startCeiling z) :=
  forZones_touches s _ fun z s => startCeiling_touches s z

/-- Pace states and C computed after the envelopes: all three promises hold, whatever the accounts are (R67, R71). -/
theorem current_startPaces {s t : State} (henv : ∀ z, EnvelopeAt s z) (hacct : Touches [.acct] s t) :
    Current ((t.forObjects fun o s => s.startPace o).forZones fun z s => s.startCeiling z) where
  exhausted o := (startPaces_exhaustedAt t o).of_touches (startCeilings_touches _)
  envelope z := (((henv z).of_touches hacct).of_touches (startPaces_touches t)).of_touches (startCeilings_touches _)
  ceiling := startCeilings_ceilingAt _

/-- Step 5 of start-up computes all that the promises name, in every state (R19, R67, R189). -/
theorem current_evaluateStart (s : State) (dose : Option DoseImage) (lost : Bool) : Current (s.evaluateStart dose lost) := by
  cases dose with
  | none => exact current_startPaces (startEnvelopes_envelopeAt s) (.refl _ _)
  | some d =>
    exact current_startPaces (startEnvelopes_envelopeAt s) (forObjects_touches _ _ fun o s => restore_touches s _ _ o)

theorem current_startUp (s : State) (straps : Straps) (running : GTime) (flag lost byPin : Bool) :
    Current (s.startUp straps running flag lost byPin) := by
  unfold State.startUp
  dsimp only
  have h := (current_evaluateStart (s.loaded straps (s.store.config.getD (defaultConfig straps.roles)) s.store.dose
    (startClock lost s.store.dose running) (flag || lost)) s.store.dose lost).of_touches
    (offer_touches _ (.start (startClock lost s.store.dose running) s.store.config.isSome s.store.dose.isSome lost byPin))
  split
  · exact h.of_touches (pendWhere_touches _ _ _)
  · exact h

end Sys2Proof.Machine
end

section
/-! ## Each command keeps the promises on pace, envelope and C -/

namespace Sys2Proof.Machine

open Sys2Proof

set_option Elab.async false

/-- The outcome is a next state, and it has the property. -/
def NextHas (P : State → Prop) : Host.Outcome State Fault Refusal → Prop
  | .next t => P t
  | .fault _ => False
  | .refused _ => False

theorem NextHas.of_next {P : State → Prop} {out : Host.Outcome State Fault Refusal} {t : State} (h : NextHas P out)
    (ht : out = .next t) : P t := by
  subst ht
  exact h

/-! ### The shapes of a request -/

namespace Current

variable {s : State}

theorem refuse (c : Current s) (p : PortId) (f : Frame) (code : Status) : Current (s.refuse p f code) :=
  c.of_touches (refuse_touches s p f code)

theorem answer (c : Current s) (p : PortId) (f : Frame) (st : Status) (pl : List Byte) : Current (s.answer p f st pl) :=
  c.of_touches (answer_touches s p f st pl)

theorem serve (c : Current s) (p : PortId) (row : ReqRow) (handle : Frame → State → State)
    (h : ∀ f t, Current t → Current (handle f t)) : Current (s.serve p row handle) := by
  unfold State.serve State.takeFrame
  split
  · next heq =>
    split at heq
    · cases heq
    · split at heq
      · cases heq
        exact (h _ _ (c.of_touches (taken_touches s p _))).of_touches (countRequest_touches _ p)
      · cases heq
  · exact c

theorem withArg {α : Type} (c : Current s) (p : PortId) (f : Frame) (arg : Option α) (act : α → State → State)
    (h : ∀ a, Current (act a s)) : Current (s.withArg p f arg act) := by
  unfold State.withArg
  split
  · exact c.refuse p f _
  · exact h _

theorem withRight (c : Current s) (p : PortId) (f : Frame) (z : ZoneId) (r : Right) (act : State → State)
    (h : Current (act s)) : Current (s.withRight p f z r act) := by
  unfold State.withRight
  split
  · exact h
  · exact c.refuse p f _

theorem withSub (c : Current s) (p : PortId) (f : Frame) (act : Subscription → State → State)
    (h : ∀ sub, Current (act sub s)) : Current (s.withSub p f act) := by
  unfold State.withSub
  split
  · exact c.refuse p f _
  · exact h _

theorem asSystem (c : Current s) (p : PortId) (f : Frame) (act : State → State) (h : Current (act s)) :
    Current (s.asSystem p f act) := by
  unfold State.asSystem
  split
  · exact h
  · exact c.refuse p f _

theorem writeFields {α : Type} (c : Current s) (p : PortId) (f : Frame) (mask : Nat) (fields : List Byte)
    (field : Nat → List Byte → α → Option (α × List Byte)) (held : α) (ok : α → Bool) (apply : α → State → State)
    (bytes : State → List Byte) (h : ∀ a, Current (apply a s)) :
    Current (s.writeFields p f mask fields field held ok apply bytes) := by
  unfold State.writeFields
  split
  · exact c.refuse p f _
  · split
    · exact (h _).answer p f _ _
    · exact c.refuse p f _

/-! ### Requests -/

theorem execTakeTenure (c : Current s) (p : PortId) : NextHas Current (execTakeTenure p s) :=
  c.serve p _ _ fun f t ct => ct.withArg p f _ _ fun (z, ch, pre) => ct.withRight p f z _ _ <| by
    have h := (ct.of_touches (takeChannel_touches t p z ch pre)).answer p f (t.takeChannel p z ch pre).2
      (tenureBytes ((t.takeChannel p z ch pre).1.chan z ch))
    dsimp only
    split
    · exact h.of_touches (takeLapse_touches _ z ch)
    · exact h

theorem execReleaseTenure (c : Current s) (p : PortId) : NextHas Current (execReleaseTenure p s) :=
  c.serve p _ _ fun f t ct => ct.withArg p f _ _ fun (z, ch) =>
    (ct.of_touches (releaseChannel_touches t p z ch)).answer p f _ _

theorem execSetHold (c : Current s) (p : PortId) : NextHas Current (execSetHold p s) :=
  c.serve p _ _ fun f t ct => ct.asSystem p f _ <| ct.withArg p f _ _ fun (ch, n) => by
    have h : Touches [.holds] t { t with holds := t.holds.set (chanIdx ch) n } := by
      intro k hk
      cases k <;> first | rfl | simp at hk
    exact ((ct.of_touches h).answer p f _ _).forZones _ fun z u cu => cu.of_touches (takeLapse_touches u z ch)

theorem execClearConditions (c : Current s) (p : PortId) : NextHas Current (execClearConditions p s) :=
  c.serve p _ _ fun f t ct => ct.withArg p f _ _ fun (z, cs) => ct.withRight p f z _ _ <|
    Current.answer (ct.of_touches (F := [.sticky])
      (modZone_touches t z fun zn => { zn with sticky := zn.sticky &&& ~~~cs })) p f _ _

theorem execWriteZone (c : Current s) (p : PortId) : NextHas Current (execWriteZone p s) :=
  c.serve p _ _ fun f t ct => by
    unfold State.writeZoneRequest
    split
    · split
      · exact ct.refuse p f _
      · dsimp only
        split
        · exact ct.withRight p f _ _ _ (ct.answer p f _ _)
        · exact ct.withRight p f _ _ _ (ct.writeFields p f _ _ _ _ _ _ _ fun new => ct.applyZone _ new)
    · exact ct.refuse p f _

theorem execWriteEnvelope (c : Current s) (p : PortId) : NextHas Current (execWriteEnvelope p s) :=
  c.serve p _ _ fun f t ct => by
    unfold State.writeEnvelopeRequest
    split
    · split
      · exact ct.refuse p f _
      · dsimp only
        split
        · exact ct.withRight p f _ _ _ (ct.answer p f _ _)
        · exact ct.withRight p f _ _ _ (ct.writeFields p f _ _ _ _ _ _ _ fun new => ct.applyEnvelope _ new)
    · exact ct.refuse p f _

theorem execWriteObject (c : Current s) (p : PortId) : NextHas Current (execWriteObject p s) :=
  c.serve p _ _ fun f t ct => by
    unfold State.writeObjectRequest
    split
    · split
      · exact ct.refuse p f _
      · dsimp only
        split
        · exact ct.withRight p f _ _ _ (ct.answer p f _ _)
        · split
          · exact ct.writeFields p f _ _ _ _ _ _ _ fun new => ct.applyObject _ new
          · exact ct.refuse p f _
    · exact ct.refuse p f _

theorem execReadObject (c : Current s) (p : PortId) : NextHas Current (execReadObject p s) :=
  c.serve p _ _ fun f _ ct => ct.withArg p f _ _ fun _ => ct.withRight p f _ _ _ (ct.answer p f _ _)

theorem execReadZone (c : Current s) (p : PortId) : NextHas Current (execReadZone p s) :=
  c.serve p _ _ fun f _ ct => ct.withArg p f _ _ fun (z, _) => ct.withRight p f z _ _ (ct.answer p f _ _)

theorem execReadNode (c : Current s) (p : PortId) : NextHas Current (execReadNode p s) :=
  c.serve p _ _ fun f t ct => ct.withArg p f _ _ fun n => by
    split
    · exact ct.withRight p f _ _ _ (ct.answer p f _ _)
    · exact ct.answer p f _ _

theorem drawFor_touches (s : State) (q : PortId) : Touches [.draws] s (s.drawFor q) := by
  intro k hk
  unfold State.drawFor
  split
  · cases k <;> first | rfl | simp at hk
  · rfl

theorem execReadPort (c : Current s) (p : PortId) : NextHas Current (execReadPort p s) :=
  c.serve p _ _ fun f t ct => ct.withArg p f _ _ fun q => (ct.of_touches (drawFor_touches t q)).answer p f _ _

theorem execReadSystem (c : Current s) (p : PortId) : NextHas Current (execReadSystem p s) :=
  c.serve p _ _ fun f _ ct => ct.withArg p f _ _ fun _ => ct.answer p f _ _

theorem execSubscribeOn (c : Current s) (p : PortId) : NextHas Current (execSubscribeOn p s) :=
  c.serve p _ _ fun f t ct => ct.withArg p f _ _ fun w => (ct.of_touches (subscribe_touches t p w)).answer p f _ _

theorem execSubscribeOff (c : Current s) (p : PortId) : NextHas Current (execSubscribeOff p s) :=
  c.serve p _ _ fun f t ct => (ct.of_touches (unsubscribe_touches t p)).answer p f _ _

theorem execDrain (c : Current s) (p : PortId) : NextHas Current (execDrain p s) :=
  c.serve p _ _ fun f t ct => by
    split
    · exact ct.refuse p f _
    · exact ct.withSub p f _ fun sub => ct.withArg p f _ _ fun n => ct.of_touches (drainRequest_touches t p f sub n)

theorem execScan (c : Current s) (p : PortId) : NextHas Current (execScan p s) :=
  c.serve p _ _ fun f t ct => by
    split
    · exact ct.refuse p f _
    · exact ct.withSub p f _ fun sub => ct.withArg p f _ _ fun sel => ct.of_touches (scanRequest_touches t p f sub sel)

theorem execSetWatchOn (c : Current s) (p : PortId) : NextHas Current (execSetWatchOn p s) :=
  c.serve p _ _ fun f t ct => by
    split
    · exact ct.refuse p f _
    · exact ct.withSub p f _ fun _ => ct.withArg p f _ _ fun sel =>
        (ct.of_touches (setWatch_touches t p (some sel))).answer p f _ _

theorem execSetWatchOff (c : Current s) (p : PortId) : NextHas Current (execSetWatchOff p s) :=
  c.serve p _ _ fun f t ct => ct.withSub p f _ fun _ => (ct.of_touches (setWatch_touches t p none)).answer p f _ _

theorem execMark (c : Current s) (p : PortId) : NextHas Current (execMark p s) :=
  c.serve p _ _ fun f t ct => ct.withArg p f _ _ fun zs => by
    split
    · exact (ct.of_touches (markZones_touches t zs)).answer p f _ _
    · exact ct.refuse p f _

theorem execSetAttention (c : Current s) (p : PortId) : NextHas Current (execSetAttention p s) :=
  c.serve p _ _ fun f t ct => ct.withArg p f _ _ fun (enable, zones, conds, mode) =>
    Current.answer (ct.of_touches (F := [.attn, .settings])
      (modPort_touches t p fun pt => pt.setAttention enable zones conds mode)) p f _ _

theorem execAckAttention (c : Current s) (p : PortId) : NextHas Current (execAckAttention p s) :=
  c.serve p _ _ fun f t ct => ct.withArg p f _ _ fun bits =>
    Current.answer (ct.of_touches (F := [.attn])
      (modPort_touches t p fun pt => { pt with attn := pt.attn &&& ~~~bits })) p f _ _

theorem execSuperviseOn (c : Current s) (p : PortId) : NextHas Current (execSuperviseOn p s) :=
  c.serve p _ _ fun f t ct => ct.asSystem p f _ <| ct.withArg p f _ _ fun _ => by
    split
    · exact ct.answer p f _ _
    · exact (ct.of_touches (enterSupervised_touches t)).answer p f _ _

theorem execSuperviseOff (c : Current s) (p : PortId) : NextHas Current (execSuperviseOff p s) :=
  c.serve p _ _ fun f t ct => ct.asSystem p f _ <| by
    split
    · exact (ct.of_touches (enterStandby_touches t)).answer p f _ _
    · exact ct.answer p f _ _

theorem execSetClock (c : Current s) (p : PortId) : NextHas Current (execSetClock p s) :=
  c.serve p _ _ fun f _ ct => ct.asSystem p f _ <| ct.withArg p f _ _ fun time => (ct.setClock time).answer p f _ _

theorem execSave (c : Current s) (p : PortId) : NextHas Current (execSave p s) :=
  c.serve p _ _ fun f t ct => ct.asSystem p f _ <| ct.withArg p f _ _ fun _ =>
    (ct.of_touches (requestSave_touches t)).answer p f _ _

theorem execWriteAuthority (c : Current s) (p : PortId) : NextHas Current (execWriteAuthority p s) :=
  c.serve p _ _ fun f t ct => ct.asSystem p f _ <| ct.withArg p f _ _ fun (q, zs, rs) => by
    dsimp only
    split
    · exact ct.refuse p f _
    · refine Current.answer (ct.forZones _ fun z u cu => ?_) p f _ _
      split
      · exact cu.of_touches (writeRights_touches u q z rs)
      · exact cu

theorem execWriteNode (c : Current s) (p : PortId) : NextHas Current (execWriteNode p s) :=
  c.serve p _ _ fun f t ct => ct.asSystem p f _ <| ct.withArg p f _ _ fun (n, kind, code) => by
    dsimp only
    split
    · exact (ct.of_touches (applyNode_touches t n kind code)).answer p f _ _
    · exact ct.refuse p f _

theorem execResetDose (c : Current s) (p : PortId) : NextHas Current (execResetDose p s) :=
  c.serve p _ _ fun f _ ct => ct.asSystem p f _ <| ct.withArg p f _ _ fun (o, dose) => (ct.resetDose o dose).answer p f _ _

theorem execSetPeriod (c : Current s) (p : PortId) : NextHas Current (execSetPeriod p s) :=
  c.serve p _ _ fun f t ct => ct.asSystem p f _ <| ct.withArg p f _ _ fun (n, start) => by
    dsimp only
    split
    · exact (ct.setPeriod n start).answer p f _ _
    · exact ct.refuse p f _

theorem execBadCmd (c : Current s) (p : PortId) : NextHas Current (execBadCmd p s) :=
  c.serve p _ _ fun f _ ct => ct.refuse p f _

theorem takeFrame (c : Current s) {p : PortId} {row : ReqRow} {f : Frame} {t : State} (h : s.takeFrame p row = some (f, t)) :
    Current t := by
  unfold State.takeFrame at h
  split at h
  · cases h
  · split at h
    · cases h
      exact c.of_touches (taken_touches s p _)
    · cases h

theorem execSetPoint (c : Current s) (p : PortId) : NextHas Current (execSetPoint p s) := by
  unfold Machine.execSetPoint
  split
  · next h => exact (c.takeFrame h).of_touches (setPointRequest_touches _ p _)
  · exact c

theorem execLink (c : Current s) (p : PortId) : NextHas Current (execLink p s) := by
  unfold Machine.execLink
  split
  · next h => exact (c.takeFrame h).of_touches (linkRequest_touches _ p _)
  · exact c

/-! ### Events -/

theorem execLinkTimeout (c : Current s) (p : PortId) : NextHas Current (execLinkTimeout p s) := by
  show Current (if _ then _ else _)
  split
  · exact c.of_touches (breakLink_touches s p _)
  · exact c

theorem execFrame (c : Current s) (p : PortId) (bytes : List Byte) : NextHas Current (execFrame p bytes s) :=
  foldl_keeps (fun s b => s.takeByte p b) Current (fun t b ct => ct.of_touches (takeByte_touches t p b)) bytes s c

theorem execInterByteGap (c : Current s) (p : PortId) : NextHas Current (execInterByteGap p s) := by
  unfold Machine.execInterByteGap
  split
  · exact c
  · exact c.of_touches (discard_touches s p)

theorem execResponseSent (c : Current s) (p : PortId) : NextHas Current (execResponseSent p s) :=
  c.of_touches (F := [.tx]) (modPort_touches s p fun pt => { pt with tx := pt.tx.drop 1 })

theorem execAttentionPulseEnd (c : Current s) (p : PortId) : NextHas Current (execAttentionPulseEnd p s) :=
  c.of_touches (F := [.attn]) (modPort_touches s p fun pt => { pt with pulse := false })

theorem execPowerOn (s : State) (straps : Straps) (kept : Option Nat) : NextHas Current (execPowerOn straps kept s) := by
  unfold Machine.execPowerOn
  split
  · exact current_startUp s straps _ _ _ _
  · exact current_startUp s straps _ _ _ _

theorem execMinuteMark (c : Current s) : NextHas Current (execMinuteMark s) := by
  unfold Machine.execMinuteMark
  split
  · exact c
  · next rest _ =>
    have h : Touches [.marks] s { s with minuteMarks := rest } := by
      intro k hk
      cases k <;> first | rfl | simp at hk
    exact (c.of_touches h).minuteWork _

theorem execFiveMinuteMark (c : Current s) : NextHas Current (execFiveMinuteMark s) := by
  unfold Machine.execFiveMinuteMark
  split
  · exact c
  · next rest _ =>
    have h : Touches [.marks] s { s with fiveMarks := rest } := by
      intro k hk
      cases k <;> first | rfl | simp at hk
    exact (c.of_touches h).forZones _ fun z t ct => ct.of_touches (markZone_touches t z)

theorem execSensorPollDue (c : Current s) (addr : Nat) : NextHas Current (execSensorPollDue addr s) := by
  unfold Machine.execSensorPollDue
  split
  · exact c
  · dsimp only
    split
    · exact c.of_touches (modNode_touches s _ _)
    · exact c

theorem execStatusDue (c : Current s) (addr : Nat) : NextHas Current (execStatusDue addr s) := by
  unfold Machine.execStatusDue
  split
  · exact c
  · split
    · exact c.of_touches (modNode_touches s _ _)
    · exact c

theorem execActuatorRetry (c : Current s) (addr : Nat) : NextHas Current (execActuatorRetry addr s) := by
  unfold Machine.execActuatorRetry
  split
  · exact c
  · split
    · exact c.of_touches (retryNode_touches s _)
    · exact c

theorem execLoopTransactionStart (c : Current s) : NextHas Current (execLoopTransactionStart s) := by
  unfold Machine.execLoopTransactionStart
  split
  · exact c
  · have h := c.of_touches (pruneCommands_touches s)
    dsimp only
    split
    · exact h.of_touches (begin_touches _ _)
    · exact h

theorem execLoopReply (c : Current s) (bytes : List Byte) : NextHas Current (execLoopReply bytes s) := by
  unfold Machine.execLoopReply
  split
  · exact c
  · split
    · exact c
    · exact c.endTransaction _ _

theorem execLoopReplyTimeout (c : Current s) : NextHas Current (execLoopReplyTimeout s) := by
  unfold Machine.execLoopReplyTimeout
  split
  · exact c
  · split
    · exact c.of_touches (txn_touches s none)
    · exact c.endTransaction _ _

end Current

/-- Every command keeps the three promises. -/
theorem exec_current {s : State} (c : Current s) (i : Instr) : NextHas Current (exec i s) := by
  cases i with
  | powerOn straps kept => exact Current.execPowerOn s straps kept
  | resetPin straps => exact current_startUp s straps s.clock s.clockLost false true
  | frame p bytes => exact c.execFrame p bytes
  | interByteGap p => exact c.execInterByteGap p
  | responseSent p => exact c.execResponseSent p
  | attentionPulseEnd p => exact c.execAttentionPulseEnd p
  | badCmd p => exact c.execBadCmd p
  | setPoint p => exact c.execSetPoint p
  | link p => exact c.execLink p
  | linkTimeout p => exact c.execLinkTimeout p
  | takeTenure p => exact c.execTakeTenure p
  | releaseTenure p => exact c.execReleaseTenure p
  | tenureLapse z ch => exact c.of_touches (takeLapse_touches s z ch)
  | clearConditions p => exact c.execClearConditions p
  | writeZone p => exact c.execWriteZone p
  | writeEnvelope p => exact c.execWriteEnvelope p
  | writeObject p => exact c.execWriteObject p
  | readObject p => exact c.execReadObject p
  | readZone p => exact c.execReadZone p
  | readNode p => exact c.execReadNode p
  | readPort p => exact c.execReadPort p
  | readSystem p => exact c.execReadSystem p
  | subscribeOn p => exact c.execSubscribeOn p
  | subscribeOff p => exact c.execSubscribeOff p
  | drain p => exact c.execDrain p
  | scan p => exact c.execScan p
  | setWatchOn p => exact c.execSetWatchOn p
  | setWatchOff p => exact c.execSetWatchOff p
  | mark p => exact c.execMark p
  | setAttention p => exact c.execSetAttention p
  | ackAttention p => exact c.execAckAttention p
  | superviseOn p => exact c.execSuperviseOn p
  | superviseOff p => exact c.execSuperviseOff p
  | setClock p => exact c.execSetClock p
  | save p => exact c.execSave p
  | writeAuthority p => exact c.execWriteAuthority p
  | writeNode p => exact c.execWriteNode p
  | resetDose p => exact c.execResetDose p
  | setPeriod p => exact c.execSetPeriod p
  | setHold p => exact c.execSetHold p
  | clockSecond => exact c.of_touches (tick_touches s)
  | minuteMark => exact c.execMinuteMark
  | fiveMinuteMark => exact c.execFiveMinuteMark
  | storeWriteEnd verified => exact c.of_touches (endSection_touches s verified)
  | sensorPollDue addr => exact c.execSensorPollDue addr
  | statusDue addr => exact c.execStatusDue addr
  | actuatorRetry addr => exact c.execActuatorRetry addr
  | loopTransactionStart => exact c.execLoopTransactionStart
  | loopReply bytes => exact c.execLoopReply bytes
  | loopReplyTimeout => exact c.execLoopReplyTimeout

theorem step_current {s : State} (c : Current s) : NextHas Current (step s) := by
  unfold step
  split
  · exact c
  · next rest _ =>
    have h : Touches [.pending] s { s with pending := rest } := by
      intro k hk
      cases k <;> first | rfl | simp at hk
    exact exec_current (c.of_touches h) _

end Sys2Proof.Machine

open Sys2Proof Sys2Proof.Machine

set_option Elab.async false

/-- Settles O57: an invariant of every command, with start-up establishing it from nothing. -/
theorem stepKeepsEnvelopePaceAndCeiling : Obligations.StepKeepsEnvelopePaceAndCeiling := by
  intro s t hexhausted henvelope hceiling hstep
  have c : Current s := (current_iff s).mpr ⟨hexhausted, henvelope, hceiling⟩
  exact (current_iff t).mp ((step_current c).of_next hstep)
end

section
/-! ## The effective envelope is the tightest of the limits (R14, R15) -/

namespace Sys2Proof.Machine

open Sys2Proof

set_option Elab.async false

/-- Tighten a bound by a limit that may be absent. -/
def tighten {α : Type} [LinearOrder α] (a : α) (limit : Option α) : α := limit.elim a (min a)

/-- A bound tightened by the limits of a list, one after the other, is no greater than the bound and than any limit, and is the
bound or one of the limits. -/
theorem foldl_tighten {ι α : Type} [LinearOrder α] (limit : ι → Option α) (l : List ι) (a : α) :
    l.foldl (fun a i => tighten a (limit i)) a ≤ a ∧
      (∀ i ∈ l, ∀ x, limit i = some x → l.foldl (fun a i => tighten a (limit i)) a ≤ x) ∧
      (l.foldl (fun a i => tighten a (limit i)) a = a ∨
        ∃ i ∈ l, limit i = some (l.foldl (fun a i => tighten a (limit i)) a)) := by
  induction l generalizing a with
  | nil => exact ⟨le_rfl, fun i hi => absurd hi List.not_mem_nil, .inl rfl⟩
  | cons j l ih =>
    obtain ⟨hbound, hlimits, hattained⟩ := ih (tighten a (limit j))
    simp only [List.foldl_cons]
    generalize l.foldl (fun a i => tighten a (limit i)) (tighten a (limit j)) = r at hbound hlimits hattained ⊢
    have htail : (∃ i ∈ l, limit i = some r) → ∃ i ∈ j :: l, limit i = some r :=
      fun ⟨i, hi, h⟩ => ⟨i, List.mem_cons_of_mem j hi, h⟩
    cases hj : limit j with
    | none =>
      simp only [hj, tighten, Option.elim_none] at hbound hattained
      refine ⟨hbound, fun i hi x hx => ?_, hattained.imp_right htail⟩
      rcases List.mem_cons.mp hi with rfl | hi
      · simp [hj] at hx
      · exact hlimits i hi x hx
    | some y =>
      simp only [hj, tighten, Option.elim_some] at hbound hattained
      refine ⟨hbound.trans (min_le_left a y), fun i hi x hx => ?_, ?_⟩
      · rcases List.mem_cons.mp hi with rfl | hi
        · obtain rfl : y = x := Option.some.inj (hj.symm.trans hx)
          exact hbound.trans (min_le_right a y)
        · exact hlimits i hi x hx
      · rcases hattained with h | h
        · rcases min_choice a y with hm | hm
          · exact .inl (h.trans hm)
          · exact .inr ⟨j, List.mem_cons_self, by rw [hj, h, hm]⟩
        · exact .inr (htail h)

/-- The limit an object in a zone puts on a bound. -/
def Object.limitIn {α : Type} (ob : Object) (z : ZoneId) (limit : ObjConf → Option α) : Option α :=
  if ob.inZone z then limit ob.cfg else none

theorem Object.limitIn_eq_some {α : Type} {ob : Object} {z : ZoneId} {limit : ObjConf → Option α} {x : α} :
    ob.limitIn z limit = some x ↔ (ob.cfg.use = true ∧ ob.cfg.zone = z) ∧ limit ob.cfg = some x := by
  rw [← Object.inZone_iff, Object.limitIn]
  split <;> simp_all

/-- The least lux at the sensor that an object's own lux ceiling allows (R15). -/
def ObjConf.luxLimit (c : ObjConf) : Option Nat := if 0 < c.w then c.luxCeil.map fun x => conv x c.w else none

/-- A component of the effective envelope is the zone's, tightened object by object. -/
theorem effOf_component {α : Type} [LinearOrder α] (s : State) (z : ZoneId) (get : EffEnvelope → α) (limit : ObjConf → Option α)
    (h : ∀ e c, get (e.narrow c) = tighten (get e) (limit c)) :
    get (s.effOf z) =
      allObjects.foldl (fun a o => tighten a ((s.object o).limitIn z limit)) (get (s.zone z).env.alone) := by
  refine (List.foldl_hom get fun e o => ?_).symm
  unfold Object.limitIn
  split
  · exact (h e _).symm
  · rfl

/-- What a component of the effective envelope is: no looser than the zone's and each object's, and one of them. -/
theorem effOf_tightest {α : Type} [LinearOrder α] (s : State) (z : ZoneId) (get : EffEnvelope → α) (limit : ObjConf → Option α)
    (h : ∀ e c, get (e.narrow c) = tighten (get e) (limit c)) :
    get (s.effOf z) ≤ get (s.zone z).env.alone ∧
      (∀ o, (s.object o).cfg.use = true ∧ (s.object o).cfg.zone = z → ∀ x, limit (s.object o).cfg = some x →
        get (s.effOf z) ≤ x) ∧
      (get (s.effOf z) = get (s.zone z).env.alone ∨ ∃ o, ((s.object o).cfg.use = true ∧ (s.object o).cfg.zone = z) ∧
        limit (s.object o).cfg = some (get (s.effOf z))) := by
  rw [effOf_component s z get limit h]
  obtain ⟨hbound, hlimits, hattained⟩ :=
    foldl_tighten (fun o => (s.object o).limitIn z limit) allObjects (get (s.zone z).env.alone)
  refine ⟨hbound, fun o ho x hx => hlimits o (List.mem_finRange o) x (Object.limitIn_eq_some.mpr ⟨ho, hx⟩), ?_⟩
  exact hattained.imp_right fun ⟨o, _, ho⟩ => ⟨o, Object.limitIn_eq_some.mp ho⟩

/-- R14: the temperature band, its swing limit and the UV ceiling are the zone's own. -/
theorem effOf_own {α : Type} (s : State) (z : ZoneId) (get : EffEnvelope → α) (h : ∀ e c, get (e.narrow c) = get e) :
    get (s.effOf z) = get (s.zone z).env.alone := by
  have h' : ∀ e o, get (if (s.object o).inZone z then e.narrow (s.object o).cfg else e) = get e := fun e o => by
    split
    · exact h e _
    · rfl
  exact (List.foldl_hom (g₂ := fun a _ => a) get fun e o => (h' e o).symm).symm.trans (List.foldl_fixed _)

/-- R15: the lux ceiling of an object with a weight, turned into one at the sensor. -/
theorem luxLimit_eq_some {c : ObjConf} {y : Nat} :
    c.luxLimit = some y ↔ ∃ x, c.luxCeil = some x ∧ 0 < c.w ∧ y = x * 1000 / c.w := by
  unfold ObjConf.luxLimit
  split
  · next h => simp [conv, h, eq_comm]
  · next h => simp [h]

theorem narrow_rhLo (e : EffEnvelope) (c : ObjConf) :
    -(e.narrow c).rhLo = tighten (-e.rhLo) (c.rhBand.map fun b => -b.1) := by
  cases h : c.rhBand <;> simp [EffEnvelope.narrow, tighten, h, min_neg_neg]

theorem narrow_rhHi (e : EffEnvelope) (c : ObjConf) : (e.narrow c).rhHi = tighten e.rhHi (c.rhBand.map Prod.snd) := by
  cases h : c.rhBand <;> simp [EffEnvelope.narrow, tighten, h]

theorem narrow_rhSwing (e : EffEnvelope) (c : ObjConf) : (e.narrow c).rhSwing = tighten e.rhSwing c.rhSwing := by
  cases h : c.rhSwing <;> simp [EffEnvelope.narrow, tighten, h]

theorem narrow_lux (e : EffEnvelope) (c : ObjConf) : (e.narrow c).lux = tighten e.lux c.luxLimit := by
  by_cases hw : 0 < c.w <;> cases h : c.luxCeil <;> simp [EffEnvelope.narrow, ObjConf.luxLimit, tighten, h, hw]

end Sys2Proof.Machine

open Sys2Proof Sys2Proof.Machine

set_option Elab.async false

/-- Settles O20: each bound is a fold of the objects' limits; the lower end of the RH band is bounded through its negation. -/
theorem effectiveEnvelopeIsTightest : Obligations.EffectiveEnvelopeIsTightest := by
  intro s z
  obtain ⟨hlo, hlos, hloAt⟩ := effOf_tightest s z (fun e => -e.rhLo) (fun c => c.rhBand.map fun b => -b.1) narrow_rhLo
  obtain ⟨hhi, hhis, hhiAt⟩ := effOf_tightest s z (·.rhHi) (fun c => c.rhBand.map Prod.snd) narrow_rhHi
  obtain ⟨hsw, hsws, hswAt⟩ := effOf_tightest s z (·.rhSwing) (·.rhSwing) narrow_rhSwing
  obtain ⟨hlux, hluxs, hluxAt⟩ := effOf_tightest s z (·.lux) (·.luxLimit) narrow_lux
  refine ⟨effOf_own s z (·.tLo) fun _ _ => rfl, effOf_own s z (·.tHi) fun _ _ => rfl, effOf_own s z (·.tSwing) fun _ _ => rfl,
    effOf_own s z (·.uv) fun _ _ => rfl, ⟨neg_le_neg_iff.mp hlo, hhi, hsw, hlux⟩, fun o ho => ⟨fun lo hi hb => ?_, hsws o ho,
    fun x hx hw => hluxs o ho _ (luxLimit_eq_some.mpr ⟨x, hx, hw, rfl⟩)⟩, ?_, ?_, hswAt, ?_⟩
  · exact ⟨neg_le_neg_iff.mp (hlos o ho (-lo) (by rw [hb]; rfl)), hhis o ho hi (by rw [hb]; rfl)⟩
  · refine hloAt.imp (fun h => neg_injective h) fun ⟨o, ho, hl⟩ => ?_
    obtain ⟨⟨lo, hi⟩, hb, hlo⟩ := Option.map_eq_some_iff.mp hl
    obtain rfl : lo = (s.effOf z).rhLo := neg_injective hlo
    exact ⟨o, hi, ho, hb⟩
  · refine hhiAt.imp id fun ⟨o, ho, hl⟩ => ?_
    obtain ⟨⟨lo, hi⟩, hb, hhi⟩ := Option.map_eq_some_iff.mp hl
    obtain rfl : hi = (s.effOf z).rhHi := hhi
    exact ⟨o, lo, ho, hb⟩
  · refine hluxAt.imp id fun ⟨o, ho, hl⟩ => ?_
    obtain ⟨x, hx, hw, hlux⟩ := luxLimit_eq_some.mp hl
    exact ⟨o, x, ho, hx, hw, hlux⟩

end

section
/-! ## The five reads -/

namespace Sys2Proof.Machine

open Sys2Proof

set_option Elab.async false

/-! ### Requests and the names their bytes spell -/

theorem zoneOf?_u1 (z : ZoneId) : zoneOf? (u1 z.val) = some z := by
  revert z; decide

theorem objOf?_u1 (o : ObjId) : objOf? (u1 o.val) = some o := by
  revert o; decide

theorem portOf?_u1 (p : PortId) : portOf? (u1 p.val) = some p := by
  revert p; decide

theorem nodeOf?_u1 (n : NodeId) : nodeOf? (u1 (n.val + 1)).toNat = some n := by
  revert n; decide

/-- The request that waits is taken, handled and counted. -/
theorem NextRequest.serve {s : State} {p : PortId} {cmd : Byte} {f : Frame} {rest : List Frame} {row : ReqRow}
    (h : NextRequest s p cmd f rest) (hrow : rowOf f = row) (handle : Frame → State → State) :
    s.serve p row handle = (handle f (s.withTaken p rest)).countRequest p := serve_next h.1 hrow handle

/-- A request that needs a right is carried out or refused, as the right stands before it is taken. -/
theorem withTaken_withRight (s : State) (p : PortId) (f : Frame) (rest : List Frame) (z : ZoneId) (r : Right)
    (act : State → State) : (s.withTaken p rest).withRight p f z r act =
      if s.may p z r then act (s.withTaken p rest) else (s.withTaken p rest).refuse p f .noRight := by
  unfold State.withRight
  rw [withTaken_may]

theorem withTaken_port_role (s : State) (p q : PortId) (rest : List Frame) :
    ((s.withTaken p rest).port q).role = (s.port q).role := by
  simp only [State.withTaken, State.port_modPort]
  split
  · next h => subst h; rfl
  · rfl

theorem withTaken_port_link (s : State) (p q : PortId) (rest : List Frame) :
    ((s.withTaken p rest).port q).link = (s.port q).link := by
  simp only [State.withTaken, State.port_modPort]
  split
  · next h => subst h; rfl
  · rfl

/-! ### READ_ZONE -/

theorem nodeItems_eq (s : State) (n : Option NodeId) : nodeItems s n = s.nodeBytes n := by
  cases n <;> rfl

theorem ringSpan_some_cons (a : Slot) (l : List (Option Slot)) : ringSpan (some a :: l) ≠ none := by
  induction l generalizing a with
  | nil => exact fun h => nomatch h
  | cons x l ih =>
    cases x with
    | none => exact ih a
    | some b => exact ih (a.join b)

theorem ringSpan_eq_none_iff (ring : List (Option Slot)) : ringSpan ring = none ↔ ∀ x ∈ ring, x = none := by
  induction ring with
  | nil => exact ⟨fun _ _ hx => absurd hx List.not_mem_nil, fun _ => rfl⟩
  | cons x l ih =>
    cases x with
    | none =>
      have hskip : ringSpan (none :: l) = ringSpan l := rfl
      simpa [hskip] using ih
    | some b => simpa using ringSpan_some_cons b l

theorem overrideShade_eq_max (o : Override) : o.shade = [o.shadeLux, o.shadeUv].reduceOption.max? := by
  cases hl : o.shadeLux <;> cases hu : o.shadeUv <;> simp [Override.shade, hl, hu, List.reduceOption]

theorem zoneItems_ring (s : State) (z : ZoneId) : zoneItems s z 2 = (s.zone z).est.ringBytes := by
  unfold Estimate.ringBytes zoneItems
  have h := ringSpan_eq_none_iff (s.zone z).est.ring
  cases hr : ringSpan (s.zone z).est.ring with
  | none => simp only [if_pos (h.mp hr), Option.isSome_none, Bool.false_eq_true, if_false]
  | some x =>
    have hn : ¬ ∀ y ∈ (s.zone z).est.ring, y = none := fun hall => by simp [h.mpr hall] at hr
    simp only [if_neg hn, Option.isSome_some, if_true]

theorem zoneItems_light (s : State) (z : ZoneId) : zoneItems s z 3 = s.lightBytes z := by
  unfold State.lightBytes zoneItems
  simp only [nodeItems_eq, luxBytes, List.append_assoc]
  cases (s.zone z).est.d0 <;> rfl

theorem zoneItems_channels (s : State) (z : ZoneId) : zoneItems s z 4 = allChans.flatMap fun ch => s.channelBytes z ch := by
  unfold zoneItems
  refine List.flatMap_congr fun ch _ => ?_
  unfold State.channelBytes
  cases ch <;> simp [Override.on, Override.holders, overrideShade_eq_max, waitBytes, State.idleTime, GTime.since]

theorem zoneItems_excursions (s : State) (z : ZoneId) : zoneItems s z 7 = (s.zone z).excursionGroup := by
  show (_ ++ _) ++ _ = (_ ++ _) ++ _
  congr 2
  · refine List.flatMap_congr fun k _ => ?_
    cases (s.zone z).exc k <;> rfl
  · cases (s.zone z).det.luxPending <;> rfl

/-- The groups of READ_ZONE, which the mask numbers from 0 and the Layouts section from 1. -/
theorem zoneItems_eq_zoneGroup (s : State) (z : ZoneId) (g : Nat) (hg : g < 7) : zoneItems s z (g + 1) = s.zoneGroup z g := by
  match g, hg with
  | 0, _ => simp only [zoneItems, State.zoneGroup, State.estimateBytes, nodeItems_eq]
  | 1, _ => exact zoneItems_ring s z
  | 2, _ => exact zoneItems_light s z
  | 3, _ => exact zoneItems_channels s z
  | 4, _ => rfl
  | 5, _ => rfl
  | 6, _ => exact zoneItems_excursions s z

theorem zoneBytes_eq (s : State) (z : ZoneId) (mask : Byte) :
    s.zoneBytes z mask = [1, 2, 3, 4, 5, 6, 7].flatMap fun g => if mask.getLsbD (g - 1) then zoneItems s z g else [] := by
  have hlist : [1, 2, 3, 4, 5, 6, 7] = (List.range 7).map (· + 1) := by decide
  rw [hlist, List.flatMap_map]
  refine List.flatMap_congr fun g hg => ?_
  rw [Nat.add_sub_cancel, zoneItems_eq_zoneGroup s z g (List.mem_range.mp hg)]

/-! ### READ_NODE, READ_PORT and READ_SYSTEM -/

theorem nodeReadBytes_eq (s : State) (n : NodeId) : s.nodeReadBytes n = nodeReadItems s n := by
  have htime : (if (s.node n).retry.isSome then (s.node n).retry else (s.node n).due) =
      (s.node n).retry.orElse fun _ => (s.node n).due := by
    cases (s.node n).retry <;> rfl
  unfold State.nodeReadBytes nodeReadItems
  dsimp only
  congr 1
  rcases hbound : s.boundChan n with _ | ⟨z, ch⟩ <;> cases hkind : (s.node n).kind <;>
    simp [isSensor, State.actuatorBytes, htime, hbound]

theorem linkMillis_le (s : State) (q : PortId) : s.linkMillis q ≤ 2000 := by
  unfold State.linkMillis
  split
  · unfold linkLeft
    split
    · omega
    · dsimp only
      generalize Config.linkMillis s.draws = raw
      unfold linkBounds
      split <;> dsimp only <;> omega
  · omega

theorem linkMillis_past {s : State} {q : PortId} {l : LinkRecord} (h : (s.port q).link = some l) (hl : l.expiry < s.crystal) :
    s.linkMillis q = 0 := by
  simp only [State.linkMillis, h, linkLeft, hl, if_true]

theorem portBytes_eq (s : State) (q : PortId) : s.portBytes q = portItems s q (s.linkMillis q) := by
  have hlink : linkBytes (s.linkMillis q) (s.port q).link = (match (s.port q).link with
      | some l => [1, u1 l.remaining, finOpt l.zone] ++ u2 (s.linkMillis q) ++ [u1 l.members.length] ++
          l.members.flatMap fun m => [m.tag, u1 (chanIdx m.ch).val] ++ s2 m.value
      | none => [0]) := by
    cases (s.port q).link <;> rfl
  have hrefusal : presence refusalBytes (s.port q).refusal = (match (s.port q).refusal with
      | some r => [1, r.cmd, finOpt r.zone, chanOpt r.ch, u1 (statusCode r.code)] ++ timeBytes r.time
      | none => [0]) := by
    cases (s.port q).refusal <;> rfl
  have hsub : s.subBytes q = (match (s.port q).sub with
      | some x => 1 :: (u2 x.watermark ++ u2 (totalSize (s.records.drop x.cursor)) ++ u2 (s.records.drop x.cursor).length ++
          u2 x.lost ++ match x.watch with
            | some sel => 1 :: selectionBytes sel
            | none => [0])
      | none => [0, 0xFF, 0xFF, 0xFF, 0xFF, 0xFF, 0xFF, 0xFF, 0xFF, 0]) := by
    unfold State.subBytes
    cases (s.port q).sub with
    | none => rfl
    | some x => cases hw : x.watch <;> simp [flag1, u2opt, presence, unreadBytes, unreadOf, hw]
  unfold State.portBytes portItems
  simp only [hlink, hrefusal, hsub]
  rfl

/-- READ_PORT draws the free milliseconds of an open set before it answers. -/
theorem withTaken_drawFor (s : State) (p q : PortId) (rest : List Frame) :
    (s.withTaken p rest).drawFor q =
      { s with draws := s.draws + if (s.port q).link.isSome then 1 else 0 }.withTaken p rest := by
  unfold State.drawFor
  rw [withTaken_port_link]
  split <;> rfl

theorem withTaken_systemBytes (s : State) (p : PortId) (rest : List Frame) :
    (s.withTaken p rest).systemBytes = s.systemBytes := by
  unfold State.systemBytes
  simp only [withTaken_port_role]
  rfl

theorem systemBytes_eq (s : State) : s.systemBytes =
    (if s.supervised then 1 else 0) :: (u2 s.clock.day ++ u3 s.clock.sec ++ [if s.clockLost then 1 else 0] ++
      [u1 (rateCode s.rate)] ++ [u1 (roleCode (s.port 0).role), u1 (roleCode (s.port 1).role), u1 (roleCode (s.port 2).role)] ++
      u2 s.periodN ++ u2 s.periodStart ++ u2 (s.hold .light) ++ u2 (s.hold .shade) ++ u2 (s.hold .heat) ++ u2 (s.hold .moist) ++
      u2 s.used ++ u2 s.records.length ++ u2 s.sampleDrops ++
      [if s.store.writing.isSome then 1 else 0, if s.store.pendingSave then 1 else 0, if s.store.pendingCheck then 1 else 0,
        writeResult s.store.lastConfig, writeResult s.store.lastDose]) := by
  have hports : (allPorts.map fun p => u1 (roleCode (s.port p).role)) =
      [u1 (roleCode (s.port 0).role), u1 (roleCode (s.port 1).role), u1 (roleCode (s.port 2).role)] := rfl
  have hholds : (allChans.flatMap fun ch => u2 (s.hold ch)) =
      u2 (s.hold .light) ++ (u2 (s.hold .shade) ++ (u2 (s.hold .heat) ++ u2 (s.hold .moist))) := rfl
  unfold State.systemBytes
  simp only [hports, hholds, flag1, timeBytes, List.append_assoc, List.cons_append, List.nil_append]

/-! ### Each read -/

section

variable {s : State} {p : PortId} {f : Frame} {rest : List Frame}

theorem readObject_answers {o : ObjId} (h : NextRequest s p 0x13 f rest) (hf : f.payload = [u1 o.val]) :
    exec (.readObject p) s = .next ((if s.may p (s.object o).cfg.zone .observe then
      s.answered p f rest .done (s.object o).readBytes else s.refusedWith p f rest .noRight none none).countRequest p) := by
  have hrow : rowOf f = .readObject := by simp [rowOf, h.2]
  have hnamed : namedBy f = (none, none) := by simp [namedBy, hrow]
  show Host.Outcome.next (s.serve p _ _) = _
  rw [h.serve hrow, hf]
  simp only [objOf?_u1, State.withArg, withTaken_withRight, answer_withTaken, refuse_withTaken, hnamed, withTaken_object]

theorem readSystem_answers (h : NextRequest s p 0x17 f rest) (hf : f.payload = []) :
    exec (.readSystem p) s = .next ((s.answered p f rest .done s.systemBytes).countRequest p) := by
  have hrow : rowOf f = .readSystem := by simp [rowOf, h.2]
  show Host.Outcome.next (s.serve p _ _) = _
  rw [h.serve hrow, hf]
  simp only [State.withArg, withTaken_systemBytes, answer_withTaken]

theorem readZone_answers {z : ZoneId} {mask : Byte} (h : NextRequest s p 0x14 f rest) (hf : f.payload = [u1 z.val, mask])
    (hmask : mask ≠ 0) (hbit : mask.getLsbD 7 = false) :
    exec (.readZone p) s = .next ((if s.may p z .observe then s.answered p f rest .done (s.zoneBytes z mask)
      else s.refusedWith p f rest .noRight (some z) none).countRequest p) := by
  have hrow : rowOf f = .readZone := by simp [rowOf, h.2]
  have hnamed : namedBy f = (some z, none) := by simp [namedBy, hrow, hf, zoneOf?_u1]
  have hgroups : ¬ (mask = 0 ∨ mask.getLsbD 7 = true) := by simp only [hmask, hbit, Bool.false_eq_true, or_self, not_false_eq_true]
  have harg : readZoneOf? f.payload = some (z, mask) := by
    simp only [hf, readZoneOf?, if_neg hgroups, zoneOf?_u1, Option.map_some]
  have hbytes : (s.withTaken p rest).zoneBytes z mask = s.zoneBytes z mask := rfl
  show Host.Outcome.next (s.serve p _ _) = _
  rw [h.serve hrow, harg]
  simp only [State.withArg, withTaken_withRight, answer_withTaken, refuse_withTaken, hnamed, hbytes]

theorem readNode_answers {n : NodeId} (h : NextRequest s p 0x15 f rest) (hf : f.payload = [u1 (n.val + 1)]) :
    exec (.readNode p) s = .next ((if ∀ z, s.boundZone n = some z → s.may p z .observe = true then
      s.answered p f rest .done (s.nodeReadBytes n) else s.refusedWith p f rest .noRight none none).countRequest p) := by
  have hrow : rowOf f = .readNode := by simp [rowOf, h.2]
  have hnamed : namedBy f = (none, none) := by simp [namedBy, hrow]
  have hbytes : (s.withTaken p rest).nodeReadBytes n = s.nodeReadBytes n := rfl
  have hbound : (s.withTaken p rest).boundZone n = s.boundZone n := rfl
  show Host.Outcome.next (s.serve p _ _) = _
  rw [h.serve hrow]
  unfold State.readNodeRequest
  rw [hf]
  simp only [nodeOf?_u1, State.withArg, hbound]
  cases s.boundZone n with
  | none => simp [answer_withTaken, hbytes]
  | some z => simp [withTaken_withRight, answer_withTaken, refuse_withTaken, hnamed, hbytes]

theorem readPort_answers {q : PortId} (h : NextRequest s p 0x16 f rest) (hf : f.payload = [u1 q.val]) :
    exec (.readPort p) s = .next (({ s with draws := s.draws + if (s.port q).link.isSome then 1 else 0 }.answered p f rest .done
      ((s.withTaken p rest).portBytes q)).countRequest p) := by
  have hrow : rowOf f = .readPort := by simp [rowOf, h.2]
  show Host.Outcome.next (s.serve p _ _) = _
  rw [h.serve hrow, hf]
  simp only [portOf?_u1, State.withArg, withTaken_drawFor, answer_withTaken]

end

end Sys2Proof.Machine

open Sys2Proof Sys2Proof.Machine

set_option Elab.async false

/-- Settles O9: each read's answer, then the items it carries. -/
theorem readsAnswerAndChangeNothing : Obligations.ReadsAnswerAndChangeNothing := by
  refine ⟨fun s p o f rest h hf => ⟨fun hmay => ?_, fun hmay => ?_⟩, fun s p f rest h hf => ?_,
    fun s p f rest => ⟨fun z mask h hf hmask hbit => ⟨fun hmay => ?_, fun hmay => ?_⟩,
      fun n h hf => ⟨fun hmay => ?_, fun z hz hmay => ?_⟩, fun q h hf => ?_⟩⟩
  · rw [readObject_answers h hf, if_pos hmay]
    rfl
  · rw [readObject_answers h hf, if_neg (by simp [hmay])]
  · rw [readSystem_answers h hf, systemBytes_eq]
  · rw [readZone_answers h hf hmask hbit, if_pos hmay, zoneBytes_eq]
  · rw [readZone_answers h hf hmask hbit, if_neg (by simp [hmay])]
  · rw [readNode_answers h hf, if_pos hmay, nodeReadBytes_eq]
  · rw [readNode_answers h hf, if_neg fun hall => by simp [hall z hz] at hmay]
  · refine ⟨(s.withTaken p rest).linkMillis q, linkMillis_le _ q, fun l hl hexp =>
      linkMillis_past ((withTaken_port_link s p q rest).trans hl) hexp, ?_⟩
    rw [readPort_answers h hf, portBytes_eq]

end

section
/-! ## Numbers and the bytes that carry them (R180) -/

namespace Sys2Proof.Machine

open Sys2Proof

set_option Elab.async false

theorem u1_toNat (n : Nat) : (u1 n).toNat = n % 0x100 := by simp [u1]

theorem u1_eq_iff {n : Nat} {b : Byte} : u1 n = b ↔ n % 0x100 = b.toNat := by
  rw [← BitVec.toNat_inj, u1_toNat]

theorem u1_toNat_self (b : Byte) : u1 b.toNat = b := u1_eq_iff.mpr (Nat.mod_eq_of_lt b.isLt)

theorem u16_lt (h l : Byte) : u16 h l < 0x10000 := by
  have := h.isLt
  have := l.isLt
  unfold u16
  omega

theorem u16_bytes {n : Nat} (h : n < 0x10000) : u16 (u1 (n / 0x100)) (u1 n) = n := by
  simp only [u16, u1_toNat]
  omega

theorem u2_u16 (h l : Byte) : u2 (u16 h l) = [h, l] := by
  have hh := h.isLt
  have hl := l.isLt
  simp only [u2, List.cons.injEq, u1_eq_iff, u16, and_true]
  omega

theorem u32_bytes {n : Nat} (h : n < 0x100000000) :
    u32 (u1 (n / 0x1000000)) (u1 (n / 0x10000)) (u1 (n / 0x100)) (u1 n) = n := by
  simp only [u32, u24, u16, u1_toNat]
  omega

theorem u4_u32 (a b c d : Byte) : u4 (u32 a b c d) = [a, b, c, d] := by
  have ha := a.isLt
  have hb := b.isLt
  have hc := c.isLt
  have hd := d.isLt
  simp only [u4, List.cons.injEq, u1_eq_iff, u32, u24, u16, and_true]
  omega

theorem s2_natCast {n : Nat} (h : n < 0x10000) : s2 (n : Int) = u2 n := by
  have hmod : ((n : Int) % 0x10000).toNat = n := by omega
  rw [s2, hmod]

theorem s2_of_nonneg {v : Int} (h0 : 0 ≤ v) (h : v < 0x10000) : s2 v = u2 v.toNat := by
  rw [← s2_natCast (by omega), Int.toNat_of_nonneg h0]

theorem s16_bytes {v : Int} (hlo : -0x8000 ≤ v) (hhi : v < 0x8000) :
    s16 (u1 ((v % 0x10000).toNat / 0x100)) (u1 (v % 0x10000).toNat) = v := by
  unfold s16
  rw [u16_bytes (by omega)]
  split <;> omega

theorem s2_s16 (h l : Byte) : s2 (s16 h l) = [h, l] := by
  have hlt := u16_lt h l
  have hmod : (s16 h l % 0x10000).toNat = u16 h l := by
    unfold s16
    split <;> omega
  rw [s2, hmod, u2_u16]

/-! ## Values held to their ranges -/

theorem within_eq_some {lo hi n v : Nat} : within lo hi n = some v ↔ (lo ≤ v ∧ v ≤ hi) ∧ n = v := by
  unfold within
  split
  · next h =>
    rw [Option.some.injEq]
    exact ⟨fun e => ⟨e ▸ h, e⟩, And.right⟩
  · next h => exact ⟨fun e => (nomatch e), fun ⟨hr, e⟩ => absurd (e ▸ hr) h⟩

theorem withinInt_eq_some {lo hi n v : Int} : withinInt lo hi n = some v ↔ (lo ≤ v ∧ v ≤ hi) ∧ n = v := by
  unfold withinInt
  split
  · next h =>
    rw [Option.some.injEq]
    exact ⟨fun e => ⟨e ▸ h, e⟩, And.right⟩
  · next h => exact ⟨fun e => (nomatch e), fun ⟨hr, e⟩ => absurd (e ▸ hr) h⟩

theorem flagOf?_eq_some {b : Byte} {v : Bool} : flagOf? b = some v ↔ [b] = flag1 v := by
  revert b v; decide

theorem nodeField?_eq_some {b : Byte} {v : Option NodeId} : nodeField? b = some v ↔ b = nodeOpt v := by
  have h : ∀ b : Byte, ∀ v ∈ none :: (List.finRange 32).map some, nodeField? b = some v ↔ b = nodeOpt v := by decide +kernel
  refine h b v ?_
  cases v with
  | none => exact List.mem_cons_self
  | some n => exact List.mem_cons_of_mem _ (List.mem_map_of_mem (List.mem_finRange n))

theorem zoneOf?_eq_some {b : Byte} {z : ZoneId} : zoneOf? b = some z ↔ b = u1 z.val := by
  revert b z; decide +kernel

theorem u2_inj {a b : Nat} (ha : a < 0x10000) (hb : b < 0x10000) : u2 a = u2 b ↔ a = b := by
  refine ⟨fun h => ?_, fun h => by rw [h]⟩
  simp only [u2, List.cons.injEq, and_true, u1_eq_iff, u1_toNat] at h
  omega

theorem optWithin_eq_some {hi n : Nat} {v : Option Nat} (hhi : hi < 0xFFFF) (hn : n < 0x10000) :
    optWithin hi n = some v ↔ (∀ x, v = some x → x ≤ hi) ∧ u2 n = u2opt v := by
  unfold optWithin
  cases v with
  | none =>
    have habsent : u2 n = u2opt none ↔ n = 0xFFFF := u2_inj hn (by decide)
    rw [habsent]
    split <;> simp_all
  | some x =>
    have hpresent : (∀ y, some x = some y → y ≤ hi) ∧ u2 n = u2opt (some x) ↔ x ≤ hi ∧ n = x :=
      ⟨fun ⟨hx, h⟩ => ⟨hx x rfl, (u2_inj hn (by have := hx x rfl; omega)).mp h⟩,
        fun ⟨hx, h⟩ => ⟨fun y hy => by cases hy; exact hx, by rw [h]; rfl⟩⟩
    rw [hpresent]
    split
    · simp only [Option.some.injEq, reduceCtorEq, false_iff]
      omega
    · simp only [Option.map_eq_some_iff, within_eq_some, Option.some.injEq]
      exact ⟨fun ⟨y, ⟨hy, hny⟩, hyx⟩ => ⟨by omega, by omega⟩, fun ⟨hx, hnx⟩ => ⟨x, ⟨⟨Nat.zero_le x, hx⟩, hnx⟩, rfl⟩⟩

end Sys2Proof.Machine
end

section
/-! ## Presence-set writes: the bytes and the record they make (R5, R181) -/

namespace Sys2Proof.Machine

open Sys2Proof

set_option Elab.async false

/-- A reader of fields that undoes their spelling, field by field: what it takes is the spelling of a value in range, and it changes
that field alone. -/
structure Reads {α : Type} (L : Fields α) (field : Nat → List Byte → α → Option (α × List Byte)) : Prop where
  /-- The spelling of a value in range is taken. -/
  takes  : ∀ n r acc rest, 1 ≤ n → n ≤ L.count → L.InRange r n →
    ∃ acc', field n (L.bytes r n ++ rest) acc = some (acc', rest) ∧ L.Same r acc' n
  /-- Only the spelling of a value in range is taken. -/
  spells : ∀ n bs acc acc' rest, field n bs acc = some (acc', rest) →
    bs = L.bytes acc' n ++ rest ∧ n ≤ L.count ∧ L.InRange acc' n
  /-- The other fields keep their values. -/
  others : ∀ n bs acc acc' rest, field n bs acc = some (acc', rest) → ∀ m, m ≠ n → L.Same acc acc' m
  refl   : ∀ a n, L.Same a a n
  congr  : ∀ a b n, L.Same a b n →
    L.bytes a n = L.bytes b n ∧ (L.InRange a n ↔ L.InRange b n) ∧ ∀ c, L.Same a c n → L.Same b c n
  ext    : ∀ a b, (∀ n, 1 ≤ n → n ≤ L.count → L.Same a b n) → a = b

namespace Reads

variable {α : Type} {L : Fields α} {field : Nat → List Byte → α → Option (α × List Byte)}

theorem symm (R : Reads L field) {a b : α} {n : Nat} (h : L.Same a b n) : L.Same b a n := (R.congr a b n h).2.2 a (R.refl a n)

theorem trans (R : Reads L field) {a b c : α} {n : Nat} (h : L.Same a b n) (k : L.Same b c n) : L.Same a c n :=
  (R.congr b a n (R.symm h)).2.2 c k

/-- Fields read one after the other: the bytes are their spelling, and the record differs in them alone. -/
theorem of_readFields (R : Reads L field) {ns : List Nat} (hns : ns.Nodup) {bs : List Byte} {acc acc' : α}
    (h : readFields field ns bs acc = some acc') :
    bs = ns.flatMap (L.bytes acc') ∧ (∀ n ∈ ns, n ≤ L.count ∧ L.InRange acc' n) ∧ ∀ m, m ∉ ns → L.Same acc acc' m := by
  induction ns generalizing bs acc with
  | nil =>
    cases bs with
    | nil =>
      cases h
      exact ⟨rfl, fun n hn => absurd hn List.not_mem_nil, fun m _ => R.refl _ m⟩
    | cons b bs => cases h
  | cons n ns ih =>
    obtain ⟨hn, hns⟩ := List.nodup_cons.mp hns
    cases hf : field n bs acc with
    | none => simp [readFields, hf] at h
    | some p =>
      obtain ⟨acc1, bs1⟩ := p
      simp only [readFields, hf] at h
      obtain ⟨hbytes, hrange, hkept⟩ := ih hns h
      obtain ⟨hspelt, hcount, hin⟩ := R.spells n bs acc acc1 bs1 hf
      obtain ⟨hsame, hiff, -⟩ := R.congr acc1 acc' n (hkept n hn)
      refine ⟨by rw [List.flatMap_cons, ← hbytes, ← hsame]; exact hspelt, fun m hm => ?_, fun m hm => ?_⟩
      · rcases List.mem_cons.mp hm with rfl | hm
        · exact ⟨hcount, hiff.mp hin⟩
        · exact hrange m hm
      · rw [List.mem_cons, not_or] at hm
        exact R.trans (R.others n bs acc acc1 bs1 hf m hm.1) (hkept m hm.2)

/-- The spelling of fields in range is read, each field as it was spelt. -/
theorem readFields_takes (R : Reads L field) {ns : List Nat} (hnodup : ns.Nodup) {r : α}
    (hns : ∀ n ∈ ns, 1 ≤ n ∧ n ≤ L.count ∧ L.InRange r n) (acc : α) :
    ∃ acc', readFields field ns (ns.flatMap (L.bytes r)) acc = some acc' ∧ ∀ n ∈ ns, L.Same r acc' n := by
  induction ns generalizing acc with
  | nil => exact ⟨acc, rfl, fun n hn => absurd hn List.not_mem_nil⟩
  | cons n ns ih =>
    obtain ⟨hn, htail⟩ := List.nodup_cons.mp hnodup
    obtain ⟨h1, hcount, hin⟩ := hns n List.mem_cons_self
    obtain ⟨acc1, hf, hsame⟩ := R.takes n r acc (ns.flatMap (L.bytes r)) h1 hcount hin
    obtain ⟨acc', hread, hrest⟩ := ih htail (fun m hm => hns m (List.mem_cons_of_mem n hm)) acc1
    refine ⟨acc', by simpa only [List.flatMap_cons, readFields, hf] using hread, fun m hm => ?_⟩
    rcases List.mem_cons.mp hm with rfl | hm
    · exact R.trans hsame ((R.of_readFields htail hread).2.2 m hn)
    · exact hrest m hm

theorem namedFields_eq (mask : Nat) : namedFields mask = named mask := rfl

theorem named_nodup (mask : Nat) : (named mask).Nodup := List.Nodup.filter _ List.nodup_range'

theorem mem_named {mask n : Nat} : n ∈ named mask ↔ (1 ≤ n ∧ n ≤ 16) ∧ mask.testBit (n - 1) = true := by
  unfold named
  rw [List.mem_filter, List.mem_range'_1]
  exact and_congr_left' (by omega)

/-- R5 steps 4 to 7: a write of fields is accepted exactly when its bytes spell them, and it makes the record in which they alone
differ. -/
theorem readFields_eq_some (R : Reads L field) {mask : Nat} {held r : α} {bytes : List Byte} :
    readFields field (namedFields mask) bytes held = some r ↔ Makes L mask held r bytes := by
  rw [namedFields_eq]
  refine ⟨fun h => ?_, fun ⟨⟨hbytes, hrange⟩, hkept⟩ => ?_⟩
  · obtain ⟨hbytes, hrange, hkept⟩ := R.of_readFields (named_nodup mask) h
    exact ⟨⟨hbytes, hrange⟩, hkept⟩
  · obtain ⟨r', hread, hsame⟩ := R.readFields_takes (named_nodup mask)
      (fun n hn => ⟨(mem_named.mp hn).1.1, hrange n hn⟩) held
    have heq : r = r' := R.ext r r' fun n _ _ => by
      by_cases hn : n ∈ named mask
      · exact hsame n hn
      · exact R.trans (R.symm (hkept n hn)) ((R.of_readFields (named_nodup mask) hread).2.2 n hn)
    rw [hbytes, hread, heq]

theorem readFields_eq_none (R : Reads L field) {mask : Nat} {bytes : List Byte} (h : ∀ r, ¬ Spells L mask r bytes) (held : α) :
    readFields field (namedFields mask) bytes held = none :=
  Option.eq_none_iff_forall_ne_some.mpr fun r hr => h r (R.readFields_eq_some.mp hr).1

end Reads

end Sys2Proof.Machine
end

section
/-! ## The fields of the three records -/

namespace Sys2Proof.Machine

open Sys2Proof

set_option Elab.async false

/-! ### The zone record (R1) -/

theorem flagOf?_flag (v : Bool) : flagOf? (if v then 1 else 0) = some v := flagOf?_eq_some.mpr rfl

theorem nodeField?_nodeOpt (v : Option NodeId) : nodeField? (nodeOpt v) = some v := nodeField?_eq_some.mpr rfl

theorem within_self {lo hi n : Nat} (hlo : lo ≤ n) (hhi : n ≤ hi) : within lo hi n = some n :=
  within_eq_some.mpr ⟨⟨hlo, hhi⟩, rfl⟩

theorem within_u16 {hi n : Nat} (h : n ≤ hi) (hhi : hi < 0x10000) : within 0 hi (u16 (u1 (n / 0x100)) (u1 n)) = some n := by
  rw [u16_bytes (by omega)]
  exact within_self (Nat.zero_le n) h

theorem within_u1 {lo hi n : Nat} (hlo : lo ≤ n) (h : n ≤ hi) (hhi : hi < 0x100) : within lo hi (u1 n).toNat = some n := by
  rw [u1_toNat, Nat.mod_eq_of_lt (by omega)]
  exact within_self hlo h

theorem zoneField_takes (n : Nat) (r acc : ZoneRec) (rest : List Byte) (h1 : 1 ≤ n)
    (hn : n ≤ zoneFields.count) (hr : zoneFields.InRange r n) :
    ∃ acc', zoneField n (zoneFields.bytes r n ++ rest) acc = some (acc', rest) ∧ zoneFields.Same r acc' n := by
  match n, hr with
  | 0, _ => exact absurd h1 (by decide)
  | n + 17, _ => exact absurd (show n + 17 ≤ 16 from hn) (by omega)
  | 1, _ => exact ⟨{ acc with use := r.use }, congrArg (Option.map _) (flagOf?_flag r.use), rfl⟩
  | 2, _ => exact ⟨{ acc with climateNode := r.climateNode }, congrArg (Option.map _) (nodeField?_nodeOpt _), rfl⟩
  | 3, _ => exact ⟨{ acc with lightNode := r.lightNode }, congrArg (Option.map _) (nodeField?_nodeOpt _), rfl⟩
  | 4, _ => exact ⟨{ acc with lightAct := r.lightAct }, congrArg (Option.map _) (nodeField?_nodeOpt _), rfl⟩
  | 5, _ => exact ⟨{ acc with shadeAct := r.shadeAct }, congrArg (Option.map _) (nodeField?_nodeOpt _), rfl⟩
  | 6, _ => exact ⟨{ acc with heatAct := r.heatAct }, congrArg (Option.map _) (nodeField?_nodeOpt _), rfl⟩
  | 7, _ => exact ⟨{ acc with moistAct := r.moistAct }, congrArg (Option.map _) (nodeField?_nodeOpt _), rfl⟩
  | 8, h => exact ⟨{ acc with eFull := r.eFull }, congrArg (Option.map _) (within_u16 h (by decide)), rfl⟩
  | 9, h => exact ⟨{ acc with tc := r.tc }, congrArg (Option.map _) (within_u16 h (by decide)), rfl⟩
  | 10, h => exact ⟨{ acc with g := r.g }, congrArg (Option.map _) (within_u16 h (by decide)), rfl⟩
  | 11, h =>
    exact ⟨{ acc with filterCode := r.filterCode }, congrArg (Option.map _) (within_u1 (Nat.zero_le _) h (by decide)), rfl⟩
  | 12, h =>
    exact ⟨{ acc with staleLimit := r.staleLimit }, congrArg (Option.map _) (within_u1 h.1 h.2 (by decide)), rfl⟩
  | 13, h => exact ⟨{ acc with lightGrace := r.lightGrace }, congrArg (Option.map _) (within_u16 h (by decide)), rfl⟩
  | 14, h => exact ⟨{ acc with climateDec := (u1 r.climateDec).toNat }, rfl, by
      rw [u1_toNat, Nat.mod_eq_of_lt (Nat.lt_succ_of_le h)]; rfl⟩
  | 15, h => exact ⟨{ acc with lightDec := (u1 r.lightDec).toNat }, rfl, by
      rw [u1_toNat, Nat.mod_eq_of_lt (Nat.lt_succ_of_le h)]; rfl⟩
  | 16, _ => exact ⟨{ acc with raw := r.raw }, congrArg (Option.map _) (flagOf?_flag r.raw), rfl⟩

/-! What a taken byte or pair of bytes spells. -/

section

variable {b h l : Byte} {lo hi n : Nat}

theorem spells_flag {v : Bool} (hv : flagOf? b = some v) (bs : List Byte) : b :: bs = flag1 v ++ bs :=
  congrArg (· ++ bs) (flagOf?_eq_some.mp hv)

theorem spells_node {v : Option NodeId} (hv : nodeField? b = some v) (bs : List Byte) : b :: bs = [nodeOpt v] ++ bs :=
  congrArg (· :: bs) (nodeField?_eq_some.mp hv)

theorem spells_u1 (hv : within lo hi b.toNat = some n) (bs : List Byte) : b :: bs = [u1 n] ++ bs := by
  rw [← (within_eq_some.mp hv).2, u1_toNat_self, List.singleton_append]

theorem spells_u2 (hv : within lo hi (u16 h l) = some n) (bs : List Byte) : h :: l :: bs = u2 n ++ bs := by
  rw [← (within_eq_some.mp hv).2, u2_u16]
  rfl

end

theorem zoneField_spells (n : Nat) (bs : List Byte) (acc acc' : ZoneRec) (rest : List Byte)
    (h : zoneField n bs acc = some (acc', rest)) :
    bs = zoneFields.bytes acc' n ++ rest ∧ n ≤ zoneFields.count ∧ zoneFields.InRange acc' n := by
  have hdec : ∀ b : Byte, b.toNat ≤ 255 := fun b => Nat.le_of_lt_succ b.isLt
  unfold zoneField at h
  split at h
  case h_14 => cases h; exact ⟨by simp only [zoneFields, u1_toNat_self]; rfl, by decide, hdec _⟩
  case h_15 => cases h; exact ⟨by simp only [zoneFields, u1_toNat_self]; rfl, by decide, hdec _⟩
  case h_17 => cases h
  all_goals
    obtain ⟨v, hv, he⟩ := Option.map_eq_some_iff.mp h
    cases he
  case h_1 => exact ⟨spells_flag hv _, by decide, trivial⟩
  case h_2 => exact ⟨spells_node hv _, by decide, trivial⟩
  case h_3 => exact ⟨spells_node hv _, by decide, trivial⟩
  case h_4 => exact ⟨spells_node hv _, by decide, trivial⟩
  case h_5 => exact ⟨spells_node hv _, by decide, trivial⟩
  case h_6 => exact ⟨spells_node hv _, by decide, trivial⟩
  case h_7 => exact ⟨spells_node hv _, by decide, trivial⟩
  case h_8 => exact ⟨spells_u2 hv _, by decide, (within_eq_some.mp hv).1.2⟩
  case h_9 => exact ⟨spells_u2 hv _, by decide, (within_eq_some.mp hv).1.2⟩
  case h_10 => exact ⟨spells_u2 hv _, by decide, (within_eq_some.mp hv).1.2⟩
  case h_11 => exact ⟨spells_u1 hv _, by decide, (within_eq_some.mp hv).1.2⟩
  case h_12 => exact ⟨spells_u1 hv _, by decide, (within_eq_some.mp hv).1⟩
  case h_13 => exact ⟨spells_u2 hv _, by decide, (within_eq_some.mp hv).1.2⟩
  case h_16 => exact ⟨spells_flag hv _, by decide, trivial⟩

theorem zoneField_others (n : Nat) (bs : List Byte) (acc acc' : ZoneRec) (rest : List Byte)
    (h : zoneField n bs acc = some (acc', rest)) (m : Nat) (hm : m ≠ n) : zoneFields.Same acc acc' m := by
  unfold zoneField at h
  split at h
  case h_14 => cases h; simp only [zoneFields]; split <;> trivial
  case h_15 => cases h; simp only [zoneFields]; split <;> trivial
  case h_17 => cases h
  all_goals
    obtain ⟨v, hv, he⟩ := Option.map_eq_some_iff.mp h
    cases he
    simp only [zoneFields]
    split <;> trivial

theorem zoneField_reads : Reads zoneFields zoneField where
  takes := zoneField_takes
  spells := zoneField_spells
  others := zoneField_others
  refl a n := by
    simp only [zoneFields]
    split <;> trivial
  congr a b n h := by
    simp only [zoneFields] at h ⊢
    split at h <;> simp_all
  ext a b h := by
    cases a
    cases b
    simp only [ZoneRec.mk.injEq]
    exact ⟨h 1 (by decide) (by decide), h 2 (by decide) (by decide), h 3 (by decide) (by decide), h 4 (by decide) (by decide),
      h 5 (by decide) (by decide), h 6 (by decide) (by decide), h 7 (by decide) (by decide), h 8 (by decide) (by decide),
      h 9 (by decide) (by decide), h 10 (by decide) (by decide), h 11 (by decide) (by decide), h 12 (by decide) (by decide),
      h 13 (by decide) (by decide), h 14 (by decide) (by decide), h 15 (by decide) (by decide), h 16 (by decide) (by decide)⟩

/-! ### The zone envelope (R2) -/

/-- A quantity held as an `Int` that is never negative is spelt as the number it is. -/
theorem exists_nat_spelling {v : Int} {hi : Nat} (h0 : 0 ≤ v) (h : v ≤ hi) (hhi : hi < 0x10000) :
    ∃ k : Nat, v = k ∧ k ≤ hi ∧ s2 v = u2 k :=
  ⟨v.toNat, (Int.toNat_of_nonneg h0).symm, by omega, s2_of_nonneg h0 (by omega)⟩

theorem withinInt_s16 {lo hi v : Int} (h : lo ≤ v ∧ v ≤ hi) (hlo : -0x8000 ≤ lo) (hhi : hi < 0x8000) :
    withinInt lo hi (s16 (u1 ((v % 0x10000).toNat / 0x100)) (u1 (v % 0x10000).toNat)) = some v := by
  rw [s16_bytes (by omega) (by omega)]
  exact withinInt_eq_some.mpr ⟨h, rfl⟩

theorem spells_s2 {h l : Byte} {lo hi v : Int} (hv : withinInt lo hi (s16 h l) = some v) (bs : List Byte) :
    h :: l :: bs = s2 v ++ bs := by
  rw [← (withinInt_eq_some.mp hv).2, s2_s16]
  rfl

theorem spells_s2_nat {h l : Byte} {lo hi n : Nat} (hv : within lo hi (u16 h l) = some n) (bs : List Byte) :
    h :: l :: bs = s2 (n : Int) ++ bs := by
  have hn := (within_eq_some.mp hv).2
  rw [s2_natCast (hn ▸ u16_lt h l)]
  exact spells_u2 hv bs

theorem within_cast {lo hi n v : Nat} (hv : within lo hi n = some v) : 0 ≤ (v : Int) ∧ (v : Int) ≤ hi :=
  ⟨Int.natCast_nonneg v, Int.ofNat_le.mpr (within_eq_some.mp hv).1.2⟩

/-- A number read into a field that is held as an `Int`. -/
theorem bind_cast_eq_some {o : Option Nat} {v : Int} :
    (o >>= fun a => pure (a : Int)) = some v ↔ ∃ n, o = some n ∧ (n : Int) = v := by
  cases o <;> simp

theorem map_bind_cast {β : Type} {o : Option Nat} {k : Nat} (h : o = some k) (g : Int → β) :
    (o >>= fun a => pure (a : Int)).map g = some (g k) := by
  subst h
  rfl

theorem envelopeField_takes (n : Nat) (r acc : Envelope) (rest : List Byte) (h1 : 1 ≤ n) (hn : n ≤ envelopeFields.count)
    (hr : envelopeFields.InRange r n) :
    ∃ acc', envelopeField n (envelopeFields.bytes r n ++ rest) acc = some (acc', rest) ∧ envelopeFields.Same r acc' n := by
  match n, hr with
  | 0, _ => exact absurd h1 (by decide)
  | n + 9, _ => exact absurd (show n + 9 ≤ 8 from hn) (by omega)
  | 1, h => exact ⟨{ acc with tLo := r.tLo }, congrArg (Option.map _) (withinInt_s16 h (by decide) (by decide)), rfl⟩
  | 2, h => exact ⟨{ acc with tHi := r.tHi }, congrArg (Option.map _) (withinInt_s16 h (by decide) (by decide)), rfl⟩
  | 3, h =>
    obtain ⟨k, hk, hle, hs⟩ := exists_nat_spelling (hi := 10000) h.1 h.2 (by decide)
    exact ⟨{ acc with rhLo := k }, by
      rw [show envelopeFields.bytes r 3 = u2 k from hs]
      exact map_bind_cast (within_u16 hle (by decide)) _, hk⟩
  | 4, h =>
    obtain ⟨k, hk, hle, hs⟩ := exists_nat_spelling (hi := 10000) h.1 h.2 (by decide)
    exact ⟨{ acc with rhHi := k }, by
      rw [show envelopeFields.bytes r 4 = u2 k from hs]
      exact map_bind_cast (within_u16 hle (by decide)) _, hk⟩
  | 5, h =>
    obtain ⟨k, hk, hle, hs⟩ := exists_nat_spelling (hi := 2000) h.1 h.2 (by decide)
    exact ⟨{ acc with tSwing := k }, by
      rw [show envelopeFields.bytes r 5 = u2 k from hs]
      exact map_bind_cast (within_u16 hle (by decide)) _, hk⟩
  | 6, h =>
    obtain ⟨k, hk, hle, hs⟩ := exists_nat_spelling (hi := 5000) h.1 h.2 (by decide)
    exact ⟨{ acc with rhSwing := k }, by
      rw [show envelopeFields.bytes r 6 = u2 k from hs]
      exact map_bind_cast (within_u16 hle (by decide)) _, hk⟩
  | 7, h => exact ⟨{ acc with lux := r.lux }, congrArg (Option.map _) (within_u16 h (by decide)), rfl⟩
  | 8, h => exact ⟨{ acc with uv := r.uv }, congrArg (Option.map _) (within_u16 h (by decide)), rfl⟩

theorem envelopeField_spells (n : Nat) (bs : List Byte) (acc acc' : Envelope) (rest : List Byte)
    (h : envelopeField n bs acc = some (acc', rest)) :
    bs = envelopeFields.bytes acc' n ++ rest ∧ n ≤ envelopeFields.count ∧ envelopeFields.InRange acc' n := by
  unfold envelopeField at h
  split at h
  case h_9 => cases h
  all_goals
    obtain ⟨v, hv, he⟩ := Option.map_eq_some_iff.mp h
    cases he
  case h_1 => exact ⟨spells_s2 hv _, by decide, (withinInt_eq_some.mp hv).1⟩
  case h_2 => exact ⟨spells_s2 hv _, by decide, (withinInt_eq_some.mp hv).1⟩
  case h_3 =>
    obtain ⟨n, hn, rfl⟩ := bind_cast_eq_some.mp hv
    exact ⟨spells_s2_nat hn _, by decide, within_cast hn⟩
  case h_4 =>
    obtain ⟨n, hn, rfl⟩ := bind_cast_eq_some.mp hv
    exact ⟨spells_s2_nat hn _, by decide, within_cast hn⟩
  case h_5 =>
    obtain ⟨n, hn, rfl⟩ := bind_cast_eq_some.mp hv
    exact ⟨spells_s2_nat hn _, by decide, within_cast hn⟩
  case h_6 =>
    obtain ⟨n, hn, rfl⟩ := bind_cast_eq_some.mp hv
    exact ⟨spells_s2_nat hn _, by decide, within_cast hn⟩
  case h_7 => exact ⟨spells_u2 hv _, by decide, (within_eq_some.mp hv).1.2⟩
  case h_8 => exact ⟨spells_u2 hv _, by decide, (within_eq_some.mp hv).1.2⟩

theorem envelopeField_others (n : Nat) (bs : List Byte) (acc acc' : Envelope) (rest : List Byte)
    (h : envelopeField n bs acc = some (acc', rest)) (m : Nat) (hm : m ≠ n) : envelopeFields.Same acc acc' m := by
  unfold envelopeField at h
  split at h
  case h_9 => cases h
  all_goals
    obtain ⟨v, hv, he⟩ := Option.map_eq_some_iff.mp h
    cases he
    simp only [envelopeFields]
    split <;> trivial

theorem envelopeField_reads : Reads envelopeFields envelopeField where
  takes := envelopeField_takes
  spells := envelopeField_spells
  others := envelopeField_others
  refl a n := by
    simp only [envelopeFields]
    split <;> trivial
  congr a b n h := by
    simp only [envelopeFields] at h ⊢
    split at h <;> simp_all
  ext a b h := by
    cases a
    cases b
    simp only [Envelope.mk.injEq]
    exact ⟨h 1 (by decide) (by decide), h 2 (by decide) (by decide), h 3 (by decide) (by decide), h 4 (by decide) (by decide),
      h 5 (by decide) (by decide), h 6 (by decide) (by decide), h 7 (by decide) (by decide), h 8 (by decide) (by decide)⟩

/-! ### The object record (R3, R4) -/

theorem within_u32 {hi n : Nat} (h : n ≤ hi) (hhi : hi < 0x100000000) :
    within 0 hi (u32 (u1 (n / 0x1000000)) (u1 (n / 0x10000)) (u1 (n / 0x100)) (u1 n)) = some n := by
  rw [u32_bytes (by omega)]
  exact within_self (Nat.zero_le n) h

theorem spells_u4 {a b c d : Byte} {lo hi n : Nat} (hv : within lo hi (u32 a b c d) = some n) (bs : List Byte) :
    a :: b :: c :: d :: bs = u4 n ++ bs := by
  rw [← (within_eq_some.mp hv).2, u4_u32]
  rfl

theorem spells_zone {b : Byte} {z : ZoneId} (hv : zoneOf? b = some z) (bs : List Byte) : b :: bs = [u1 z.val] ++ bs :=
  congrArg (· :: bs) (zoneOf?_eq_some.mp hv)

theorem spells_u2opt {h l : Byte} {hi : Nat} {v : Option Nat} (hhi : hi < 0xFFFF) (hv : optWithin hi (u16 h l) = some v)
    (bs : List Byte) : h :: l :: bs = u2opt v ++ bs := by
  rw [← ((optWithin_eq_some hhi (u16_lt h l)).mp hv).2, u2_u16]
  rfl

theorem optWithin_u2opt {hi : Nat} {v : Option Nat} {h l : Byte} (hhi : hi < 0xFFFF) (hv : ∀ x, v = some x → x ≤ hi)
    (hs : [h, l] = u2opt v) : optWithin hi (u16 h l) = some v :=
  (optWithin_eq_some hhi (u16_lt h l)).mpr ⟨hv, (u2_u16 h l).trans hs⟩

/-- An optional RH quantity is spelt as the optional number it is. -/
theorem rh2opt_map (v : Option Nat) (h : ∀ x, v = some x → x < 0x10000) : rh2opt (v.map Int.ofNat) = u2opt v := by
  cases v with
  | none => rfl
  | some x => exact s2_natCast (h x rfl)

theorem exists_u2opt (v : Option Nat) : ∃ h l, [h, l] = u2opt v := by
  cases v <;> exact ⟨_, _, rfl⟩

theorem isLabelChar_iff {b : Byte} : isLabelChar b = true ↔ 0x20 ≤ b.toNat ∧ b.toNat ≤ 0x7E := by
  simp [isLabelChar]

/-- The RH band of an object is read as it was spelt; both ends 0xFFFF stand for none (R181). -/
theorem objectField_takes_band (r acc : ObjConf) (rest : List Byte) (hr : objectFields.InRange r 8) :
    ∃ acc', objectField 8 (objectFields.bytes r 8 ++ rest) acc = some (acc', rest) ∧ objectFields.Same r acc' 8 := by
  refine ⟨{ acc with rhBand := r.rhBand }, ?_, rfl⟩
  cases hband : r.rhBand with
  | none =>
    have hbytes : objectFields.bytes r 8 = [0xFF, 0xFF, 0xFF, 0xFF] := by simp only [objectFields, hband]
    have habsent : u16 0xFF 0xFF = 0xFFFF := by decide
    rw [hbytes]
    simp only [List.cons_append, List.nil_append, objectField, habsent, and_self, if_true]
  | some band =>
    obtain ⟨lo, hi⟩ := band
    obtain ⟨h0, hle, htop⟩ := hr lo hi hband
    obtain ⟨m, rfl, hm, hms⟩ := exists_nat_spelling (hi := 10000) h0 (hle.trans htop) (by decide)
    obtain ⟨k, rfl, hk, hks⟩ := exists_nat_spelling (hi := 10000) (h0.trans hle) htop (by decide)
    have hbytes : objectFields.bytes r 8 = u2 m ++ u2 k := by simp only [objectFields, hband, hms, hks]
    have hm16 : u16 (u1 (m / 0x100)) (u1 m) = m := u16_bytes (by omega)
    have hk16 : u16 (u1 (k / 0x100)) (u1 k) = k := u16_bytes (by omega)
    rw [hbytes]
    simp only [u2, List.cons_append, List.nil_append, objectField, hm16, hk16]
    rw [if_neg (by omega), if_pos ⟨Int.ofNat_le.mp hle, hk⟩]

theorem objectField_takes_label (r acc : ObjConf) (rest : List Byte) (hr : objectFields.InRange r 11) :
    objectField 11 (objectFields.bytes r 11 ++ rest) acc = some ({ acc with label := r.label }, rest) := by
  obtain ⟨hlen, hchars⟩ := hr
  have hnum : (u1 r.label.length).toNat = r.label.length := by
    rw [u1_toNat]
    exact Nat.mod_eq_of_lt (by omega)
  have hall : r.label.all isLabelChar = true := List.all_eq_true.mpr fun b hb => isLabelChar_iff.mpr (hchars b hb)
  show objectField 11 (u1 r.label.length :: (r.label ++ rest)) acc = _
  simp only [objectField, hnum, List.take_left', List.drop_left', hall]
  rw [if_pos ⟨hlen, by simp, trivial⟩]

theorem objectField_takes (n : Nat) (r acc : ObjConf) (rest : List Byte) (h1 : 1 ≤ n) (hn : n ≤ objectFields.count)
    (hr : objectFields.InRange r n) :
    ∃ acc', objectField n (objectFields.bytes r n ++ rest) acc = some (acc', rest) ∧ objectFields.Same r acc' n := by
  match n, hr with
  | 0, _ => exact absurd h1 (by decide)
  | n + 12, _ => exact absurd (show n + 12 ≤ 11 from hn) (by omega)
  | 1, _ => exact ⟨{ acc with use := r.use }, congrArg (Option.map _) (flagOf?_flag r.use), rfl⟩
  | 2, _ => exact ⟨{ acc with zone := r.zone }, congrArg (Option.map _) (zoneOf?_u1 r.zone), rfl⟩
  | 3, h => exact ⟨{ acc with w := r.w }, congrArg (Option.map _) (within_u16 h (by decide)), rfl⟩
  | 4, h => exact ⟨{ acc with allowance := r.allowance }, congrArg (Option.map _) (within_u32 h (by decide)), rfl⟩
  | 5, h => exact ⟨{ acc with slack := r.slack }, congrArg (Option.map _) (within_u1 (Nat.zero_le _) h (by decide)), rfl⟩
  | 6, h => exact ⟨{ acc with restricted := r.restricted }, congrArg (Option.map _) (within_u16 h (by decide)), rfl⟩
  | 7, h => exact ⟨{ acc with exhausted := r.exhausted }, congrArg (Option.map _) (within_u16 h (by decide)), rfl⟩
  | 8, h => exact objectField_takes_band r acc rest h
  | 9, h =>
    obtain ⟨v, hv, hle⟩ : ∃ v : Option Nat, r.rhSwing = v.map Int.ofNat ∧ ∀ x, v = some x → x ≤ 5000 := by
      cases hs : r.rhSwing with
      | none => exact ⟨none, rfl, fun x hx => nomatch hx⟩
      | some x =>
        obtain ⟨h0, hx⟩ := h x hs
        obtain ⟨k, rfl, hk, -⟩ := exists_nat_spelling (hi := 5000) h0 hx (by decide)
        exact ⟨some k, rfl, fun y hy => by cases hy; exact hk⟩
    obtain ⟨b, l, hs⟩ := exists_u2opt v
    have hbytes : objectFields.bytes r 9 = [b, l] := by
      simp only [objectFields, hv, hs]
      exact rh2opt_map v fun x hx => Nat.lt_of_le_of_lt (hle x hx) (by decide)
    exact ⟨{ acc with rhSwing := v.map Int.ofNat }, by
      rw [hbytes]
      exact congrArg (Option.map _) (optWithin_u2opt (by decide) hle hs), hv⟩
  | 10, h =>
    obtain ⟨b, l, hs⟩ := exists_u2opt r.luxCeil
    have hbytes : objectFields.bytes r 10 = [b, l] := hs.symm
    exact ⟨{ acc with luxCeil := r.luxCeil }, by
      rw [hbytes]
      exact congrArg (Option.map _) (optWithin_u2opt (by decide) h hs), rfl⟩
  | 11, h => exact ⟨_, objectField_takes_label r acc rest h, rfl⟩

theorem objectField_spells (n : Nat) (bs : List Byte) (acc acc' : ObjConf) (rest : List Byte)
    (h : objectField n bs acc = some (acc', rest)) :
    bs = objectFields.bytes acc' n ++ rest ∧ n ≤ objectFields.count ∧ objectFields.InRange acc' n := by
  unfold objectField at h
  split at h
  case h_12 => cases h
  case h_8 =>
    next a b c d bs =>
    split at h
    · next hnone =>
      cases h
      refine ⟨?_, by decide, fun lo hi hb => nomatch hb⟩
      have hspelt : u2 (u16 a b) ++ u2 (u16 c d) = u2 0xFFFF ++ u2 0xFFFF := by rw [hnone.1, hnone.2]
      rw [u2_u16, u2_u16] at hspelt
      exact congrArg (· ++ rest) hspelt
    · split at h
      · next hband =>
        cases h
        refine ⟨?_, by decide, fun lo hi hb => ?_⟩
        · show a :: b :: c :: d :: rest = (s2 (u16 a b : Int) ++ s2 (u16 c d : Int)) ++ rest
          rw [s2_natCast (u16_lt a b), s2_natCast (u16_lt c d), u2_u16, u2_u16]
          rfl
        · cases hb
          exact ⟨Int.natCast_nonneg _, Int.ofNat_le.mpr hband.1, Int.ofNat_le.mpr hband.2⟩
      · cases h
  case h_11 =>
    next k bs =>
    split at h
    · next hlabel =>
      obtain ⟨hmax, hlen, hall⟩ := hlabel
      cases h
      have htake : (bs.take k.toNat).length = k.toNat := List.length_take_of_le hlen
      refine ⟨?_, by decide, htake.trans_le hmax, fun b hb => isLabelChar_iff.mp (List.all_eq_true.mp hall b hb)⟩
      show k :: bs = (u1 (bs.take k.toNat).length :: bs.take k.toNat) ++ bs.drop k.toNat
      rw [htake, u1_toNat_self, List.cons_append, List.take_append_drop]
    · cases h
  all_goals
    obtain ⟨v, hv, he⟩ := Option.map_eq_some_iff.mp h
    cases he
  case h_1 => exact ⟨spells_flag hv _, by decide, trivial⟩
  case h_2 => exact ⟨spells_zone hv _, by decide, trivial⟩
  case h_3 => exact ⟨spells_u2 hv _, by decide, (within_eq_some.mp hv).1.2⟩
  case h_4 => exact ⟨spells_u4 hv _, by decide, (within_eq_some.mp hv).1.2⟩
  case h_5 => exact ⟨spells_u1 hv _, by decide, (within_eq_some.mp hv).1.2⟩
  case h_6 => exact ⟨spells_u2 hv _, by decide, (within_eq_some.mp hv).1.2⟩
  case h_7 => exact ⟨spells_u2 hv _, by decide, (within_eq_some.mp hv).1.2⟩
  case h_9 =>
    have hle := ((optWithin_eq_some (by decide) (u16_lt _ _)).mp hv).1
    refine ⟨?_, by decide, fun x hx => ?_⟩
    · show _ = rh2opt (v.map Int.ofNat) ++ _
      rw [rh2opt_map v fun x hx => Nat.lt_of_le_of_lt (hle x hx) (by decide)]
      exact spells_u2opt (by decide) hv _
    · obtain ⟨k, hk, rfl⟩ := Option.map_eq_some_iff.mp hx
      exact ⟨Int.natCast_nonneg k, Int.ofNat_le.mpr (hle k hk)⟩
  case h_10 =>
    exact ⟨spells_u2opt (by decide) hv _, by decide, ((optWithin_eq_some (by decide) (u16_lt _ _)).mp hv).1⟩

theorem objectField_others (n : Nat) (bs : List Byte) (acc acc' : ObjConf) (rest : List Byte)
    (h : objectField n bs acc = some (acc', rest)) (m : Nat) (hm : m ≠ n) : objectFields.Same acc acc' m := by
  unfold objectField at h
  split at h
  case h_12 => cases h
  case h_8 =>
    split at h
    · cases h
      simp only [objectFields]
      split <;> trivial
    · split at h
      · cases h
        simp only [objectFields]
        split <;> trivial
      · cases h
  case h_11 =>
    split at h
    · cases h
      simp only [objectFields]
      split <;> trivial
    · cases h
  all_goals
    obtain ⟨v, hv, he⟩ := Option.map_eq_some_iff.mp h
    cases he
    simp only [objectFields]
    split <;> trivial

theorem objectField_reads : Reads objectFields objectField where
  takes := objectField_takes
  spells := objectField_spells
  others := objectField_others
  refl a n := by
    simp only [objectFields]
    split <;> trivial
  congr a b n h := by
    simp only [objectFields] at h ⊢
    split at h <;> simp_all
  ext a b h := by
    cases a
    cases b
    simp only [ObjConf.mk.injEq]
    exact ⟨h 1 (by decide) (by decide), h 2 (by decide) (by decide), h 3 (by decide) (by decide), h 4 (by decide) (by decide),
      h 5 (by decide) (by decide), h 6 (by decide) (by decide), h 7 (by decide) (by decide), h 8 (by decide) (by decide),
      h 9 (by decide) (by decide), h 10 (by decide) (by decide), h 11 (by decide) (by decide)⟩

end Sys2Proof.Machine
end

section
/-! ## The three writes: what is refused, and what an empty presence set reads (R5) -/

namespace Sys2Proof.Machine

open Sys2Proof

set_option Elab.async false

/-! ### The fields of a write -/

section

variable {α : Type} {s : State} {p : PortId} {f : Frame} {mask : Nat} {bytes : List Byte}
  {field : Nat → List Byte → α → Option (α × List Byte)} {held new : α} {ok : α → Bool} {apply : α → State → State}
  {answer : State → List Byte}

theorem writeFields_unread (h : readFields field (namedFields mask) bytes held = none) :
    s.writeFields p f mask bytes field held ok apply answer = s.refuse p f .badArg := by
  simp only [State.writeFields, h]

theorem writeFields_barred (h : readFields field (namedFields mask) bytes held = some new) (hok : ok new = false) :
    s.writeFields p f mask bytes field held ok apply answer = s.refuse p f .badArg := by
  simp only [State.writeFields, h, hok, Bool.false_eq_true, if_false]

theorem writeFields_written (h : readFields field (namedFields mask) bytes held = some new) (hok : ok new = true) :
    s.writeFields p f mask bytes field held ok apply answer = (apply new s).answer p f .done (answer (apply new s)) := by
  simp only [State.writeFields, h, hok, if_true]

end

/-! ### The requests, past the target and the presence set -/

section

variable {s : State} {p : PortId} {f : Frame} {rest : List Frame} {mask : Nat} {bytes : List Byte}

theorem writeZoneRequest_eq {z : ZoneId} (hf : f.payload = u1 z.val :: (u2 mask ++ bytes)) (hmask : mask < 0x10000) :
    s.writeZoneRequest p f =
      if mask = 0 then s.withRight p f z .observe fun s => s.answer p f .done (zoneRecBytes (s.zone z).cfg)
      else s.withRight p f z .envelope fun s =>
        s.writeFields p f mask bytes zoneField (s.zone z).cfg (fun new => (namedFields mask).all fun n => s.nodeFieldOk z new n)
          (fun new s => s.applyZone z new) fun s => zoneRecBytes (s.zone z).cfg := by
  have hpayload : f.payload = u1 z.val :: u1 (mask / 0x100) :: u1 mask :: bytes := hf
  simp only [State.writeZoneRequest, hpayload, zoneOf?_u1, u16_bytes hmask]

theorem writeEnvelopeRequest_eq {z : ZoneId} (hf : f.payload = u1 z.val :: (u2 mask ++ bytes)) (hmask : mask < 0x10000) :
    s.writeEnvelopeRequest p f =
      if mask = 0 then s.withRight p f z .observe fun s => s.answer p f .done (envelopeBytes (s.zone z).env)
      else s.withRight p f z .envelope fun s =>
        s.writeFields p f mask bytes envelopeField (s.zone z).env Envelope.ordered (fun new s => s.applyEnvelope z new)
          fun s => envelopeBytes (s.zone z).env := by
  have hpayload : f.payload = u1 z.val :: u1 (mask / 0x100) :: u1 mask :: bytes := hf
  simp only [State.writeEnvelopeRequest, hpayload, zoneOf?_u1, u16_bytes hmask]

theorem writeObjectRequest_eq {o : ObjId} (hf : f.payload = u1 o.val :: (u2 mask ++ bytes)) (hmask : mask < 0x10000) :
    s.writeObjectRequest p f =
      if mask = 0 then s.withRight p f (s.object o).cfg.zone .observe fun s => s.answer p f .done (objConfBytes (s.object o).cfg)
      else if s.mayWriteObject p o mask bytes then
        s.writeFields p f mask bytes objectField (s.object o).cfg (fun _ => true) (fun new s => s.applyObject o new)
          fun s => objConfBytes (s.object o).cfg
      else s.refuse p f .noRight := by
  have hpayload : f.payload = u1 o.val :: u1 (mask / 0x100) :: u1 mask :: bytes := hf
  simp only [State.writeObjectRequest, hpayload, objOf?_u1, u16_bytes hmask]

/-! ### The commands -/

theorem exec_writeZone (h : NextRequest s p 0x10 f rest) :
    exec (.writeZone p) s = .next (((s.withTaken p rest).writeZoneRequest p f).countRequest p) :=
  congrArg _ (h.serve (by simp [rowOf, h.2]) _)

theorem exec_writeEnvelope (h : NextRequest s p 0x11 f rest) :
    exec (.writeEnvelope p) s = .next (((s.withTaken p rest).writeEnvelopeRequest p f).countRequest p) :=
  congrArg _ (h.serve (by simp [rowOf, h.2]) _)

theorem exec_writeObject (h : NextRequest s p 0x12 f rest) :
    exec (.writeObject p) s = .next (((s.withTaken p rest).writeObjectRequest p f).countRequest p) :=
  congrArg _ (h.serve (by simp [rowOf, h.2]) _)

theorem namedBy_writeZone {z : ZoneId} (h : NextRequest s p 0x10 f rest) (hf : f.payload = u1 z.val :: (u2 mask ++ bytes)) :
    namedBy f = (some z, none) := by
  simp [namedBy, rowOf, h.2, hf, u2, zoneOf?_u1]

theorem namedBy_writeEnvelope {z : ZoneId} (h : NextRequest s p 0x11 f rest)
    (hf : f.payload = u1 z.val :: (u2 mask ++ bytes)) : namedBy f = (some z, none) := by
  simp [namedBy, rowOf, h.2, hf, u2, zoneOf?_u1]

theorem namedBy_writeObject (h : NextRequest s p 0x12 f rest) : namedBy f = (none, none) := by
  simp [namedBy, rowOf, h.2]

/-! ### Targets and presence sets that are not there (R5 step 1) -/

theorem zoneOf?_eq_none {b : Byte} (h : 8 ≤ b.toNat) : zoneOf? b = none :=
  Option.eq_none_iff_forall_ne_some.mpr fun z hz => by
    have hb : b.toNat = z.val % 0x100 := by rw [zoneOf?_eq_some.mp hz, u1_toNat]
    omega

theorem objOf?_eq_none {b : Byte} (h : 32 ≤ b.toNat) : objOf? b = none := by
  revert b; decide +kernel

theorem exec_write_short {c : Instr} {cmd : Byte}
    (hc : (c, cmd) ∈ [(Instr.writeZone p, (0x10 : Byte)), (.writeEnvelope p, 0x11), (.writeObject p, 0x12)])
    (h : NextRequest s p cmd f rest) (hshort : f.payload.length < 3) : Refuses c s p f rest .badArg none := by
  have hshape : f.payload = [] ∨ (∃ a, f.payload = [a]) ∨ ∃ a b, f.payload = [a, b] := by
    match f.payload, hshort with
    | [], _ => exact .inl rfl
    | [a], _ => exact .inr (.inl ⟨a, rfl⟩)
    | [a, b], _ => exact .inr (.inr ⟨a, b, rfl⟩)
    | _ :: _ :: _ :: _, hlt => simp at hlt; omega
  have hnamed : namedBy f = (none, none) := by
    simp only [List.mem_cons, Prod.mk.injEq, List.not_mem_nil, or_false] at hc
    rcases hc with ⟨-, rfl⟩ | ⟨-, rfl⟩ | ⟨-, rfl⟩ <;> rcases hshape with hp | ⟨a, hp⟩ | ⟨a, b, hp⟩ <;>
      simp [namedBy, rowOf, h.2, hp]
  have hrefused : (s.withTaken p rest).refuse p f .badArg = s.refusedWith p f rest .badArg none none := by
    rw [refuse_withTaken, hnamed]
  unfold Refuses
  rw [← hrefused]
  simp only [List.mem_cons, Prod.mk.injEq, List.not_mem_nil, or_false] at hc
  rcases hc with ⟨rfl, rfl⟩ | ⟨rfl, rfl⟩ | ⟨rfl, rfl⟩
  · rw [exec_writeZone h]
    rcases hshape with hp | ⟨a, hp⟩ | ⟨a, b, hp⟩ <;> simp only [State.writeZoneRequest, hp]
  · rw [exec_writeEnvelope h]
    rcases hshape with hp | ⟨a, hp⟩ | ⟨a, b, hp⟩ <;> simp only [State.writeEnvelopeRequest, hp]
  · rw [exec_writeObject h]
    rcases hshape with hp | ⟨a, hp⟩ | ⟨a, b, hp⟩ <;> simp only [State.writeObjectRequest, hp]

theorem exec_write_untargeted {c : Instr} {cmd b : Byte}
    (hc : (c, cmd) ∈ [(Instr.writeZone p, (0x10 : Byte)), (.writeEnvelope p, 0x11), (.writeObject p, 0x12)])
    (h : NextRequest s p cmd f rest) (hf : f.payload = b :: (u2 mask ++ bytes))
    (hb : (if cmd = 0x12 then 32 else 8) ≤ b.toNat) : Refuses c s p f rest .badArg none := by
  have hpayload : f.payload = b :: u1 (mask / 0x100) :: u1 mask :: bytes := hf
  simp only [List.mem_cons, Prod.mk.injEq, List.not_mem_nil, or_false] at hc
  unfold Refuses
  rcases hc with ⟨rfl, rfl⟩ | ⟨rfl, rfl⟩ | ⟨rfl, rfl⟩
  · have hz : zoneOf? b = none := zoneOf?_eq_none hb
    have hnamed : namedBy f = (none, none) := by simp [namedBy, rowOf, h.2, hpayload, hz]
    rw [exec_writeZone h]
    simp only [State.writeZoneRequest, hpayload, hz, refuse_withTaken, hnamed]
  · have hz : zoneOf? b = none := zoneOf?_eq_none hb
    have hnamed : namedBy f = (none, none) := by simp [namedBy, rowOf, h.2, hpayload, hz]
    rw [exec_writeEnvelope h]
    simp only [State.writeEnvelopeRequest, hpayload, hz, refuse_withTaken, hnamed]
  · rw [exec_writeObject h]
    simp only [State.writeObjectRequest, hpayload, objOf?_eq_none hb, refuse_withTaken, namedBy_writeObject h]

/-! ### WRITE_ZONE -/

theorem nodeFieldOk_iff {z : ZoneId} {r : ZoneRec} {k : Nat} :
    s.nodeFieldOk z r k = true ↔ ∀ n, r.nodeAt k = some n → NodeFits s z k n := by
  unfold State.nodeFieldOk
  cases r.nodeAt k with
  | none => simp
  | some n => simp [NodeFits, allZones, or_iff_not_imp_left]

/-- The cross-checks of R6, over the fields named. -/
theorem nodeFieldsOk_iff {z : ZoneId} {r : ZoneRec} :
    ((namedFields mask).all fun k => s.nodeFieldOk z r k) = true ↔ NodesFit s z mask r := by
  simp only [List.all_eq_true, nodeFieldOk_iff, Reads.namedFields_eq, NodesFit]

variable {z : ZoneId}

theorem exec_writeZone_empty (h : NextRequest s p 0x10 f rest) (hf : f.payload = u1 z.val :: (u2 0 ++ bytes)) :
    exec (.writeZone p) s = .next ((if s.may p z .observe then s.answered p f rest .done (zoneRecBytes (s.zone z).cfg)
      else s.refusedWith p f rest .noRight (some z) none).countRequest p) := by
  rw [exec_writeZone h, writeZoneRequest_eq hf (by decide)]
  simp only [if_true, withTaken_withRight, answer_withTaken, refuse_withTaken, namedBy_writeZone h hf, withTaken_zone]

theorem exec_writeZone_named (h : NextRequest s p 0x10 f rest) (hf : f.payload = u1 z.val :: (u2 mask ++ bytes))
    (h0 : 0 < mask) (hmask : mask < 0x10000) :
    exec (.writeZone p) s = .next ((if s.may p z .envelope then
      (s.withTaken p rest).writeFields p f mask bytes zoneField (s.zone z).cfg
        (fun new => (namedFields mask).all fun n => s.nodeFieldOk z new n) (fun new s => s.applyZone z new)
        fun s => zoneRecBytes (s.zone z).cfg
      else s.refusedWith p f rest .noRight (some z) none).countRequest p) := by
  have hok : ∀ r n, (s.withTaken p rest).nodeFieldOk z r n = s.nodeFieldOk z r n := fun _ _ => rfl
  rw [exec_writeZone h, writeZoneRequest_eq hf hmask, if_neg (by omega)]
  simp only [withTaken_withRight, refuse_withTaken, namedBy_writeZone h hf, withTaken_zone, hok]

theorem writeZone_unspelt (h : NextRequest s p 0x10 f rest) (hf : f.payload = u1 z.val :: (u2 mask ++ bytes))
    (h0 : 0 < mask) (hmask : mask < 0x10000) (hmay : s.may p z .envelope = true)
    (hbad : ∀ r, ¬ Spells zoneFields mask r bytes) : Refuses (.writeZone p) s p f rest .badArg (some z) := by
  unfold Refuses
  rw [exec_writeZone_named h hf h0 hmask, if_pos hmay, writeFields_unread (zoneField_reads.readFields_eq_none hbad _),
    refuse_withTaken, namedBy_writeZone h hf]

theorem writeZone_unfit {r : ZoneRec} (h : NextRequest s p 0x10 f rest)
    (hf : f.payload = u1 z.val :: (u2 mask ++ bytes)) (h0 : 0 < mask) (hmask : mask < 0x10000)
    (hmay : s.may p z .envelope = true) (hmakes : Makes zoneFields mask (s.zone z).cfg r bytes)
    (hbad : ¬ NodesFit s z mask r) : Refuses (.writeZone p) s p f rest .badArg (some z) := by
  have hok : ((namedFields mask).all fun k => s.nodeFieldOk z r k) = false :=
    Bool.eq_false_iff.mpr fun hall => hbad (nodeFieldsOk_iff.mp hall)
  unfold Refuses
  rw [exec_writeZone_named h hf h0 hmask, if_pos hmay, writeFields_barred (zoneField_reads.readFields_eq_some.mpr hmakes) hok,
    refuse_withTaken, namedBy_writeZone h hf]

/-! ### WRITE_ENVELOPE -/

theorem exec_writeEnvelope_empty (h : NextRequest s p 0x11 f rest) (hf : f.payload = u1 z.val :: (u2 0 ++ bytes)) :
    exec (.writeEnvelope p) s = .next ((if s.may p z .observe then s.answered p f rest .done (envelopeBytes (s.zone z).env)
      else s.refusedWith p f rest .noRight (some z) none).countRequest p) := by
  rw [exec_writeEnvelope h, writeEnvelopeRequest_eq hf (by decide)]
  simp only [if_true, withTaken_withRight, answer_withTaken, refuse_withTaken, namedBy_writeEnvelope h hf, withTaken_zone]

theorem exec_writeEnvelope_named (h : NextRequest s p 0x11 f rest) (hf : f.payload = u1 z.val :: (u2 mask ++ bytes))
    (h0 : 0 < mask) (hmask : mask < 0x10000) :
    exec (.writeEnvelope p) s = .next ((if s.may p z .envelope then
      (s.withTaken p rest).writeFields p f mask bytes envelopeField (s.zone z).env Envelope.ordered
        (fun new s => s.applyEnvelope z new) fun s => envelopeBytes (s.zone z).env
      else s.refusedWith p f rest .noRight (some z) none).countRequest p) := by
  rw [exec_writeEnvelope h, writeEnvelopeRequest_eq hf hmask, if_neg (by omega)]
  simp only [withTaken_withRight, refuse_withTaken, namedBy_writeEnvelope h hf, withTaken_zone]

theorem writeEnvelope_unspelt (h : NextRequest s p 0x11 f rest) (hf : f.payload = u1 z.val :: (u2 mask ++ bytes))
    (h0 : 0 < mask) (hmask : mask < 0x10000) (hmay : s.may p z .envelope = true)
    (hbad : ∀ e, ¬ Spells envelopeFields mask e bytes) : Refuses (.writeEnvelope p) s p f rest .badArg (some z) := by
  unfold Refuses
  rw [exec_writeEnvelope_named h hf h0 hmask, if_pos hmay,
    writeFields_unread (envelopeField_reads.readFields_eq_none hbad _), refuse_withTaken, namedBy_writeEnvelope h hf]

/-! ### WRITE_OBJECT -/

/-- The new zone whose right R11 asks for is the one that the named byte spells. -/
theorem namedObjectZone_eq_some : namedObjectZone mask bytes = some z ↔ newZoneByte mask bytes = some (u1 z.val) := by
  unfold namedObjectZone newZoneByte
  split
  · cases bytes[if mask.testBit 0 then 1 else 0]? with
    | none => simp
    | some b => simp [zoneOf?_eq_some]
  · simp

theorem mayWriteObject_iff {o : ObjId} : s.mayWriteObject p o mask bytes = true ↔ MayWriteObject s p o mask bytes := by
  unfold State.mayWriteObject MayWriteObject
  rw [Bool.and_eq_true]
  refine and_congr_right' ?_
  cases hz : namedObjectZone mask bytes with
  | none => simp [← namedObjectZone_eq_some, hz]
  | some z => simp [← namedObjectZone_eq_some, hz]

theorem exec_writeObject_empty {o : ObjId} (h : NextRequest s p 0x12 f rest)
    (hf : f.payload = u1 o.val :: (u2 0 ++ bytes)) :
    exec (.writeObject p) s = .next ((if s.may p (s.object o).cfg.zone .observe then
      s.answered p f rest .done (objConfBytes (s.object o).cfg)
      else s.refusedWith p f rest .noRight none none).countRequest p) := by
  rw [exec_writeObject h, writeObjectRequest_eq hf (by decide)]
  simp only [if_true, withTaken_withRight, answer_withTaken, refuse_withTaken, namedBy_writeObject h, withTaken_object]

theorem exec_writeObject_named {o : ObjId} (h : NextRequest s p 0x12 f rest)
    (hf : f.payload = u1 o.val :: (u2 mask ++ bytes)) (h0 : 0 < mask) (hmask : mask < 0x10000) :
    exec (.writeObject p) s = .next ((if s.mayWriteObject p o mask bytes then
      (s.withTaken p rest).writeFields p f mask bytes objectField (s.object o).cfg (fun _ => true)
        (fun new s => s.applyObject o new) fun s => objConfBytes (s.object o).cfg
      else s.refusedWith p f rest .noRight none none).countRequest p) := by
  have hmay : (s.withTaken p rest).mayWriteObject p o mask bytes = s.mayWriteObject p o mask bytes := by
    simp only [State.mayWriteObject, withTaken_may, withTaken_object]
  rw [exec_writeObject h, writeObjectRequest_eq hf hmask, if_neg (by omega), hmay]
  simp only [refuse_withTaken, namedBy_writeObject h, withTaken_object]

theorem writeObject_noRight {o : ObjId} (h : NextRequest s p 0x12 f rest) (hf : f.payload = u1 o.val :: (u2 mask ++ bytes))
    (h0 : 0 < mask) (hmask : mask < 0x10000) (hmay : ¬ MayWriteObject s p o mask bytes) :
    Refuses (.writeObject p) s p f rest .noRight none := by
  unfold Refuses
  rw [exec_writeObject_named h hf h0 hmask, if_neg fun hall => hmay (mayWriteObject_iff.mp hall)]

theorem writeObject_unspelt {o : ObjId} (h : NextRequest s p 0x12 f rest) (hf : f.payload = u1 o.val :: (u2 mask ++ bytes))
    (h0 : 0 < mask) (hmask : mask < 0x10000) (hmay : MayWriteObject s p o mask bytes)
    (hbad : ∀ c, ¬ Spells objectFields mask c bytes) : Refuses (.writeObject p) s p f rest .badArg none := by
  unfold Refuses
  rw [exec_writeObject_named h hf h0 hmask, if_pos (mayWriteObject_iff.mpr hmay),
    writeFields_unread (objectField_reads.readFields_eq_none hbad _), refuse_withTaken, namedBy_writeObject h]

end

end Sys2Proof.Machine

open Sys2Proof Sys2Proof.Machine

set_option Elab.async false

/-- Settles O19: each write answers an empty presence set as a read, and refuses in the order of R5 otherwise. -/
theorem writesNeedRightsAndEmptyOnesRead : Obligations.WritesNeedRightsAndEmptyOnesRead := by
  intro s p f rest mask bytes hmask
  refine ⟨fun c cmd hc h => ⟨exec_write_short hc h, fun b hf hb => exec_write_untargeted hc h hf hb⟩, fun z h hf => ?_,
    fun z h hf => ?_, fun o h hf => ?_⟩
  · refine ⟨?_, ?_, fun h0 hmay => ?_, fun h0 hmay => writeZone_unspelt h hf h0 hmask hmay,
      fun r k n h0 hmay hmakes hk hn hfit => writeZone_unfit h hf h0 hmask hmay hmakes fun hall => hfit (hall k hk n hn)⟩
    · rintro rfl hmay
      rw [exec_writeZone_empty h hf, if_pos hmay]
    · rintro rfl hmay
      exact (exec_writeZone_empty h hf).trans (by rw [if_neg (by simp [hmay])])
    · exact (exec_writeZone_named h hf h0 hmask).trans (by rw [if_neg (by simp [hmay])])
  · refine ⟨?_, ?_, fun h0 hmay => ?_, fun h0 hmay => writeEnvelope_unspelt h hf h0 hmask hmay⟩
    · rintro rfl hmay
      rw [exec_writeEnvelope_empty h hf, if_pos hmay]
    · rintro rfl hmay
      exact (exec_writeEnvelope_empty h hf).trans (by rw [if_neg (by simp [hmay])])
    · exact (exec_writeEnvelope_named h hf h0 hmask).trans (by rw [if_neg (by simp [hmay])])
  · refine ⟨?_, ?_, fun h0 hmay => writeObject_noRight h hf h0 hmask fun hboth => ?_,
      fun z h0 hz hmay => writeObject_noRight h hf h0 hmask fun hboth => ?_, fun h0 hmay => writeObject_unspelt h hf h0 hmask hmay⟩
    · rintro rfl hmay
      rw [exec_writeObject_empty h hf, if_pos hmay]
    · rintro rfl hmay
      exact (exec_writeObject_empty h hf).trans (by rw [if_neg (by simp [hmay])])
    · exact absurd hboth.1 (by simp [hmay])
    · exact absurd (hboth.2 z hz) (by simp [hmay])

end

section
/-! ## A write of an object: the answer, the footprint and the zones it leaves (R11, R12) -/

namespace Sys2Proof.Machine

open Sys2Proof

set_option Elab.async false

/-! ### A request that is carried out and answered -/

theorem withTaken_touches (s : State) (p : PortId) (rest : List Frame) : Touches [.queue, .counters] s (s.withTaken p rest) :=
  modPort_touches s p _

theorem answer_touches_tx (s : State) (p : PortId) (f : Frame) (st : Status) (payload : List Byte) :
    Touches [.tx] s (s.answer p f st payload) := modPort_touches s p _

theorem answer_port (s : State) (p q : PortId) (f : Frame) (st : Status) (payload : List Byte) :
    (s.answer p f st payload).port q =
      if q = p then { s.port p with tx := (s.port p).tx ++ [{ tag := f.tag, status := st, payload := payload }] }
      else s.port q := State.port_modPort s p q _

theorem withTaken_port (s : State) (p q : PortId) (rest : List Frame) :
    (s.withTaken p rest).port q =
      if q = p then { s.port p with queue := rest, taken := raised (s.port p).taken } else s.port q := State.port_modPort s p q _

section

variable {F : List Part} {s u : State} {p : PortId} {rest : List Frame}

/-- A request whose effects leave queues, counters and responses is accepted with the answer it is given. -/
theorem Touches.accepted (h : Touches F (s.withTaken p rest) u) (f : Frame) (st : Status) (payload : List Byte)
    (hF : ∀ k ∈ intake, k ∉ F := by decide) : Accepted s (u.answer p f st payload) p f rest st payload := by
  have hqueue : ∀ q, (u.port q).queue = ((s.withTaken p rest).port q).queue := fun q => congrFun (h .queue (hF _ (by decide))) q
  have htx : ∀ q, (u.port q).tx = ((s.withTaken p rest).port q).tx := fun q => congrFun (h .tx (hF _ (by decide))) q
  have hcounters : ∀ q, (u.port q).taken = ((s.withTaken p rest).port q).taken ∧
      (u.port q).discards = ((s.withTaken p rest).port q).discards ∧
      (u.port q).portFull = ((s.withTaken p rest).port q).portFull := fun q => by
    have hq := congrFun (h .counters (hF _ (by decide))) q
    simpa only [State.part, Prod.mk.injEq] using hq
  refine ⟨?_, ?_, ?_, ?_, fun q hq => ?_⟩
  · rw [answer_port, if_pos rfl, hqueue, withTaken_port, if_pos rfl]
  · rw [answer_port, if_pos rfl, (hcounters p).1, withTaken_port, if_pos rfl]
  · rw [answer_port, if_pos rfl, htx, withTaken_port, if_pos rfl]
  · rw [answer_port, if_pos rfl, (hcounters p).2.1, (hcounters p).2.2, withTaken_port, if_pos rfl]
    exact ⟨rfl, rfl⟩
  · rw [answer_port, if_neg hq, hqueue, htx, (hcounters q).1, (hcounters q).2.1, (hcounters q).2.2, withTaken_port, if_neg hq]
    exact ⟨rfl, rfl, rfl, rfl, rfl⟩

theorem Touches.answered (h : Touches F (s.withTaken p rest) u) (f : Frame) (st : Status) (payload : List Byte) :
    Touches (intake ++ F) s (u.answer p f st payload) :=
  (((withTaken_touches s p rest).mono (List.Subset.trans (by decide) (List.subset_append_left intake F))).then_mono h
    (List.subset_append_right intake F)).then_mono (answer_touches_tx u p f st payload)
    (List.Subset.trans (by decide) (List.subset_append_left intake F))

theorem EnvelopeCurrent.of_answer {z : ZoneId} (c : EnvelopeCurrent u z) (f : Frame) (st : Status) (payload : List Byte) :
    EnvelopeCurrent (u.answer p f st payload) z := by
  obtain ⟨he, hc⟩ := (envelopeCurrent_iff u z).mp c
  have h := answer_touches_tx u p f st payload
  exact (envelopeCurrent_iff _ z).mpr ⟨he.of_touches h, hc.of_touches h⟩

end

/-! ### The zones an object write changes -/

/-- R70: an evaluation of a pace state stays in the object's zone. -/
theorem reevalPace_inZone (s : State) (o : ObjId) :
    InZone (s.object o).cfg.zone ([.pace, .ceiling] ++ followParts) s (s.reevalPace o) := by
  unfold State.reevalPace
  dsimp only
  split
  · exact .refl _ _ s
  · have hpace : InZone (s.object o).cfg.zone ([.pace, .ceiling] ++ followParts) s
        (s.modObject o fun ob => { ob with pace := s.paceNow o }) := .of_zones (modObject_touches s o _) rfl
    have hoffer := fun r => hpace.then_mono ((offer_signalled (s.modObject o fun ob => { ob with pace := s.paceNow o }) r).inZone _)
      (by decide)
    split
    · exact (hoffer _).then_mono (recomputeCeiling_inZone _ _) (by decide)
    · exact hoffer _

/-- Changes of the zones of a list, one after the other, leave the other zones. -/
theorem foldl_inZone {F : List Part} (f : State → ZoneId → State) (hf : ∀ s z, InZone z F s (f s z)) (zs : List ZoneId)
    (s : State) : Touches F s (zs.foldl f s) ∧ ∀ x, x ∉ zs → (zs.foldl f s).zone x = s.zone x := by
  induction zs generalizing s with
  | nil => exact ⟨.refl F s, fun _ _ => rfl⟩
  | cons z zs ih =>
    obtain ⟨htouch, hothers⟩ := ih (f s z)
    refine ⟨(hf s z).touches.trans htouch, fun x hx => ?_⟩
    rw [List.mem_cons, not_or] at hx
    exact (hothers x hx.2).trans ((hf s z).others x hx.1)

theorem mem_touchedZones {old new : ObjConf} {z : ZoneId} : z ∈ touchedZones old new ↔ z = old.zone ∨ z = new.zone := by
  unfold touchedZones
  split
  · next h => simp [h]
  · simp

/-- R12: an object write changes the zone the object was in and the zone it is in, and its own record and pace state. -/
theorem applyObject_inZones (s : State) (o : ObjId) (new : ObjConf) :
    Touches (envelopeEffects ++ [.objCfg, .pace]) s (s.applyObject o new) ∧
      ∀ x, x ≠ (s.object o).cfg.zone → x ≠ new.zone → (s.applyObject o new).zone x = s.zone x := by
  have hconf : Touches (envelopeEffects ++ [.objCfg, .pace]) s (s.modObject o fun ob => { ob with cfg := new }) :=
    modObject_touches s o _
  obtain ⟨hrecomputed, hzones⟩ := foldl_inZone _ (fun t z => recomputeZone_inZone t z) (touchedZones (s.object o).cfg new)
    (s.modObject o fun ob => { ob with cfg := new })
  have hobject := hrecomputed.object o
  rw [State.object_modObject_self] at hobject
  unfold State.applyObject
  dsimp only
  generalize (touchedZones (s.object o).cfg new).foldl (fun s z => s.recomputeZone z)
    (s.modObject o fun ob => { ob with cfg := new }) = t at hrecomputed hzones hobject ⊢
  have hpaced : InZone new.zone ([.pace, .ceiling] ++ followParts) t
      (if (s.object o).cfg.allowance = new.allowance ∧ (s.object o).cfg.slack = new.slack then t else t.reevalPace o) := by
    split
    · exact .refl _ _ t
    · have h := reevalPace_inZone t o
      rwa [hobject] at h
  generalize (if (s.object o).cfg.allowance = new.allowance ∧ (s.object o).cfg.slack = new.slack then t
    else t.reevalPace o) = u at hpaced ⊢
  have htouch := (hconf.then_mono hrecomputed (by decide)).then_mono hpaced.touches (by decide)
  have hothers : ∀ x, x ∉ touchedZones (s.object o).cfg new → u.zone x = s.zone x := fun x hx =>
    (hpaced.others x fun e => hx (mem_touchedZones.mpr (.inr e))).trans (hzones x hx)
  split
  · obtain ⟨hceilings, hleft⟩ := foldl_inZone _ (fun t z => recomputeCeiling_inZone t z) (touchedZones (s.object o).cfg new) u
    exact ⟨htouch.then_mono hceilings (by decide), fun x hold hnew => by
      have hx : x ∉ touchedZones (s.object o).cfg new := fun h => (mem_touchedZones.mp h).elim hold hnew
      exact (hleft x hx).trans (hothers x hx)⟩
  · exact ⟨htouch, fun x hold hnew => hothers x fun h => (mem_touchedZones.mp h).elim hold hnew⟩

/-! ### The right in the new zone -/

theorem named_eq (mask : Nat) : named mask =
    (if mask.testBit 0 then [1] else []) ++ (if mask.testBit 1 then [2] else []) ++
      (List.range' 3 14).filter fun n => mask.testBit (n - 1) := by
  unfold named
  rw [show List.range' 1 16 = 1 :: 2 :: List.range' 3 14 from rfl, List.filter_cons, List.filter_cons]
  cases mask.testBit 0 <;> cases mask.testBit 1 <;> simp_all

/-- The byte that decides the right in the new zone is the one that spells the zone written (R11). -/
theorem newZoneByte_of_spells {mask : Nat} {c : ObjConf} {bytes : List Byte} (h : Spells objectFields mask c bytes) {b : Byte}
    (hb : newZoneByte mask bytes = some b) : b = u1 c.zone.val := by
  have hbytes : bytes = _ := h.1
  rw [named_eq] at hbytes
  unfold newZoneByte at hb
  cases h1 : mask.testBit 1 <;> simp only [h1, if_true, if_false, Bool.false_eq_true, reduceCtorEq] at hb
  have hzone : objectFields.bytes c 2 = [u1 c.zone.val] := rfl
  have huse : ∃ x, objectFields.bytes c 1 = [x] := ⟨_, rfl⟩
  obtain ⟨x, huse⟩ := huse
  cases h0 : mask.testBit 0 <;> simp [h0, h1, hzone, huse] at hbytes hb <;> subst hbytes <;> simpa using hb.symm

theorem mayWriteObject_of_spells {s : State} {p : PortId} {o : ObjId} {mask : Nat} {c : ObjConf} {bytes : List Byte}
    (h : Spells objectFields mask c bytes) (hold : s.may p (s.object o).cfg.zone .envelope = true)
    (hnew : s.may p c.zone .envelope = true) : s.mayWriteObject p o mask bytes = true := by
  refine mayWriteObject_iff.mpr ⟨hold, fun z hz => ?_⟩
  have hzone : zoneOf? (u1 z.val) = zoneOf? (u1 c.zone.val) := congrArg _ (newZoneByte_of_spells h hz)
  rw [zoneOf?_u1, zoneOf?_u1, Option.some.injEq] at hzone
  rw [hzone]
  exact hnew

end Sys2Proof.Machine

open Sys2Proof Sys2Proof.Machine

set_option Elab.async false

/-- Settles O18: the write is `State.applyObject` in the state that has taken the request. -/
theorem writeObjectWritesTheObject : Obligations.WriteObjectWritesTheObject := by
  intro s p o mask c bytes f rest h hf h0 hmask hmakes hold hnew
  obtain ⟨htouch, hzones⟩ := applyObject_inZones (s.withTaken p rest) o c
  have hobject := fun x => applyObject_objects (s.withTaken p rest) o c x
  have hcurrent := fun z hz => (envelopeCurrent_iff _ z).mpr
    (applyObject_zoneCurrent (s.withTaken p rest) o c z fun hn => absurd (mem_touchedZones.mpr hz) hn)
  have hself := (hobject o).trans (if_pos rfl)
  have hwritten := writeFields_written (s := s.withTaken p rest) (p := p) (f := f) (ok := fun _ => true)
    (apply := fun new s => s.applyObject o new) (answer := fun s => objConfBytes (s.object o).cfg)
    (objectField_reads.readFields_eq_some.mpr hmakes) rfl
  refine ⟨((s.withTaken p rest).applyObject o c).answer p f .done (objConfBytes c), ?_, ?_,
    (hcurrent _ (.inl rfl)).of_answer f .done _, (hcurrent _ (.inr rfl)).of_answer f .done _, ?_, fun x hx => ?_, fun z hz hz' => ?_,
    htouch.accepted f .done _, htouch.answered f .done _⟩
  · rw [exec_writeObject_named h hf h0 hmask, if_pos (mayWriteObject_of_spells hmakes.1 hold hnew), hwritten, hself]
    rfl
  · exact congrArg Object.cfg hself
  · exact congrArg Object.pace hself
  · exact (hobject x).trans (if_neg hx)
  · exact hzones z hz hz'

end

section
/-! ## What reporting makes pending, and the records it appends (R163, R168, R169, R176) -/

namespace Sys2Proof.Machine

open Sys2Proof

set_option Elab.async false

/-! ### Bits of sets -/

theorem hasAttn_or (a : AttnSet) (b k : AttnBit) : hasAttn (a ||| attnBit b) k = (hasAttn a k || decide (k = b)) := by
  have hbit : hasAttn (attnBit b) k = decide (k = b) := by cases b <;> cases k <;> rfl
  rw [← hbit]
  exact BitVec.getLsbD_or

theorem hasCond_or (a b : CondSet) (c : Condition) : hasCond (a ||| b) c = (hasCond a c || hasCond b c) := BitVec.getLsbD_or

theorem hasCond_condBit (b c : Condition) : hasCond (condBit b) c = decide (c = b) := by
  cases b <;> cases c <;> rfl

theorem hasAttn_raise (pt : Port) (b k : AttnBit) : hasAttn (pt.raise b).attn k = (hasAttn pt.attn k || decide (k = b)) := by
  unfold Port.raise
  split
  · next h =>
    by_cases hk : k = b
    · subst hk; simp [h]
    · simp [hk]
  · exact hasAttn_or _ b k

/-! ### Port by port -/

/-- What each port becomes when every port is changed by itself, in turn. -/
theorem port_foldl {f : PortId → State → State} {g : PortId → Port → Port}
    (hf : ∀ p s q, (f p s).port q = if q = p then g p (s.port p) else s.port q) {l : List PortId} (hl : l.Nodup) (s : State)
    (q : PortId) : (l.foldl (fun s p => f p s) s).port q = if q ∈ l then g q (s.port q) else s.port q := by
  induction l generalizing s with
  | nil => rfl
  | cons p l ih =>
    obtain ⟨hp, hl⟩ := List.nodup_cons.mp hl
    rw [List.foldl_cons, ih hl, hf]
    by_cases hq : q = p
    · subst hq
      rw [if_neg hp, if_pos rfl, if_pos List.mem_cons_self]
    · simp only [hq, if_false, List.mem_cons, false_or]

theorem port_forPorts {f : PortId → State → State} {g : PortId → Port → Port}
    (hf : ∀ p s q, (f p s).port q = if q = p then g p (s.port p) else s.port q) (s : State) (q : PortId) :
    (s.forPorts f).port q = g q (s.port q) :=
  (port_foldl hf (List.nodup_finRange 3) s q).trans (if_pos (List.mem_finRange q))

theorem port_pendWhere (s : State) (b : AttnBit) (test : Port → Bool) (q : PortId) :
    (s.pendWhere b test).port q = if test (s.port q) then (s.port q).raise b else s.port q := by
  refine port_forPorts (g := fun _ pt => if test pt then pt.raise b else pt) (fun p s q => ?_) s q
  by_cases h : test (s.port p) <;> simp only [h, if_true, if_false, Bool.false_eq_true]
  · exact State.port_modPort s p q _
  · split
    · next e => rw [e]
    · rfl

/-- R176: the bits a port holds once a bit was made pending on the ports that meet a test. -/
theorem hasAttn_pendWhere (s : State) (b k : AttnBit) (test : Port → Bool) (q : PortId) :
    hasAttn ((s.pendWhere b test).port q).attn k = (hasAttn (s.port q).attn k || (decide (k = b) && test (s.port q))) := by
  rw [port_pendWhere]
  cases test (s.port q) <;> simp [hasAttn_raise]

/-! ### What leaves most bits, and every subscription -/

/-- Bits outside `B` stand on a port, and it is subscribed if it was. -/
structure PortRaises (B : List AttnBit) (a b : Port) : Prop where
  others     : ∀ k, k ∉ B → hasAttn b.attn k = hasAttn a.attn k
  subscribed : b.sub.isSome = a.sub.isSome

namespace PortRaises

variable {B D : List AttnBit} {a b c : Port}

theorem refl (B : List AttnBit) (a : Port) : PortRaises B a a := ⟨fun _ _ => rfl, rfl⟩

theorem trans (h : PortRaises B a b) (k : PortRaises B b c) : PortRaises B a c :=
  ⟨fun x hx => (k.others x hx).trans (h.others x hx), k.subscribed.trans h.subscribed⟩

theorem mono (h : PortRaises B a b) (hs : B ⊆ D) : PortRaises D a b := ⟨fun x hx => h.others x fun hB => hx (hs hB), h.subscribed⟩

theorem raise (pt : Port) {k : AttnBit} (hk : k ∈ B) : PortRaises B pt (pt.raise k) :=
  ⟨fun b hb => by rw [hasAttn_raise, decide_eq_false fun e : b = k => hb (e ▸ hk), Bool.or_false], by
    unfold Port.raise
    split <;> rfl⟩

end PortRaises

theorem testAppended_raises (before : List Record) (r : Record) (pt : Port) :
    PortRaises [.watermark, .watchMatch] pt (pt.testAppended before r) := by
  unfold Port.testAppended
  split
  · exact .refl _ pt
  · next sub _ =>
    have h : PortRaises [.watermark, .watchMatch] pt (match sub.watch with
        | some sel => if matchesSel sel r then pt.raise .watchMatch else pt
        | none => pt) := by
      split
      · split
        · exact .raise pt (by decide)
        · exact .refl _ pt
      · exact .refl _ pt
    dsimp only
    split
    · exact h.trans (.raise _ (by decide))
    · exact h

/-- Bits outside `B` stand on every port, and the ports subscribed are those subscribed before. -/
def Raises (B : List AttnBit) (s t : State) : Prop := ∀ p, PortRaises B (s.port p) (t.port p)

namespace Raises

variable {B D : List AttnBit} {s t u : State}

theorem refl (B : List AttnBit) (s : State) : Raises B s s := fun _ => .refl _ _

theorem trans (h : Raises B s t) (k : Raises B t u) : Raises B s u := fun p => (h p).trans (k p)

theorem mono (h : Raises B s t) (hs : B ⊆ D) : Raises D s t := fun p => (h p).mono hs

theorem then_mono (h : Raises B s t) (k : Raises D t u) (hs : D ⊆ B) : Raises B s u := h.trans (k.mono hs)

theorem of_ports (B : List AttnBit) (h : t.ports = s.ports) : Raises B s t := fun p => by
  have hp : t.port p = s.port p := by simp only [State.port, h]
  rw [hp]
  exact .refl _ _

theorem anySubscribed (h : Raises B s t) : t.anySubscribed = s.anySubscribed := by
  unfold State.anySubscribed
  exact congrArg allPorts.any (funext fun p => (h p).subscribed)

end Raises

theorem pendWhere_raises (s : State) (b : AttnBit) (test : Port → Bool) : Raises [b] s (s.pendWhere b test) := fun p => by
  rw [port_pendWhere]
  split
  · exact .raise _ (List.mem_singleton_self b)
  · exact .refl _ _

theorem makeRoom_raises (s : State) (size : Nat) : Raises [] s (s.makeRoom size) := by
  unfold State.makeRoom
  dsimp only
  split
  · exact .refl _ s
  · intro p
    rw [port_forPorts (g := fun _ => Port.loseOldest _) fun p s q => State.port_modPort s p q _]
    exact ⟨fun _ _ => rfl, Option.isSome_map⟩

theorem append_raises (s : State) (r : Record) : Raises [.watermark, .watchMatch] s (s.append r) := fun p => by
  unfold State.append
  rw [port_forPorts (g := fun _ => Port.testAppended s.records r) fun p s q => State.port_modPort s p q _]
  exact testAppended_raises _ _ _

theorem offer_raises (s : State) (r : Record) : Raises [.watermark, .watchMatch] s (s.offer r) := by
  unfold State.offer
  split
  · exact ((makeRoom_raises s _).mono (List.nil_subset _)).trans (append_raises _ r)
  · exact .refl _ s

/-! ### The operations of a zone -/

theorem addSticky_raises (s : State) (z : ZoneId) (c : Condition) : Raises [.zoneCondition] s (s.addSticky z c) := by
  unfold State.addSticky
  split
  · exact .refl _ s
  · exact (Raises.of_ports _ rfl).trans (pendWhere_raises (s.modZone z _) _ _)

theorem addStickySet_raises (s : State) (z : ZoneId) (cs : CondSet) : Raises [.zoneCondition] s (s.addStickySet z cs) :=
  foldl_keeps _ (Raises [.zoneCondition] s) (fun t c ht => by
    split
    · exact ht.trans (addSticky_raises t z c)
    · exact ht) _ s (.refl _ s)

theorem recordEvaluation_raises (s : State) (z : ZoneId) (cs : CondSet) : Raises [.zoneCondition] s (s.recordEvaluation z cs) :=
  (Raises.of_ports _ rfl).trans (addStickySet_raises (s.modZone z _) z cs)

theorem enlist_ports (s : State) (z : ZoneId) (ch : ChanKind) : (s.enlist z ch).ports = s.ports := by
  unfold State.enlist
  split <;> rfl

theorem handToLoop_ports (s : State) (z : ZoneId) (ch : ChanKind) (v : Int) : (s.handToLoop z ch v).ports = s.ports := by
  unfold State.handToLoop
  split
  · rfl
  · dsimp only
    split
    · rfl
    · exact enlist_ports _ z ch

theorem grant_raises (s : State) (port : Option PortId) (z : ZoneId) (ch : ChanKind) (r : Option Int) (v : Int) (c : Bool) :
    Raises [.watermark, .watchMatch] s (s.grant port z ch r v c) :=
  (Raises.of_ports _ (handToLoop_ports (s.modChan z ch _) z ch v)).trans (offer_raises _ _)

theorem ceilingFollow_raises (s : State) (z : ZoneId) (old : Nat) :
    Raises [.watermark, .watchMatch, .zoneCondition] s (s.ceilingFollow z old) := by
  unfold State.ceilingFollow
  split
  · exact .refl _ s
  · split
    · exact ((recordEvaluation_raises s z _).mono (by decide)).then_mono (grant_raises _ _ z _ _ _ _) (by decide)
    · exact .refl _ s

theorem recomputeCeiling_raises (s : State) (z : ZoneId) :
    Raises [.watermark, .watchMatch, .zoneCondition] s (s.recomputeCeiling z) := by
  unfold State.recomputeCeiling
  dsimp only
  split
  · exact .refl _ s
  · exact (Raises.of_ports _ rfl).trans (ceilingFollow_raises (s.modZone z _) z _)

theorem closeExc_raises (s : State) (z : ZoneId) (k : ExcKind) (r : CloseReason) :
    Raises [.watermark, .watchMatch, .excursion] s (s.closeExc z k r) := by
  unfold State.closeExc
  split
  · exact .refl _ s
  · exact ((Raises.of_ports _ rfl).then_mono (offer_raises ((s.modZone z _).setExc z k none) _) (by decide)).then_mono
      (pendWhere_raises _ _ _) (by decide)

/-! ### The records -/

/-- The drop that makes room leaves the newest records that fit (R163). -/
theorem dropCount_append_le {limit : Nat} {rs : List Record} (h : totalSize rs ≤ limit) (old : List Record) :
    dropCount limit (old ++ rs) ≤ old.length := by
  induction old with
  | nil =>
    cases rs with
    | nil => exact Nat.le_refl 0
    | cons r rs => exact (if_pos h).le
  | cons r old ih =>
    rw [List.cons_append, dropCount]
    split
    · exact Nat.zero_le _
    · exact Nat.succ_le_succ ih

theorem records_forPorts {f : PortId → State → State} (hf : ∀ p s, (f p s).records = s.records) (s : State) :
    (s.forPorts f).records = s.records :=
  foldl_keeps (fun s p => f p s) (fun t => t.records = s.records) (fun t p ht => (hf p t).trans ht) _ s rfl

theorem pendWhere_records (s : State) (b : AttnBit) (test : Port → Bool) : (s.pendWhere b test).records = s.records :=
  records_forPorts (fun p s => by split <;> rfl) s

theorem makeRoom_records (s : State) (size : Nat) :
    (s.makeRoom size).records = s.records.drop (dropCount (queueCapacity - size) s.records) := by
  unfold State.makeRoom
  dsimp only
  split
  · next h => rw [h, List.drop_zero]
  · exact records_forPorts (fun _ _ => rfl) _

theorem append_records (s : State) (r : Record) : (s.append r).records = s.records ++ [r] := records_forPorts (fun _ _ => rfl) _

/-- An offered record comes last, and the newest records for which the queue has room stand before it (R162, R163). -/
theorem ReportsAll.offer {s t : State} {rs : List Record} (h : ReportsAll s t rs) (ht : t.anySubscribed = s.anySubscribed)
    (r : Record) (hsize : totalSize rs + recordSize r ≤ queueCapacity) : ReportsAll s (t.offer r) (rs ++ [r]) := by
  intro hs
  obtain ⟨old, hold⟩ := h hs
  have hdrop := dropCount_append_le (rs := rs) (limit := queueCapacity - recordSize r) (by omega) old
  refine ⟨old.drop (dropCount (queueCapacity - recordSize r) (old ++ rs)), ?_⟩
  unfold State.offer
  rw [if_pos (ht.trans hs), append_records, makeRoom_records, hold, List.drop_append_of_le_length hdrop, List.append_assoc]

theorem totalSize_append (a b : List Record) : totalSize (a ++ b) = totalSize a + totalSize b := by
  induction a with
  | nil => simp [totalSize]
  | cons r a ih => simp only [List.cons_append, totalSize, ih, Nat.add_assoc]

end Sys2Proof.Machine
end

section
/-! ## The sticky set and its reports (R92) -/

namespace Sys2Proof.Machine

open Sys2Proof

set_option Elab.async false

/-! ### Sets of bits -/

theorem bits_eq_zero_iff {n : Nat} {a : BitVec n} : a = 0 ↔ ∀ i, a.getLsbD i ≠ true := by
  refine ⟨fun h i => ?_, fun h => BitVec.eq_of_getLsbD_eq fun i _ => (Bool.eq_false_iff.mpr (h i)).trans BitVec.getLsbD_zero.symm⟩
  rw [h, show (0 : BitVec n).getLsbD i = false from BitVec.getLsbD_zero]
  exact Bool.false_ne_true

theorem bits_new_iff {n : Nat} {a b : BitVec n} {i : Nat} :
    (b &&& ~~~a).getLsbD i = true ↔ b.getLsbD i = true ∧ a.getLsbD i = false := by
  rw [BitVec.getLsbD_and, BitVec.getLsbD_not, Bool.and_eq_true, Bool.and_eq_true, decide_eq_true_iff]
  exact ⟨fun ⟨hb, _, ha⟩ => ⟨hb, by simpa using ha⟩, fun ⟨hb, ha⟩ => ⟨hb, BitVec.lt_of_getLsbD hb, by simpa using ha⟩⟩

theorem bits_subset_iff {n : Nat} {a b : BitVec n} : a &&& ~~~b = 0 ↔ ∀ i, a.getLsbD i = true → b.getLsbD i = true := by
  rw [bits_eq_zero_iff]
  refine forall_congr' fun i => ?_
  rw [ne_eq, bits_new_iff]
  cases b.getLsbD i <;> simp

theorem bits_meet_iff {n : Nat} {a b : BitVec n} : a &&& b ≠ 0 ↔ ∃ i, a.getLsbD i = true ∧ b.getLsbD i = true := by
  rw [ne_eq, bits_eq_zero_iff, not_forall]
  simp only [ne_eq, not_not, BitVec.getLsbD_and, Bool.and_eq_true]

/-! ### Additions to the sticky set -/

namespace StickyReported

variable {s t u : State} {z : ZoneId}

/-- A step that leaves the sticky set and the bit. -/
theorem of_same (hs : (t.zone z).sticky = (s.zone z).sticky)
    (hattn : ∀ p, hasAttn (t.port p).attn .zoneCondition = hasAttn (s.port p).attn .zoneCondition) : StickyReported s t z :=
  ⟨by rw [hs]; exact bits_subset_iff.mpr fun _ h => h, fun p => by
    rw [hs, hattn]
    refine ⟨.inl, fun h => h.elim id fun ⟨_, hnew⟩ => absurd (bits_meet_iff.mp hnew) ?_⟩
    rintro ⟨i, _, hi⟩
    obtain ⟨hheld, hnew⟩ := bits_new_iff.mp hi
    exact absurd (hheld.symm.trans hnew) (by decide)⟩

theorem refl (s : State) (z : ZoneId) : StickyReported s s z := .of_same rfl fun _ => rfl

theorem trans {F : List Part} (h : StickyReported s t z) (hset : Touches F s t) (k : StickyReported t u z)
    (hF : Part.settings ∉ F := by decide) : StickyReported s u z := by
  have hkept := bits_subset_iff.mp h.kept
  have kkept := bits_subset_iff.mp k.kept
  refine ⟨bits_subset_iff.mpr fun i hi => kkept i (hkept i hi), fun p => ?_⟩
  obtain ⟨-, hz, hc, -⟩ : (t.port p).enable = (s.port p).enable ∧ (t.port p).zoneSet = (s.port p).zoneSet ∧
      (t.port p).condSet = (s.port p).condSet ∧ (t.port p).mode = (s.port p).mode := by
    simpa only [State.part, Prod.mk.injEq] using congrFun (hset .settings hF) p
  rw [k.attention, h.attention, hz, hc, or_assoc, ← and_or_left]
  refine or_congr_right (and_congr_right fun _ => ?_)
  simp only [bits_meet_iff, bits_new_iff]
  constructor
  · rintro (⟨i, hi, ht, hs⟩ | ⟨i, hi, hu, ht⟩)
    · exact ⟨i, hi, kkept i ht, hs⟩
    · refine ⟨i, hi, hu, ?_⟩
      by_contra hs
      rw [hkept i (by simpa using hs)] at ht
      cases ht
  · rintro ⟨i, hi, hu, hs⟩
    cases ht : ((t.zone z).sticky).getLsbD i
    · exact .inr ⟨i, hi, hu, ht⟩
    · exact .inl ⟨i, hi, ht, hs⟩

/-- A change of another part of the zone comes first. -/
theorem of_modZone {f : Zone → Zone} (h : StickyReported (s.modZone z f) t z) (hf : (f (s.zone z)).sticky = (s.zone z).sticky) :
    StickyReported s t z := by
  have hsticky : ((s.modZone z f).zone z).sticky = (s.zone z).sticky := by rw [State.zone_modZone_self, hf]
  exact ⟨hsticky ▸ h.kept, fun p => hsticky ▸ h.attention p⟩

end StickyReported

namespace Touches

variable {F : List Part} {s t : State}

theorem zoneSticky (h : Touches F s t) (z : ZoneId) (hF : Part.sticky ∉ F := by decide) :
    (t.zone z).sticky = (s.zone z).sticky := congrFun (h .sticky hF) z
theorem zoneCause (h : Touches F s t) (z : ZoneId) (hF : Part.cause ∉ F := by decide) :
    (t.zone z).cause = (s.zone z).cause := congrFun (h .cause hF) z
theorem zoneDet (h : Touches F s t) (z : ZoneId) (hF : Part.det ∉ F := by decide) :
    (t.zone z).det = (s.zone z).det := congrFun (h .det hF) z
theorem zoneOvr (h : Touches F s t) (z : ZoneId) (hF : Part.ovr ∉ F := by decide) :
    (t.zone z).ovr = (s.zone z).ovr := congrFun (h .ovr hF) z

end Touches

theorem addSticky_hasCond (s : State) (z : ZoneId) (c k : Condition) :
    hasCond ((s.addSticky z c).zone z).sticky k = (hasCond (s.zone z).sticky k || decide (k = c)) := by
  unfold State.addSticky
  split
  · next h =>
    by_cases hk : k = c
    · subst hk; simp [h]
    · simp [hk]
  · rw [(pendWhere_reported _ _ _).zone, State.zone_modZone_self, hasCond_or, hasCond_condBit]

theorem addSticky_stickyReported (s : State) (z : ZoneId) (c : Condition) : StickyReported s (s.addSticky z c) z := by
  unfold State.addSticky
  split
  · exact .refl s z
  · next h =>
    have hsticky : ∀ test : Port → Bool, (((s.modZone z fun zn => { zn with sticky := zn.sticky ||| condBit c }).pendWhere
        .zoneCondition test).zone z).sticky = (s.zone z).sticky ||| condBit c := fun test => by
      rw [(pendWhere_reported _ _ _).zone, State.zone_modZone_self]
    have hbit : ∀ i, (condBit c).getLsbD i = true ↔ i = condIdx c := fun i => by
      cases c <;> simp [condBit, condIdx, BitVec.getLsbD_twoPow, eq_comm]
    refine ⟨?_, fun p => ?_⟩
    · rw [hsticky]
      exact bits_subset_iff.mpr fun i hi => by rw [BitVec.getLsbD_or, hi, Bool.true_or]
    · rw [hasAttn_pendWhere, hsticky, Bool.or_eq_true, decide_eq_true rfl, Bool.true_and, Bool.and_eq_true, bits_meet_iff]
      refine or_congr_right (and_comm.trans (and_congr_right fun _ => ⟨fun hc => ⟨condIdx c, hc, ?_⟩, ?_⟩))
      · exact bits_new_iff.mpr ⟨by rw [BitVec.getLsbD_or, (hbit _).mpr rfl, Bool.or_true], by simpa [hasCond] using h⟩
      · rintro ⟨i, hi, hnew⟩
        obtain ⟨hor, hold⟩ := bits_new_iff.mp hnew
        rw [BitVec.getLsbD_or, hold, Bool.false_or, hbit] at hor
        subst hor
        exact hi

theorem addStickySet_stickyReported (s : State) (z : ZoneId) (cs : CondSet) : StickyReported s (s.addStickySet z cs) z :=
  (foldl_keeps _ (fun t => StickyReported s t z ∧ Touches (.sticky :: reporting) s t) (fun t c ht => by
    split
    · have ha := addSticky_inZone t z c
      exact ⟨ht.1.trans ht.2 (addSticky_stickyReported t z c), ht.2.trans ha.touches⟩
    · exact ht) _ s ⟨.refl s z, .refl _ s⟩).1

/-- A condition that is not raised is added nowhere. -/
theorem addStickySet_lacks (s : State) (z : ZoneId) {cs : CondSet} {k : Condition} (hk : hasCond cs k = false) :
    hasCond ((s.addStickySet z cs).zone z).sticky k = hasCond (s.zone z).sticky k :=
  foldl_keeps _ (fun t => hasCond (t.zone z).sticky k = hasCond (s.zone z).sticky k) (fun t c ht => by
    split
    · next hc =>
      have hne : k ≠ c := fun e => by rw [e, hc] at hk; cases hk
      rw [addSticky_hasCond, decide_eq_false hne, Bool.or_false, ht]
    · exact ht) _ s rfl

theorem recordEvaluation_stickyReported (s : State) (z : ZoneId) (cs : CondSet) : StickyReported s (s.recordEvaluation z cs) z :=
  .of_modZone (addStickySet_stickyReported _ z cs) rfl

/-! ## A new C: what ceiling follow leaves (R94, R95) -/

theorem ceilingFollow_stickyReported (s : State) (z : ZoneId) (old : Nat) : StickyReported s (s.ceilingFollow z old) z := by
  unfold State.ceilingFollow
  split
  · exact .refl s z
  · split
    · exact (recordEvaluation_stickyReported s z _).trans (recordEvaluation_inZone s z _).touches
        (.of_same ((grant_inZone _ _ z _ _ _ _).touches.zoneSticky z) fun p => (grant_raises _ _ z _ _ _ _ p).others _ (by decide))
    · exact .refl s z

theorem recomputeCeiling_stickyReported (s : State) (z : ZoneId) : StickyReported s (s.recomputeCeiling z) z := by
  unfold State.recomputeCeiling
  dsimp only
  split
  · exact .refl s z
  · exact .of_modZone (ceilingFollow_stickyReported _ z _) rfl

/-- Ceiling follow raises no CONFLICT: it leaves that bit of the sticky set, and takes it at most out of the cause set (R94, R95). -/
theorem ceilingFollow_conflict (s : State) (z : ZoneId) (old : Nat) :
    hasCond ((s.ceilingFollow z old).zone z).sticky .conflict = hasCond (s.zone z).sticky .conflict ∧
      (hasCond ((s.ceilingFollow z old).zone z).cause .conflict = true → hasCond (s.zone z).cause .conflict = true) := by
  unfold State.ceilingFollow
  split
  · exact ⟨rfl, id⟩
  · split
    · dsimp only
      generalize hcs : condBit .ceilingFollow ||| condBit .clampLight ||| condIf _ .daylightOver ||| _ = cs
      have hlacks : hasCond cs .conflict = false := by
        rw [← hcs]
        unfold LightInput.heldCond condIf
        simp only [hasCond_or, hasCond_condBit]
        split <;> split <;> simp [hasCond_condBit] <;> decide
      have hcause : ((s.recordEvaluation z cs).zone z).cause = cs := by
        have h := (addStickySet_inZone (s.modZone z fun zn => { zn with cause := cs }) z cs).touches.zoneCause z
        rwa [State.zone_modZone_self] at h
      have hsticky : hasCond ((s.recordEvaluation z cs).zone z).sticky .conflict = hasCond (s.zone z).sticky .conflict := by
        have h := addStickySet_lacks (s.modZone z fun zn => { zn with cause := cs }) z hlacks
        rwa [State.zone_modZone_self] at h
      have hgrant := fun v => (grant_inZone (s.recordEvaluation z cs) none z .light
        ((s.recordEvaluation z cs).chan z .light).granted v true).touches
      refine ⟨(congrArg (hasCond · _) ((hgrant _).zoneSticky z)).trans hsticky, fun h => ?_⟩
      rw [State.grantFromPart, (hgrant _).zoneCause z, hcause, hlacks] at h
      cases h
    · exact ⟨rfl, id⟩

theorem recomputeCeiling_conflict (s : State) (z : ZoneId) :
    hasCond ((s.recomputeCeiling z).zone z).sticky .conflict = hasCond (s.zone z).sticky .conflict ∧
      (hasCond ((s.recomputeCeiling z).zone z).cause .conflict = true → hasCond (s.zone z).cause .conflict = true) := by
  unfold State.recomputeCeiling
  dsimp only
  split
  · exact ⟨rfl, id⟩
  · have h := ceilingFollow_conflict (s.modZone z fun zn => { zn with ceiling := s.ceilingOf z }) z (s.zone z).ceiling
    rwa [State.zone_modZone_self] at h

end Sys2Proof.Machine
end

section
/-! ## Excursions that close, and the CONFLICT state (R17, R18, R135) -/

namespace Sys2Proof.Machine

open Sys2Proof

set_option Elab.async false

theorem setExc_det (s : State) (z : ZoneId) (k : ExcKind) (e : Option Excursion) :
    (∀ j, ((s.setExc z k e).zone z).exc j = if j = k then e else (s.zone z).exc j) ∧
      ((s.setExc z k e).zone z).det.luxPending = (s.zone z).det.luxPending ∧
      ((s.setExc z k e).zone z).det.uvFirst = (s.zone z).det.uvFirst := by
  unfold State.setExc
  rw [State.zone_modZone_self]
  refine ⟨fun j => ?_, rfl, rfl⟩
  have hidx : (excIdx k).val = (excIdx j).val ↔ j = k := by cases j <;> cases k <;> decide
  simp only [Zone.exc, Fin.getElem_fin, Vector.getElem_set, hidx]

/-- What a close of a kind makes of the zone's excursions (R135). -/
theorem closeExc_det (s : State) (z : ZoneId) (k : ExcKind) (r : CloseReason) :
    (∀ j, ((s.closeExc z k r).zone z).exc j = if j = k then none else (s.zone z).exc j) ∧
      ((s.closeExc z k r).zone z).det.luxPending = (s.zone z).det.luxPending ∧
      ((s.closeExc z k r).zone z).det.uvFirst = (s.zone z).det.uvFirst := by
  unfold State.closeExc
  split
  · next h =>
    refine ⟨fun j => ?_, rfl, rfl⟩
    split
    · next e => rw [e, h]
    · rfl
  · next e _ =>
    have hdet := setExc_det (s.modZone z fun zn => { zn with ovr := zn.ovr.endWith k }) z k none
    rw [State.zone_modZone_self] at hdet
    have hzone : ∀ t : State, ∀ x, ((t.offer x).pendZone z .excursion).zone z = t.zone z := fun t x =>
      ((pendZone_reported _ z _).zone z).trans ((offer_reported t x).zone z)
    simp only [hzone]
    exact hdet

theorem closeExc_absent {s : State} {z : ZoneId} {k : ExcKind} (h : (s.zone z).exc k = none) (r : CloseReason) :
    s.closeExc z k r = s := by
  simp only [State.closeExc, h]

theorem closeExc_attention (s : State) (z : ZoneId) (k : ExcKind) (r : CloseReason) (p : PortId) :
    hasAttn ((s.closeExc z k r).port p).attn .excursion =
      (hasAttn (s.port p).attn .excursion || (((s.zone z).exc k).isSome && inZoneSet (s.port p).zoneSet z)) := by
  unfold State.closeExc
  split
  · next h => rw [h, Option.isSome_none, Bool.false_and, Bool.or_false]
  · next e h =>
    have hoffer := fun t r => And.intro ((offer_raises t r p).others .excursion (by decide)) ((offer_reported t r).2 p).zoneSet
    rw [State.pendZone, hasAttn_pendWhere, (hoffer _ _).1, (hoffer _ _).2, h]
    rfl

/-- A close appends its record, if the excursion was open (R135). -/
theorem ReportsAll.closeExc {s t : State} {rs : List Record} (h : ReportsAll s t rs) (ht : t.anySubscribed = s.anySubscribed)
    (z : ZoneId) (k : ExcKind) (r : CloseReason) (hsize : totalSize rs + 21 ≤ queueCapacity) :
    ReportsAll s (t.closeExc z k r) (rs ++ excursionRecord t.clock z r k ((t.zone z).exc k) none) := by
  unfold State.closeExc
  cases (t.zone z).exc k with
  | none => exact (List.append_nil rs).symm ▸ h
  | some e =>
    have hoffer := ReportsAll.offer (t := (t.modZone z fun zn => { zn with ovr := zn.ovr.endWith k }).setExc z k none) h ht
      (.excursionClose t.clock z k e r) hsize
    intro hs
    obtain ⟨old, hold⟩ := hoffer hs
    exact ⟨old, (pendWhere_records _ _ _).trans hold⟩

/-! ### Closes in turn -/

/-- The excursions of the kinds `ks` have closed, and nothing else has happened to the zone's detection (R135, R136). -/
structure Closes (z : ZoneId) (reason : CloseReason) (ks : List ExcKind) (s t : State) : Prop where
  inZone    : InZone z ([.det, .ovr] ++ reporting) s t
  raises    : Raises [.watermark, .watchMatch, .excursion] s t
  exc       : ∀ k, (t.zone z).exc k = if k ∈ ks then none else (s.zone z).exc k
  samples   : (t.zone z).det.luxPending = (s.zone z).det.luxPending ∧ (t.zone z).det.uvFirst = (s.zone z).det.uvFirst
  records   : ReportsAll s t (ks.flatMap fun k => excursionRecord s.clock z reason k ((s.zone z).exc k) none)
  attention : ∀ p, hasAttn (t.port p).attn .excursion = true ↔ hasAttn (s.port p).attn .excursion = true ∨
    ((s.port p).zoneSet.getLsbD z.val = true ∧ ∃ k ∈ ks, ((s.zone z).exc k).isSome = true)

namespace Closes

variable {z : ZoneId} {reason : CloseReason} {ks : List ExcKind} {s t : State}

theorem nil (z : ZoneId) (reason : CloseReason) (s : State) : Closes z reason [] s s where
  inZone := .refl z _ s
  raises := .refl _ s
  exc _ := rfl
  samples := ⟨rfl, rfl⟩
  records _ := ⟨s.records, (List.append_nil _).symm⟩
  attention p := by simp

theorem totalSize_closes (now : GTime) (z : ZoneId) (reason : CloseReason) (exc : ExcKind → Option Excursion)
    (ks : List ExcKind) : totalSize (ks.flatMap fun k => excursionRecord now z reason k (exc k) none) ≤ 21 * ks.length := by
  induction ks with
  | nil => exact Nat.le_refl 0
  | cons k ks ih =>
    rw [List.flatMap_cons, totalSize_append, List.length_cons]
    have hk : totalSize (excursionRecord now z reason k (exc k) none) ≤ 21 := by
      cases exc k
      · exact Nat.zero_le _
      · exact Nat.le_refl _
    omega

/-- One more kind closes; the queue has room for the close records of every kind (R159, R160). -/
theorem snoc (h : Closes z reason ks s t) {k : ExcKind} (hk : k ∉ ks) (hlen : ks.length < 6) :
    Closes z reason (ks ++ [k]) s (t.closeExc z k reason) := by
  obtain ⟨hexc, hlux, huv⟩ := closeExc_det t z k reason
  have hheld : (t.zone z).exc k = (s.zone z).exc k := (h.exc k).trans (if_neg hk)
  have hclock : t.clock = s.clock := h.inZone.touches .clock (by decide)
  have hzones : ∀ p, (t.port p).zoneSet = (s.port p).zoneSet := fun p => by
    have hp := congrFun (h.inZone.touches .settings (by decide)) p
    simp only [State.part, Prod.mk.injEq] at hp
    exact hp.2.1
  refine ⟨h.inZone.trans (closeExc_inZone t z k reason), h.raises.trans (closeExc_raises t z k reason), fun j => ?_,
    ⟨hlux.trans h.samples.1, huv.trans h.samples.2⟩, ?_, fun p => ?_⟩
  · rw [hexc, h.exc]
    by_cases hj : j = k
    · simp [hj]
    · simp [hj]
  · rw [List.flatMap_append, List.flatMap_singleton]
    have hsize := totalSize_closes s.clock z reason (s.zone z).exc ks
    have hclose := h.records.closeExc h.raises.anySubscribed z k reason (by unfold queueCapacity; omega)
    rwa [hclock, hheld] at hclose
  · rw [closeExc_attention, Bool.or_eq_true, h.attention, hheld, hzones, or_assoc]
    simp only [List.mem_append, List.mem_singleton, or_and_right, exists_or, exists_eq_left, Bool.and_eq_true, and_or_left,
      inZoneSet, and_comm (b := ((s.port p).zoneSet.getLsbD z.val = true))]

/-- Kinds that close one after the other. -/
theorem foldl {done : List ExcKind} (h : Closes z reason done s t) {ks : List ExcKind} (hnodup : (done ++ ks).Nodup)
    (hlen : (done ++ ks).length ≤ 6) : Closes z reason (done ++ ks) s (ks.foldl (fun s k => s.closeExc z k reason) t) := by
  induction ks generalizing done t with
  | nil => simpa using h
  | cons k ks ih =>
    have hsplit : done ++ k :: ks = (done ++ [k]) ++ ks := by simp
    have hk : k ∉ done := fun hk => (List.nodup_append.mp hnodup).2.2 k hk k List.mem_cons_self rfl
    rw [hsplit] at hnodup hlen ⊢
    refine ih (h.snoc hk ?_) hnodup hlen
    simp only [List.length_append, List.length_singleton] at hlen
    omega

/-- The reports are those of what closed (R134 to R136). -/
theorem reported (h : Closes z reason ks s t) : ExcursionsReported s t z ks reason where
  records := by
    have hlist : (ks.flatMap fun k => excursionRecord s.clock z reason k ((s.zone z).exc k) ((t.zone z).exc k)) =
        ks.flatMap fun k => excursionRecord s.clock z reason k ((s.zone z).exc k) none :=
      List.flatMap_congr fun k hk => by rw [h.exc, if_pos hk]
    rw [hlist]
    exact h.records
  attention p := by
    have hkinds : (∃ k ∈ ks, ((s.zone z).exc k).isSome ≠ ((t.zone z).exc k).isSome) ↔ ∃ k ∈ ks, ((s.zone z).exc k).isSome = true :=
      exists_congr fun k => and_congr_right fun hk => by
        rw [h.exc, if_pos hk]
        cases (s.zone z).exc k <;> simp
    rw [hkinds]
    exact h.attention p

end Closes

/-! ### The CONFLICT state -/

/-- The close of the two band excursions in a zone that enters CONFLICT (R18). -/
theorem closes_bands (s : State) (z : ZoneId) :
    Closes z .conflict [.tBand, .rhBand] s ((s.closeExc z .tBand .conflict).closeExc z .rhBand .conflict) :=
  (Closes.nil z .conflict s).foldl (ks := [.tBand, .rhBand]) (by decide) (by decide)

/-- Nothing that detection, its reports or their subscribers rest on has changed in a zone. -/
structure SameWatch (z : ZoneId) (s t : State) : Prop where
  clock      : t.clock = s.clock
  det        : (t.zone z).det = (s.zone z).det
  zoneSet    : ∀ p, (t.port p).zoneSet = (s.port p).zoneSet
  subscribed : t.anySubscribed = s.anySubscribed
  attention  : ∀ p, hasAttn (t.port p).attn .excursion = hasAttn (s.port p).attn .excursion

namespace SameWatch

variable {z : ZoneId} {s t u : State}

theorem of_touches {F : List Part} {B : List AttnBit} (h : Touches F s t) (r : Raises B s t)
    (hF : ∀ k ∈ [Part.clock, .det, .settings], k ∉ F := by decide) (hB : AttnBit.excursion ∉ B := by decide) : SameWatch z s t where
  clock := h .clock (hF _ (by decide))
  det := h.zoneDet z (hF _ (by decide))
  zoneSet p := by
    have hp := congrFun (h .settings (hF _ (by decide))) p
    simp only [State.part, Prod.mk.injEq] at hp
    exact hp.2.1
  subscribed := r.anySubscribed
  attention p := (r p).others _ hB

theorem exc (h : SameWatch z s t) (k : ExcKind) : (t.zone z).exc k = (s.zone z).exc k := by
  simp only [Zone.exc, h.det]

/-- What is reported after such a change is reported as if from before it. -/
theorem reported (h : SameWatch z s t) {ks : List ExcKind} {reason : CloseReason} (k : ExcursionsReported t u z ks reason) :
    ExcursionsReported s u z ks reason := by
  obtain ⟨hrecords, hattention⟩ := k
  simp only [ReportsAll, h.subscribed, h.clock, h.exc] at hrecords
  simp only [h.attention, h.zoneSet, h.exc] at hattention
  exact ⟨hrecords, hattention⟩

end SameWatch

/-- A change that appends no record, closes nothing and makes no EXCURSION pending leaves what was reported. -/
theorem ExcursionsReported.then_quiet {s t u : State} {z : ZoneId} {ks : List ExcKind} {reason : CloseReason}
    (k : ExcursionsReported s t z ks reason) (hrecords : u.records = t.records)
    (hexc : ∀ k, (u.zone z).exc k = (t.zone z).exc k)
    (hattn : ∀ p, hasAttn (u.port p).attn .excursion = hasAttn (t.port p).attn .excursion) : ExcursionsReported s u z ks reason := by
  obtain ⟨hkrecords, hattention⟩ := k
  refine ⟨?_, fun p => ?_⟩
  · simp only [ReportsAll, hrecords, hexc]
    exact hkrecords
  · rw [hattn]
    simp only [hexc]
    exact hattention p

/-- R17: the CONFLICT state follows the RH band, and nothing else changes in a zone that does not enter CONFLICT. -/
theorem updateConflict_stays {s : State} {z : ZoneId}
    (h : (s.zone z).conflict = true ∨ ((s.updateConflict z).zone z).conflict = false) :
    ∃ c, s.updateConflict z = s.modZone z fun zn => { zn with conflict := c } := by
  refine ⟨_, if_neg ?_⟩
  rw [updateConflict_conflict] at h
  rcases h with h | h <;> simp [h]

/-- R17, R18: a zone that enters CONFLICT gets the condition, and its band excursions close. -/
theorem updateConflict_enters {s : State} {z : ZoneId} (h0 : (s.zone z).conflict = false)
    (h1 : ((s.updateConflict z).zone z).conflict = true) :
    Closes z .conflict [.tBand, .rhBand] ((s.modZone z fun zn => { zn with conflict := true }).addSticky z .conflict)
      (s.updateConflict z) := by
  rw [updateConflict_conflict] at h1
  unfold State.updateConflict
  dsimp only
  rw [h1, h0]
  exact closes_bands _ z

theorem enterConflict_sameWatch (s : State) (z : ZoneId) :
    SameWatch z s ((s.modZone z fun zn => { zn with conflict := true }).addSticky z .conflict) :=
  .of_touches (F := [.conflict, .sticky] ++ reporting)
    (Touches.then_mono (modZone_touches s z _) (addSticky_inZone _ z _).touches (by decide))
    ((Raises.of_ports _ rfl).trans (addSticky_raises (s.modZone z _) z _))

theorem updateConflict_followed (s : State) (z : ZoneId) : ConflictFollowed s (s.updateConflict z) z := by
  by_cases hstay : (s.zone z).conflict = true ∨ ((s.updateConflict z).zone z).conflict = false
  · refine ⟨fun h0 h1 => ?_, fun _ => ?_, ?_, ?_⟩
    · rcases hstay with h | h
      · exact absurd (h0.symm.trans h) (by decide)
      · exact absurd (h.symm.trans h1) (by decide)
    all_goals
      obtain ⟨c, hc⟩ := updateConflict_stays hstay
      rw [hc, State.zone_modZone_self]
    · exact ⟨rfl, rfl, fun _ => rfl⟩
    · exact ⟨fun _ _ _ => rfl, rfl, rfl⟩
    · exact id
  · rw [not_or, Bool.not_eq_true, Bool.not_eq_false] at hstay
    have hcloses := updateConflict_enters hstay.1 hstay.2
    have hwatch := enterConflict_sameWatch s z
    refine ⟨fun _ _ => ⟨?_, (hcloses.exc _).trans (if_pos (by decide)), (hcloses.exc _).trans (if_pos (by decide)),
      hwatch.reported hcloses.reported⟩, fun h => ?_, ⟨fun k ht hrh => ?_, ?_, ?_⟩, fun h => ?_⟩
    · rw [hcloses.inZone.touches.zoneSticky z, addSticky_hasCond, decide_eq_true rfl, Bool.or_true]
    · rcases h with h | h
      · exact absurd (hstay.1.symm.trans h) (by decide)
      · exact absurd (h.symm.trans hstay.2) (by decide)
    · exact (hcloses.exc k).trans ((if_neg (by simp [ht, hrh])).trans (hwatch.exc k))
    · rw [hcloses.samples.1, hwatch.det]
    · rw [hcloses.samples.2, hwatch.det]
    · rwa [hcloses.inZone.touches.zoneCause z, (addSticky_inZone _ z _).touches.zoneCause z, State.zone_modZone_self] at h

theorem updateConflict_stickyReported (s : State) (z : ZoneId) : StickyReported s (s.updateConflict z) z := by
  by_cases hstay : (s.zone z).conflict = true ∨ ((s.updateConflict z).zone z).conflict = false
  · obtain ⟨c, hc⟩ := updateConflict_stays hstay
    rw [hc]
    exact .of_modZone (.refl _ z) rfl
  · rw [not_or, Bool.not_eq_true, Bool.not_eq_false] at hstay
    have hcloses := updateConflict_enters hstay.1 hstay.2
    exact .of_modZone ((addSticky_stickyReported _ z .conflict).trans (addSticky_inZone _ z .conflict).touches
      (.of_same (hcloses.inZone.touches.zoneSticky z) fun p => (hcloses.raises p).others _ (by decide))) rfl

/-! ### The recomputed zone -/

/-- What comes before the CONFLICT state's update leaves what it goes by (R16). -/
theorem ConflictFollowed.of_before {s t u : State} {z : ZoneId} (k : ConflictFollowed t u z) (h : SameWatch z s t)
    (hconflict : (t.zone z).conflict = (s.zone z).conflict)
    (hsticky : hasCond (t.zone z).sticky .conflict = hasCond (s.zone z).sticky .conflict)
    (hcause : hasCond (t.zone z).cause .conflict = true → hasCond (s.zone z).cause .conflict = true) : ConflictFollowed s u z where
  entered h0 h1 := by
    obtain ⟨hs, ht, hrh, hreported⟩ := k.entered (hconflict.trans h0) h1
    exact ⟨hs, ht, hrh, h.reported hreported⟩
  stayed hstay := by
    obtain ⟨hdet, hs, hattention⟩ := k.stayed (hconflict ▸ hstay)
    exact ⟨hdet.trans h.det, hs.trans hsticky, fun p => (hattention p).trans (h.attention p)⟩
  others := by
    obtain ⟨hexc, hlux, huv⟩ := k.others
    exact ⟨fun j ht hrh => (hexc j ht hrh).trans (h.exc j), by rw [hlux, h.det], by rw [huv, h.det]⟩
  cause hu := hcause (k.cause hu)

theorem recomputeZone_followed (s : State) (z : ZoneId) : ConflictFollowed s (s.recomputeZone z) z := by
  have hceiling := recomputeCeiling_inZone (s.modZone z fun zn => { zn with eff := s.effOf z }) z
  obtain ⟨hsticky, hcause⟩ := recomputeCeiling_conflict (s.modZone z fun zn => { zn with eff := s.effOf z }) z
  rw [State.zone_modZone_self] at hsticky hcause
  refine (updateConflict_followed _ z).of_before ?_ ?_ hsticky hcause
  · exact .of_touches (F := [.eff, .ceiling] ++ followParts)
      (Touches.then_mono (modZone_touches s z _) hceiling.touches (by decide))
      ((Raises.of_ports _ rfl).trans (recomputeCeiling_raises (s.modZone z _) z))
  · rw [hceiling.touches.zoneConflict z, State.zone_modZone_self]

theorem recomputeZone_stickyReported (s : State) (z : ZoneId) : StickyReported s (s.recomputeZone z) z :=
  .of_modZone ((recomputeCeiling_stickyReported _ z).trans (recomputeCeiling_inZone _ z).touches
    (updateConflict_stickyReported _ z)) rfl

end Sys2Proof.Machine
end

section
/-! ## A write of a zone's envelope (R10) -/

namespace Sys2Proof.Machine

open Sys2Proof

set_option Elab.async false

/-! ### From the taking of the request to its answer -/

section

variable {s u : State} {p : PortId} {rest : List Frame} {z : ZoneId}

theorem withTaken_raises (s : State) (p : PortId) (rest : List Frame) : Raises [] s (s.withTaken p rest) := fun q => by
  rw [withTaken_port]
  split
  · next e => subst e; exact ⟨fun _ _ => rfl, rfl⟩
  · exact .refl _ _

theorem withTaken_sameWatch (s : State) (p : PortId) (rest : List Frame) (z : ZoneId) : SameWatch z s (s.withTaken p rest) :=
  .of_touches (withTaken_touches s p rest) (withTaken_raises s p rest)

theorem answer_raises (s : State) (p : PortId) (f : Frame) (st : Status) (payload : List Byte) :
    Raises [] s (s.answer p f st payload) := fun q => by
  rw [answer_port]
  split
  · next e => subst e; exact ⟨fun _ _ => rfl, rfl⟩
  · exact .refl _ _

/-- An answer changes no zone, no attention bit and no record. -/
theorem ConflictFollowed.of_answer (h : ConflictFollowed (s.withTaken p rest) u z) (f : Frame) (st : Status)
    (payload : List Byte) : ConflictFollowed s (u.answer p f st payload) z := by
  have hwatch : SameWatch z u (u.answer p f st payload) := .of_touches (answer_touches_tx u p f st payload) (answer_raises u p f st payload)
  have h := h.of_before (withTaken_sameWatch s p rest z) rfl rfl id
  refine ⟨fun h0 h1 => ?_, fun hstay => ?_, h.others, h.cause⟩
  · obtain ⟨hs, ht, hrh, hreported⟩ := h.entered h0 h1
    exact ⟨hs, ht, hrh, hreported.then_quiet rfl hwatch.exc hwatch.attention⟩
  · obtain ⟨hdet, hs, hattention⟩ := h.stayed hstay
    exact ⟨hdet, hs, fun q => (hwatch.attention q).trans (hattention q)⟩

theorem StickyReported.of_answer {F : List Part} (h : StickyReported (s.withTaken p rest) u z)
    (hu : Touches F (s.withTaken p rest) u) (f : Frame) (st : Status) (payload : List Byte)
    (hF : Part.settings ∉ F := by decide) : StickyReported s (u.answer p f st payload) z := by
  have htaken : StickyReported s (s.withTaken p rest) z :=
    .of_same rfl fun q => (withTaken_raises s p rest q).others _ List.not_mem_nil
  have hanswer : StickyReported u (u.answer p f st payload) z :=
    .of_same rfl fun q => (answer_raises u p f st payload q).others _ List.not_mem_nil
  exact htaken.trans (withTaken_touches s p rest) (h.trans hu hanswer hF)

end

/-! ### The write -/

variable {s : State} {p : PortId} {f : Frame} {rest : List Frame} {mask : Nat} {bytes : List Byte} {z : ZoneId} {e : Envelope}

theorem applyEnvelope_inZone (s : State) (z : ZoneId) (e : Envelope) :
    InZone z (envelopeEffects ++ [.env]) s (s.applyEnvelope z e) :=
  InZone.then_mono (.of_modZone (modZone_touches s z _)) (recomputeZone_inZone _ z) (by decide)

theorem applyEnvelope_env (s : State) (z : ZoneId) (e : Envelope) : ((s.applyEnvelope z e).zone z).env = e := by
  have h := (recomputeZone_inZone (s.modZone z fun zn => { zn with env := e }) z).touches.zoneEnv z
  rwa [State.zone_modZone_self] at h

theorem applyEnvelope_followed (s : State) (z : ZoneId) (e : Envelope) : ConflictFollowed s (s.applyEnvelope z e) z := by
  refine (recomputeZone_followed _ z).of_before (.of_touches (F := [.env]) (B := []) (modZone_touches s z _) (.of_ports _ rfl)) ?_ ?_ ?_
  all_goals rw [State.zone_modZone_self]
  exact id

theorem applyEnvelope_stickyReported (s : State) (z : ZoneId) (e : Envelope) : StickyReported s (s.applyEnvelope z e) z :=
  .of_modZone (recomputeZone_stickyReported _ z) rfl

theorem Envelope.ordered_iff : e.ordered = true ↔ e.tLo ≤ e.tHi ∧ e.rhLo ≤ e.rhHi := by
  simp [Envelope.ordered]

theorem exec_writeEnvelope_written (h : NextRequest s p 0x11 f rest) (hf : f.payload = u1 z.val :: (u2 mask ++ bytes))
    (h0 : 0 < mask) (hmask : mask < 0x10000) (hmakes : Makes envelopeFields mask (s.zone z).env e bytes)
    (hmay : s.may p z .envelope = true) (hordered : e.ordered = true) :
    exec (.writeEnvelope p) s =
      .next ((((s.withTaken p rest).applyEnvelope z e).answer p f .done (envelopeBytes e)).countRequest p) := by
  rw [exec_writeEnvelope_named h hf h0 hmask, if_pos hmay,
    writeFields_written (envelopeField_reads.readFields_eq_some.mpr hmakes) hordered, applyEnvelope_env]

theorem writeEnvelope_inverted (h : NextRequest s p 0x11 f rest) (hf : f.payload = u1 z.val :: (u2 mask ++ bytes))
    (h0 : 0 < mask) (hmask : mask < 0x10000) (hmakes : Makes envelopeFields mask (s.zone z).env e bytes)
    (hmay : s.may p z .envelope = true) (hordered : e.ordered = false) :
    Refuses (.writeEnvelope p) s p f rest .badArg (some z) := by
  unfold Refuses
  rw [exec_writeEnvelope_named h hf h0 hmask, if_pos hmay,
    writeFields_barred (envelopeField_reads.readFields_eq_some.mpr hmakes) hordered, refuse_withTaken, namedBy_writeEnvelope h hf]

end Sys2Proof.Machine

open Sys2Proof Sys2Proof.Machine

set_option Elab.async false

/-- Settles O17: the write is `State.applyEnvelope` in the state that has taken the request; an inverted band is refused. -/
theorem writeEnvelopeWritesTheEnvelope : Obligations.WriteEnvelopeWritesTheEnvelope := by
  intro s p z mask e bytes f rest h hf h0 hmask hmakes hmay
  refine ⟨fun ht hrh => ?_, fun hinverted => ?_⟩
  · have hzone := applyEnvelope_inZone (s.withTaken p rest) z e
    refine ⟨_, exec_writeEnvelope_written h hf h0 hmask hmakes hmay (Envelope.ordered_iff.mpr ⟨ht, hrh⟩),
      applyEnvelope_env _ z e, (recomputeZone_current _ z).of_answer f .done _,
      (applyEnvelope_followed _ z e).of_answer f .done _,
      (applyEnvelope_stickyReported _ z e).of_answer hzone.touches f .done _, fun x hx => hzone.others x hx,
      hzone.touches.accepted f .done _, hzone.touches.answered f .done _⟩
  · refine writeEnvelope_inverted h hf h0 hmask hmakes hmay (Bool.eq_false_iff.mpr fun hordered => ?_)
    obtain ⟨ht, hrh⟩ := Envelope.ordered_iff.mp hordered
    omega

end

section
/-! ## What a zone write does to channels and nodes (R7 to R9, R157) -/

namespace Sys2Proof.Machine

open Sys2Proof

set_option Elab.async false

/-! ### Changes of nodes alone -/

/-- A change that leaves zones, command list and clock, and of the nodes their states and attempt counts. -/
structure LoopOnly (s t : State) : Prop where
  zones    : t.zones = s.zones
  commands : t.commands = s.commands
  clock    : t.clock = s.clock
  states   : ∀ n, (t.node n).state = (s.node n).state ∧ (t.node n).attempts = (s.node n).attempts

namespace LoopOnly

variable {s t u : State}

theorem refl (s : State) : LoopOnly s s := ⟨rfl, rfl, rfl, fun _ => ⟨rfl, rfl⟩⟩

theorem trans (h : LoopOnly s t) (k : LoopOnly t u) : LoopOnly s u :=
  ⟨k.zones.trans h.zones, k.commands.trans h.commands, k.clock.trans h.clock, fun n =>
    ⟨(k.states n).1.trans (h.states n).1, (k.states n).2.trans (h.states n).2⟩⟩

theorem zone (h : LoopOnly s t) (z : ZoneId) : t.zone z = s.zone z := by simp only [State.zone, h.zones]

theorem chan (h : LoopOnly s t) (z : ZoneId) (ch : ChanKind) : t.chan z ch = s.chan z ch := by simp only [State.chan, h.zone]

theorem of_modNode {n : NodeId} {f : Node → Node} (hstate : ∀ nd, (f nd).state = nd.state)
    (hattempts : ∀ nd, (f nd).attempts = nd.attempts) : LoopOnly s (s.modNode n f) :=
  ⟨rfl, rfl, rfl, fun x => by
    rw [State.node_modNode]
    split
    · next e => subst e; exact ⟨hstate _, hattempts _⟩
    · exact ⟨rfl, rfl⟩⟩

end LoopOnly

theorem abandon_nodes (s : State) (n : NodeId) : (s.abandon n).nodes = s.nodes := by
  unfold State.abandon
  repeat' split
  all_goals rfl

theorem abandon_loopOnly (s : State) (n : NodeId) : LoopOnly s (s.abandon n) := by
  unfold State.abandon
  repeat' split
  all_goals exact ⟨rfl, rfl, rfl, fun _ => ⟨rfl, rfl⟩⟩

theorem clearTimes_loopOnly (s : State) (n : NodeId) : LoopOnly s (s.clearTimes n) := .of_modNode (fun _ => rfl) fun _ => rfl

theorem makeActuatorDue_loopOnly (s : State) (n : NodeId) : LoopOnly s (s.makeActuatorDue n) := by
  unfold State.makeActuatorDue
  split
  · exact .of_modNode (fun _ => rfl) fun _ => rfl
  · exact .of_modNode (fun _ => rfl) fun _ => rfl

/-- A node that is not addressed any more: a transaction to it is abandoned, and it has no due or retry time (R7, R157). -/
def State.dropNode (s : State) : Option NodeId → State
  | some n => (s.abandon n).clearTimes n
  | none => s

/-- A node newly bound in a zone that is ON and SUPERVISED is due (R157). -/
def State.wakeNode (s : State) (z : ZoneId) : Option NodeId → State
  | some n => if (s.zone z).cfg.use && s.supervised then s.makeActuatorDue n else s
  | none => s

theorem dropNode_loopOnly (s : State) (o : Option NodeId) : LoopOnly s (s.dropNode o) := by
  cases o with
  | none => exact .refl s
  | some n => exact (abandon_loopOnly s n).trans (clearTimes_loopOnly _ n)

theorem wakeNode_loopOnly (s : State) (z : ZoneId) (o : Option NodeId) : LoopOnly s (s.wakeNode z o) := by
  cases o with
  | none => exact .refl s
  | some n =>
    show LoopOnly s (if _ then _ else _)
    split
    · exact makeActuatorDue_loopOnly s n
    · exact .refl s

theorem wakeNode_off {s : State} {z : ZoneId} (h : (s.zone z).cfg.use = false) (o : Option NodeId) : s.wakeNode z o = s := by
  cases o with
  | none => rfl
  | some n => exact if_neg (by simp [h])

theorem stopZone_eq (s : State) (z : ZoneId) :
    s.stopZone z = s.forChans fun ch s => (s.dropChannel z ch).dropNode ((s.dropChannel z ch).actNode z ch) := rfl

theorem rebind_eq {s : State} {z : ZoneId} {ch : ChanKind} {old new : Option NodeId} (h : old ≠ new) :
    s.rebind z ch old new = if old.isNone then (((s.dropChannel z ch).dropNode old).wakeNode z new).touch z ch
      else ((s.dropChannel z ch).dropNode old).wakeNode z new := by
  unfold State.rebind
  rw [if_neg h]
  cases old with
  | none =>
    cases new with
    | none => exact absurd rfl h
    | some n => rfl
  | some m => cases new <;> rfl

/-! ### Channels -/

/-- A channel of which LC holds nothing (R7, R157). -/
structure Channel.Dropped (c : Channel) : Prop where
  pending : c.pending = none
  sent    : c.sent = none
  applied : c.applied = none

theorem dropChannel_chan (s : State) (z x : ZoneId) (ch j : ChanKind) :
    (s.dropChannel z ch).chan x j =
      if x = z ∧ j = ch then { s.chan z ch with pending := none, sent := none, replaced := false, applied := none }
      else s.chan x j := State.chan_modChan s z x ch j _

theorem dropChannel_dropped (s : State) (z : ZoneId) (ch : ChanKind) : ((s.dropChannel z ch).chan z ch).Dropped := by
  rw [dropChannel_chan, if_pos ⟨rfl, rfl⟩]
  exact ⟨rfl, rfl, rfl⟩

theorem dropChannel_keeps_dropped {s : State} {z : ZoneId} {j : ChanKind} (h : (s.chan z j).Dropped) (ch : ChanKind) :
    ((s.dropChannel z ch).chan z j).Dropped := by
  rw [dropChannel_chan]
  split
  · exact ⟨rfl, rfl, rfl⟩
  · exact h

theorem mem_dropChannel_commands {s : State} {z : ZoneId} {ch : ChanKind} {c : ZoneId × ChanKind} :
    c ∈ (s.dropChannel z ch).commands ↔ c ∈ s.commands ∧ c ≠ (z, ch) := by
  show c ∈ s.commands.filter (· != (z, ch)) ↔ _
  simp

theorem touch_chan (s : State) (z : ZoneId) (ch j : ChanKind) :
    (s.touch z ch).chan z j = if j = ch then { s.chan z ch with lastActivity := s.clock } else s.chan z j := by
  unfold State.touch
  rw [State.chan_modChan]
  simp only [true_and]

/-- What a rebinding of a channel leaves, whichever channel is looked at: the fields a drop does not take, and a last activity that
is now or the one it was (R7, R120). -/
theorem rebind_chan (s : State) (z : ZoneId) (ch j : ChanKind) (old new : Option NodeId) :
    ((s.chan z j).Dropped → ((s.rebind z ch old new).chan z j).Dropped) ∧
      ((s.chan z j).lastActivity = s.clock → ((s.rebind z ch old new).chan z j).lastActivity = s.clock) := by
  by_cases h : old = new
  · simp only [State.rebind, h, if_true]
    exact ⟨id, id⟩
  · have hloop := (dropNode_loopOnly (s.dropChannel z ch) old).trans (wakeNode_loopOnly _ z new)
    have hactivity : ((s.dropChannel z ch).chan z j).lastActivity = (s.chan z j).lastActivity := by
      rw [dropChannel_chan]
      split
      · next e => rw [e.2]
      · rfl
    rw [rebind_eq h]
    generalize (((s.dropChannel z ch).dropNode old).wakeNode z new) = t at hloop ⊢
    have hdropped : (s.chan z j).Dropped → (t.chan z j).Dropped := fun hj => hloop.chan z j ▸ dropChannel_keeps_dropped hj ch
    have hclock : t.clock = s.clock := hloop.clock
    split
    · rw [touch_chan]
      split
      · next e =>
        subst e
        exact ⟨fun hj => ⟨(hdropped hj).pending, (hdropped hj).sent, (hdropped hj).applied⟩, fun _ => hclock⟩
      · exact ⟨hdropped, fun hj => by rw [hloop.chan, hactivity, hj]⟩
    · exact ⟨hdropped, fun hj => by rw [hloop.chan, hactivity, hj]⟩

/-- R7: LC drops the channel whose actuator changes. -/
theorem rebind_dropped {s : State} {z : ZoneId} {ch : ChanKind} {old new : Option NodeId} (h : old ≠ new) :
    ((s.rebind z ch old new).chan z ch).Dropped := by
  have hloop := (dropNode_loopOnly (s.dropChannel z ch) old).trans (wakeNode_loopOnly _ z new)
  rw [rebind_eq h]
  generalize (((s.dropChannel z ch).dropNode old).wakeNode z new) = t at hloop ⊢
  have hdropped : (t.chan z ch).Dropped := hloop.chan z ch ▸ dropChannel_dropped s z ch
  split
  · rw [touch_chan, if_pos rfl]
    exact ⟨hdropped.pending, hdropped.sent, hdropped.applied⟩
  · exact hdropped

theorem rebind_commands {s : State} {z : ZoneId} {ch : ChanKind} {old new : Option NodeId} {c : ZoneId × ChanKind}
    (h : c ∉ s.commands) : c ∉ (s.rebind z ch old new).commands := by
  by_cases he : old = new
  · simpa only [State.rebind, he, if_true] using h
  · have hloop := (dropNode_loopOnly (s.dropChannel z ch) old).trans (wakeNode_loopOnly _ z new)
    have hc : c ∉ (s.dropChannel z ch).commands := fun hc => h (mem_dropChannel_commands.mp hc).1
    rw [rebind_eq he]
    split
    · exact hloop.commands.symm ▸ hc
    · exact hloop.commands.symm ▸ hc

/-! ### Nodes -/

/-- A node with no due and no retry time, and no poll that waits (R157). -/
structure Node.Untimed (nd : Node) : Prop where
  due     : nd.due = none
  retry   : nd.retry = none
  waiting : nd.waiting = false

theorem dropNode_untimed (s : State) (n : NodeId) : ((s.dropNode (some n)).node n).Untimed := by
  show (((s.abandon n).clearTimes n).node n).Untimed
  unfold State.clearTimes
  rw [State.node_modNode_self]
  exact ⟨rfl, rfl, rfl⟩

theorem dropNode_keeps_untimed {s : State} {n : NodeId} (h : (s.node n).Untimed) (o : Option NodeId) :
    ((s.dropNode o).node n).Untimed := by
  cases o with
  | none => exact h
  | some m =>
    have habandon : (s.abandon m).node n = s.node n := by simp only [State.node, abandon_nodes]
    show (((s.abandon m).clearTimes m).node n).Untimed
    unfold State.clearTimes
    rw [State.node_modNode]
    split
    · exact ⟨rfl, rfl, rfl⟩
    · rwa [habandon]

theorem rebind_states (s : State) (z : ZoneId) (ch : ChanKind) (old new : Option NodeId) (n : NodeId) :
    ((s.rebind z ch old new).node n).state = (s.node n).state ∧ ((s.rebind z ch old new).node n).attempts = (s.node n).attempts := by
  by_cases h : old = new
  · simp only [State.rebind, h, if_true, and_self]
  · have hloop := (dropNode_loopOnly (s.dropChannel z ch) old).trans (wakeNode_loopOnly _ z new)
    rw [rebind_eq h]
    split
    · exact hloop.states n
    · exact hloop.states n

theorem rebind_keeps_untimed {s : State} {z : ZoneId} {n : NodeId} (h : (s.node n).Untimed) (hoff : (s.zone z).cfg.use = false)
    (ch : ChanKind) (old new : Option NodeId) : ((s.rebind z ch old new).node n).Untimed := by
  by_cases he : old = new
  · simpa only [State.rebind, he, if_true] using h
  · have hdrop : (((s.dropChannel z ch).dropNode old).zone z).cfg.use = false := by
      rw [(dropNode_loopOnly _ old).zone, (dropChannel_touches s z ch).zoneCfg z, hoff]
    rw [rebind_eq he, wakeNode_off hdrop]
    split
    · exact dropNode_keeps_untimed (s := s.dropChannel z ch) h old
    · exact dropNode_keeps_untimed (s := s.dropChannel z ch) h old

/-- A status poll is due now, or the retry of a SILENT node (R153, R157). -/
structure DueNow (s : State) (n : NodeId) : Prop where
  retry : (s.node n).state = .silent → (s.node n).retry = some s.clock
  due   : (s.node n).state ≠ .silent → (s.node n).due = some s.clock ∧ (s.node n).waiting = true

theorem makeActuatorDue_dueNow (s : State) (n : NodeId) : DueNow (s.makeActuatorDue n) n := by
  unfold State.makeActuatorDue
  split
  · next h =>
    refine ⟨fun _ => ?_, fun hne => absurd ?_ hne⟩
    · rw [State.node_modNode_self]; rfl
    · rw [State.node_modNode_self]; exact h
  · next h =>
    unfold State.setDue
    refine ⟨fun hs => absurd ?_ h, fun _ => ?_⟩
    · rwa [State.node_modNode_self] at hs
    · rw [State.node_modNode_self]
      exact ⟨rfl, decide_eq_true (Nat.le_refl _)⟩

theorem DueNow.makeActuatorDue {s : State} {n : NodeId} (h : DueNow s n) (m : NodeId) : DueNow (s.makeActuatorDue m) n := by
  by_cases hm : n = m
  · subst hm; exact makeActuatorDue_dueNow s n
  · have hnode : (s.makeActuatorDue m).node n = s.node n := by
      unfold State.makeActuatorDue
      split
      · exact State.node_modNode_ne s _ hm
      · exact State.node_modNode_ne s _ hm
    have hclock := (makeActuatorDue_loopOnly s m).clock
    exact ⟨fun hs => by rw [hnode, hclock]; exact h.retry (hnode ▸ hs), fun hs => by rw [hnode, hclock]; exact h.due (hnode ▸ hs)⟩

/-! ### The zone's channels in turn -/

theorem forChans_each (s : State) (F : ChanKind → State → State) (P : ChanKind → State → Prop) (own : ∀ ch s, P ch (F ch s))
    (keep : ∀ ch s x, P x s → P x (F ch s)) (ch : ChanKind) : P ch (s.forChans F) :=
  foldl_each (fun s ch => F ch s) P (fun s ch => own ch s) (fun s ch x => keep ch s x) _ s ch (by cases ch <;> decide)

theorem forChans_keeps (s : State) (F : ChanKind → State → State) (P : State → Prop) (keep : ∀ ch s, P s → P (F ch s))
    (h : P s) : P (s.forChans F) := foldl_keeps (fun s ch => F ch s) P (fun s ch => keep ch s) _ s h

theorem makeZoneDue_loopOnly (s : State) (z : ZoneId) : LoopOnly s (s.makeZoneDue z) :=
  forChans_keeps s _ (LoopOnly s) (fun ch t ht => by
    split
    · exact ht.trans (makeActuatorDue_loopOnly t _)
    · exact ht) (.refl s)

/-- R9, R157: every actuator of the zone is due. -/
theorem makeZoneDue_dueNow (s : State) (z : ZoneId) {ch : ChanKind} {n : NodeId} (h : s.actNode z ch = some n) :
    DueNow (s.makeZoneDue z) n := by
  have hact : ∀ t u : State, LoopOnly t u → ∀ ch, u.actNode z ch = t.actNode z ch := fun t u hl ch => by
    simp only [State.actNode, hl.zone]
  refine forChans_each s _ (fun ch t => ∀ n, t.actNode z ch = some n → DueNow t n) (fun ch t n => ?_) (fun ch t x hx n => ?_) ch n
    ((hact _ _ (makeZoneDue_loopOnly s z) ch).trans h)
  · split
    · next m hm =>
      rw [hact _ _ (makeActuatorDue_loopOnly t m), hm]
      rintro ⟨⟩
      exact makeActuatorDue_dueNow t _
    · next hm => exact fun hn => absurd (hm.symm.trans hn) (by simp)
  · split
    · next m _ =>
      rw [hact _ _ (makeActuatorDue_loopOnly t m)]
      exact fun hn => (hx n hn).makeActuatorDue m
    · exact hx n

/-- R157: LC stops addressing a zone: it holds nothing of its channels, and its actuators have no times. -/
theorem stopZone_channel (s : State) (z : ZoneId) (ch : ChanKind) :
    ((s.stopZone z).chan z ch).Dropped ∧ (z, ch) ∉ (s.stopZone z).commands := by
  rw [stopZone_eq]
  refine forChans_each s _ (fun ch t => (t.chan z ch).Dropped ∧ (z, ch) ∉ t.commands) (fun ch t => ?_) (fun ch t x hx => ?_) ch
  · have hloop := dropNode_loopOnly (t.dropChannel z ch) ((t.dropChannel z ch).actNode z ch)
    rw [hloop.chan, hloop.commands]
    exact ⟨dropChannel_dropped t z ch, fun hc => (mem_dropChannel_commands.mp hc).2 rfl⟩
  · have hloop := dropNode_loopOnly (t.dropChannel z ch) ((t.dropChannel z ch).actNode z ch)
    rw [hloop.chan, hloop.commands]
    exact ⟨dropChannel_keeps_dropped hx.1 ch, fun hc => hx.2 (mem_dropChannel_commands.mp hc).1⟩

theorem stopZone_states (s : State) (z : ZoneId) (n : NodeId) :
    ((s.stopZone z).node n).state = (s.node n).state ∧ ((s.stopZone z).node n).attempts = (s.node n).attempts := by
  rw [stopZone_eq]
  exact forChans_keeps s _ (fun t => (t.node n).state = (s.node n).state ∧ (t.node n).attempts = (s.node n).attempts)
    (fun ch t ht => by
      obtain ⟨hstate, hattempts⟩ := (dropNode_loopOnly (t.dropChannel z ch) ((t.dropChannel z ch).actNode z ch)).states n
      exact ⟨hstate.trans ht.1, hattempts.trans ht.2⟩) ⟨rfl, rfl⟩

theorem stopZone_untimed (s : State) (z : ZoneId) {ch : ChanKind} {n : NodeId} (h : s.actNode z ch = some n) :
    ((s.stopZone z).node n).Untimed := by
  have hact : ∀ (t : State) (ch j : ChanKind) (o : Option NodeId),
      ((t.dropChannel z ch).dropNode o).actNode z j = t.actNode z j := fun t ch j o => by
    simp only [State.actNode, (dropNode_loopOnly _ o).zone, (dropChannel_touches t z ch).zoneCfg z]
  have hcfg : (s.stopZone z).actNode z ch = s.actNode z ch := by
    simp only [State.actNode, (stopZone_touches s z).zoneCfg z]
  rw [stopZone_eq] at hcfg ⊢
  refine forChans_each s _ (fun ch t => ∀ n, t.actNode z ch = some n → (t.node n).Untimed) (fun ch t n hn => ?_)
    (fun ch t x hx n hn => ?_) ch n (hcfg.trans h)
  · have hdrop : (t.dropChannel z ch).actNode z ch = some n := by
      rw [hact] at hn
      exact (hact t ch ch none).trans hn
    rw [hdrop]
    exact dropNode_untimed _ n
  · rw [hact] at hn
    exact dropNode_keeps_untimed (s := t.dropChannel z ch) (hx n hn) _

end Sys2Proof.Machine
end

section
/-! ## A write of a zone record (R6 to R9) -/

namespace Sys2Proof.Machine

open Sys2Proof

set_option Elab.async false

/-! ### The recomputation after the write (R16) -/

namespace Touches

variable {F : List Part} {s t : State}

theorem chanGranted (h : Touches F s t) (z : ZoneId) (ch : ChanKind) (hF : Part.granted ∉ F := by decide) :
    (t.chan z ch).granted = (s.chan z ch).granted := congrFun (congrFun (h .granted hF) z) ch

theorem chanActivity (h : Touches F s t) (z : ZoneId) (ch : ChanKind) (hF : Part.activity ∉ F := by decide) :
    (t.chan z ch).lastActivity = (s.chan z ch).lastActivity := congrFun (congrFun (h .activity hF) z) ch

theorem chanApplied (h : Touches F s t) (z : ZoneId) (ch : ChanKind) (hF : Part.delivery ∉ F := by decide) :
    (t.chan z ch).applied = (s.chan z ch).applied := by
  have hd := congrFun (congrFun (h .delivery hF) z) ch
  simp only [State.part, Prod.mk.injEq] at hd
  exact hd.2.2.2

theorem chanDropped (h : Touches F s t) {z : ZoneId} {ch : ChanKind} (c : (s.chan z ch).Dropped)
    (hF : Part.delivery ∉ F := by decide) : (t.chan z ch).Dropped := by
  have hd := congrFun (congrFun (h .delivery hF) z) ch
  simp only [State.part, Prod.mk.injEq] at hd
  obtain ⟨hp, hs, -, ha⟩ := hd
  exact ⟨hp.trans c.pending, hs.trans c.sent, ha.trans c.applied⟩

theorem zoneEst (h : Touches F s t) (z : ZoneId) (hF : Part.est ∉ F := by decide) : (t.zone z).est = (s.zone z).est :=
  congrFun (h .est hF) z

theorem zoneHorizon (h : Touches F s t) (z : ZoneId) (hF : Part.horizon ∉ F := by decide) :
    (t.zone z).horizon = (s.zone z).horizon := congrFun (h .horizon hF) z

theorem node (h : Touches F s t) (n : NodeId) (hF : Part.nodes ∉ F := by decide) : t.node n = s.node n :=
  congrArg (fun v : Vector Node 32 => v[n]) (h .nodes hF)

theorem attention (h : Touches F s t) (p : PortId) (b : AttnBit) (hF : Part.attn ∉ F := by decide) :
    hasAttn (t.port p).attn b = hasAttn (s.port p).attn b := by
  have hp := congrFun (h .attn hF) p
  simp only [State.part, Prod.mk.injEq] at hp
  rw [hp.1]

end Touches

/-- A new C in a zone with no granted LIGHT level makes no grant (R94). -/
theorem recomputeCeiling_ungranted {s : State} {z : ZoneId} (h : (s.chan z .light).granted = none) :
    Touches [.ceiling] s (s.recomputeCeiling z) ∧ (s.recomputeCeiling z).ports = s.ports := by
  unfold State.recomputeCeiling
  dsimp only
  split
  · exact ⟨.refl _ s, rfl⟩
  · have hfollow : (s.modZone z fun zn => { zn with ceiling := s.ceilingOf z }).ceilingFollow z (s.zone z).ceiling =
        s.modZone z fun zn => { zn with ceiling := s.ceilingOf z } := by
      have hlight : ((s.modZone z fun zn => { zn with ceiling := s.ceilingOf z }).chan z .light).granted = none := by
        rw [State.chan, State.zone_modZone_self]
        exact h
      simp only [State.ceilingFollow, hlight]
    rw [hfollow]
    exact ⟨modZone_touches s z _, rfl⟩

/-- With no band excursion open the CONFLICT state's update closes none (R18). -/
theorem updateConflict_calm {s : State} {z : ZoneId} (ht : (s.zone z).exc .tBand = none) (hrh : (s.zone z).exc .rhBand = none) :
    Touches ([.conflict, .sticky] ++ reporting) s (s.updateConflict z) ∧ (s.updateConflict z).records = s.records ∧
      Raises [.zoneCondition] s (s.updateConflict z) := by
  have hwatch := enterConflict_sameWatch s z
  unfold State.updateConflict
  dsimp only
  split
  · next h =>
    rw [(Bool.and_eq_true _ _).mp h |>.1]
    rw [closeExc_absent ((hwatch.exc _).trans ht), closeExc_absent ((hwatch.exc _).trans hrh)]
    refine ⟨Touches.then_mono (modZone_touches s z _) (addSticky_inZone _ z _).touches (by decide), ?_,
      (Raises.of_ports _ rfl).trans (addSticky_raises (s.modZone z _) z _)⟩
    unfold State.addSticky
    split
    · rfl
    · exact pendWhere_records _ _ _
  · exact ⟨modZone_touches s z _, rfl, .of_ports _ rfl⟩

theorem recomputeCeiling_det (s : State) (z x : ZoneId) : ((s.recomputeCeiling z).zone x).det = (s.zone x).det :=
  (recomputeCeiling_inZone s z).touches.zoneDet x

/-- In a zone with nothing open the recomputation leaves detection as it is (R16, R18). -/
theorem recomputeZone_det_default {s : State} {z : ZoneId} (h : (s.zone z).det = .default) :
    ((s.recomputeZone z).zone z).det = .default := by
  have hdet : (((s.modZone z fun zn => { zn with eff := s.effOf z }).recomputeCeiling z).zone z).det = .default := by
    rw [recomputeCeiling_det, State.zone_modZone_self]
    exact h
  have hexc : ∀ k, (((s.modZone z fun zn => { zn with eff := s.effOf z }).recomputeCeiling z).zone z).exc k = none := fun k => by
    rw [Zone.exc, hdet]
    cases k <;> rfl
  unfold State.recomputeZone
  rw [(updateConflict_calm (hexc _) (hexc _)).1.zoneDet z, hdet]

/-- In a zone with nothing open and nothing granted the recomputation reports only the conditions it finds (R16 to R18). -/
theorem recomputeZone_idle {s : State} {z : ZoneId} (hdet : (s.zone z).det = .default) (hlight : (s.chan z .light).granted = none) :
    Touches ([.eff, .ceiling, .conflict, .sticky] ++ reporting) s (s.recomputeZone z) ∧
      (s.recomputeZone z).records = s.records ∧ Raises [.zoneCondition] s (s.recomputeZone z) := by
  have hungranted : ((s.modZone z fun zn => { zn with eff := s.effOf z }).chan z .light).granted = none := by
    rw [State.chan, State.zone_modZone_self]
    exact hlight
  obtain ⟨hceiling, hports⟩ := recomputeCeiling_ungranted hungranted
  have hexc : ∀ k, (((s.modZone z fun zn => { zn with eff := s.effOf z }).recomputeCeiling z).zone z).exc k = none := fun k => by
    rw [Zone.exc, recomputeCeiling_det, State.zone_modZone_self]
    show (s.zone z).exc k = none
    rw [Zone.exc, hdet]
    cases k <;> rfl
  obtain ⟨htouch, hrecords, hraises⟩ := updateConflict_calm (hexc .tBand) (hexc .rhBand)
  have hbefore : Touches ([.eff, .ceiling, .conflict, .sticky] ++ reporting) s
      ((s.modZone z fun zn => { zn with eff := s.effOf z }).recomputeCeiling z) :=
    Touches.then_mono (modZone_touches s z _) hceiling (by decide)
  exact ⟨hbefore.then_mono htouch (by decide), hrecords.trans (hceiling .records (by decide)),
    (Raises.of_ports _ hports).trans hraises⟩

/-! ### What LC knows to be applied stands when a value is granted (R150) -/

theorem modChan_applied {s : State} {z : ZoneId} {ch : ChanKind} {f : Channel → Channel} (hf : ∀ c, (f c).applied = c.applied)
    (x : ZoneId) (j : ChanKind) : ((s.modChan z ch f).chan x j).applied = (s.chan x j).applied := by
  rw [State.chan_modChan]
  split
  · next h => rw [hf, h.1, h.2]
  · rfl

theorem handToLoop_applied (s : State) (z : ZoneId) (ch : ChanKind) (v : Int) (x : ZoneId) (j : ChanKind) :
    ((s.handToLoop z ch v).chan x j).applied = (s.chan x j).applied := by
  have hpending := modChan_applied (s := s) (z := z) (ch := ch)
    (f := fun c => { c with pending := some v, replaced := c.replaced || c.sent.isSome }) (fun _ => rfl) x j
  unfold State.handToLoop
  split
  · rfl
  · dsimp only
    split
    · exact hpending
    · exact ((enlist_touches _ z ch).chanApplied x j).trans hpending

theorem grant_applied (s : State) (port : Option PortId) (z : ZoneId) (ch : ChanKind) (r : Option Int) (v : Int) (c : Bool)
    (x : ZoneId) (j : ChanKind) : ((s.grant port z ch r v c).chan x j).applied = (s.chan x j).applied := by
  have hgranted := modChan_applied (s := s) (z := z) (ch := ch) (f := fun c => { c with granted := some v }) (fun _ => rfl) x j
  exact ((offer_touches _ _).chanApplied x j).trans ((handToLoop_applied _ z ch v x j).trans hgranted)

theorem ceilingFollow_applied (s : State) (z : ZoneId) (old : Nat) (x : ZoneId) (j : ChanKind) :
    ((s.ceilingFollow z old).chan x j).applied = (s.chan x j).applied := by
  unfold State.ceilingFollow
  split
  · rfl
  · split
    · exact (grant_applied _ _ z _ _ _ _ x j).trans ((recordEvaluation_inZone s z _).touches.chanApplied x j)
    · rfl

theorem recomputeZone_applied (s : State) (z x : ZoneId) (j : ChanKind) :
    ((s.recomputeZone z).chan x j).applied = (s.chan x j).applied := by
  have heff : Touches [.eff] s (s.modZone z fun zn => { zn with eff := s.effOf z }) := modZone_touches s z _
  unfold State.recomputeZone State.recomputeCeiling
  dsimp only
  rw [(updateConflict_inZone _ z).touches.chanApplied]
  split
  · exact heff.chanApplied x j
  · rw [ceilingFollow_applied, Touches.chanApplied (F := [.ceiling]) (modZone_touches _ z _)]
    exact heff.chanApplied x j

end Sys2Proof.Machine
end

section
/-! ## The parts of a zone write, and how far each reaches -/

namespace Sys2Proof.Machine

open Sys2Proof

set_option Elab.async false

/-- The record written, with what the turn of `use` does before and after it (R8, R9). -/
def State.switchUse (s : State) (z : ZoneId) (new : ZoneRec) : State :=
  let old := (s.zone z).cfg
  let s := if old.use && !new.use then s.turnOff z else s
  let s := s.modZone z fun zn => { zn with cfg := new }
  if !old.use && new.use then s.turnOn z else s

/-- The changed actuator fields handed on, channel by channel (R7). -/
def State.rebindAll (s : State) (z : ZoneId) (old new : ZoneRec) : State :=
  s.forChans fun ch s => s.rebind z ch (old.act ch) (new.act ch)

/-- The zone's actuators made due when it is turned ON in SUPERVISED (R157). -/
def State.wakeZone (s : State) (z : ZoneId) (old new : ZoneRec) : State :=
  if !old.use && new.use && s.supervised then s.makeZoneDue z else s

theorem applyZone_eq (s : State) (z : ZoneId) (new : ZoneRec) :
    s.applyZone z new = ((((s.switchUse z new).rebindAll z (s.zone z).cfg new).wakeZone z (s.zone z).cfg new).sensorChanges z
      (s.zone z).cfg new).recomputeZone z := rfl

/-! ### Each stays in the zone -/

theorem dropChannel_inZone (s : State) (z : ZoneId) (ch : ChanKind) : InZone z [.delivery, .commands] s (s.dropChannel z ch) :=
  InZone.then_mono (.of_modChan (modChan_touches s z ch _)) (.of_zones (delist_touches _ z ch) rfl) (by decide)

theorem LoopOnly.inZone {F : List Part} {s t : State} (h : LoopOnly s t) (ht : Touches F s t) (z : ZoneId) : InZone z F s t :=
  .of_zones ht h.zones

theorem InZone.forChans {z : ZoneId} {F : List Part} (s : State) (f : ChanKind → State → State)
    (h : ∀ ch s, InZone z F s (f ch s)) : InZone z F s (s.forChans f) :=
  forChans_keeps s f (InZone z F s) (fun ch t ht => ht.trans (h ch t)) (.refl z F s)

theorem dropNode_touches (s : State) (o : Option NodeId) : Touches [.txn, .nodes] s (s.dropNode o) := by
  cases o with
  | none => exact .refl _ s
  | some n => exact ((abandon_touches s n).mono (by decide)).then_mono (clearTimes_touches _ n) (by decide)

theorem wakeNode_touches (s : State) (z : ZoneId) (o : Option NodeId) : Touches [.nodes] s (s.wakeNode z o) := by
  cases o with
  | none => exact .refl _ s
  | some n =>
    show Touches _ s (if _ then _ else _)
    split
    · exact makeActuatorDue_touches s n
    · exact .refl _ s

theorem stopZone_inZone (s : State) (z : ZoneId) : InZone z drops' s (s.stopZone z) := by
  rw [stopZone_eq]
  exact .forChans s _ fun ch s => ((dropChannel_inZone s z ch).mono (by decide)).then_mono
    ((dropNode_loopOnly _ _).inZone (dropNode_touches _ _) z) (by decide)

theorem closeAll_inZone (s : State) (z : ZoneId) (r : CloseReason) (ks : List ExcKind) :
    InZone z ([.det, .ovr] ++ reporting) s (ks.foldl (fun s k => s.closeExc z k r) s) :=
  foldl_keeps _ (InZone z ([.det, .ovr] ++ reporting) s) (fun t k ht => ht.trans (closeExc_inZone t z k r)) ks s (.refl z _ s)

/-- What turning a zone OFF leaves of detection, overrides and grants (R8, R130, R157). -/
def Zone.cleared (zn : Zone) : Zone :=
  { zn with det := .default, ovr := .empty, chans := Vector.ofFn fun i => { zn.chans[i] with granted := none } }

theorem turnOff_eq (s : State) (z : ZoneId) :
    s.turnOff z = ((allKinds.foldl (fun s k => s.closeExc z k .zoneOff) s).modZone z Zone.cleared).stopZone z := rfl

theorem cleared_chan (zn : Zone) (ch : ChanKind) : zn.cleared.chan ch = { zn.chan ch with granted := none } :=
  Zone.chan_ungranted rfl ch

theorem modCleared_touches (s : State) (z : ZoneId) : Touches [.det, .ovr, .granted] s (s.modZone z Zone.cleared) :=
  modZone_touches s z _ (h_delivery := fun _ c => by rw [cleared_chan]) (h_tenure := fun _ c => by rw [cleared_chan])
    (h_activity := fun _ c => by rw [cleared_chan])

theorem turnOff_inZone (s : State) (z : ZoneId) :
    InZone z ([.det, .ovr, .granted] ++ drops' ++ reporting) s (s.turnOff z) := by
  rw [turnOff_eq]
  exact (((closeAll_inZone s z _ _).mono (by decide)).then_mono (.of_modZone (modCleared_touches _ z)) (by decide)).then_mono
    (stopZone_inZone _ z) (by decide)

theorem touch_inZone (s : State) (z : ZoneId) (ch : ChanKind) : InZone z [.activity] s (s.touch z ch) :=
  .of_modChan (touch_touches s z ch)

theorem touchZone_inZone (s : State) (z : ZoneId) : InZone z [.activity] s (s.touchZone z) :=
  .forChans s _ fun ch s => touch_inZone s z ch

theorem turnOn_inZone (s : State) (z : ZoneId) : InZone z [.horizon, .det, .ovr, .activity] s (s.turnOn z) :=
  InZone.then_mono (.of_modZone (modZone_touches s z _)) (touchZone_inZone _ z) (by decide)

theorem rebind_inZone (s : State) (z : ZoneId) (ch : ChanKind) (old new : Option NodeId) :
    InZone z rebinds s (s.rebind z ch old new) := by
  by_cases h : old = new
  · simp only [State.rebind, h, if_true]
    exact .refl z _ s
  · have hloop := (((dropChannel_inZone s z ch).mono (by decide : _ ⊆ rebinds)).then_mono
      ((dropNode_loopOnly _ old).inZone (dropNode_touches _ old) z) (by decide)).then_mono
      ((wakeNode_loopOnly _ z new).inZone (wakeNode_touches _ z new) z) (by decide)
    rw [rebind_eq h]
    split
    · exact hloop.then_mono (touch_inZone _ z ch) (by decide)
    · exact hloop

theorem rebindAll_inZone (s : State) (z : ZoneId) (old new : ZoneRec) : InZone z rebinds s (s.rebindAll z old new) :=
  .forChans s _ fun ch s => rebind_inZone s z ch _ _

theorem wakeZone_loopOnly (s : State) (z : ZoneId) (old new : ZoneRec) : LoopOnly s (s.wakeZone z old new) := by
  unfold State.wakeZone
  split
  · exact makeZoneDue_loopOnly s z
  · exact .refl s

theorem wakeZone_touches (s : State) (z : ZoneId) (old new : ZoneRec) : Touches [.nodes] s (s.wakeZone z old new) := by
  unfold State.wakeZone
  split
  · exact makeZoneDue_touches s z
  · exact .refl _ s

/-- What a changed sensor field or decimation makes of the estimate and of detection (R7, R130). -/
def Zone.resensed (zn : Zone) (old new : ZoneRec) : Zone :=
  { zn with
      est := { zn.est with
        seeded := if old.climateNode = new.climateNode then zn.est.seeded else false
        d0 := if old.lightNode = new.lightNode then zn.est.d0 else none
        d0Status := if old.lightNode = new.lightNode then zn.est.d0Status else .unknown
        climateCount := if old.climateDec = new.climateDec then zn.est.climateCount else 0
        lightCount := if old.lightDec = new.lightDec then zn.est.lightCount else 0 }
      det := if old.lightNode = new.lightNode then zn.det else { zn.det with luxPending := none, uvFirst := none } }

theorem State.modZone_modZone (s : State) (z : ZoneId) (f g : Zone → Zone) :
    (s.modZone z f).modZone z g = s.modZone z fun zn => g (f zn) := by
  have hz : (s.modZone z f).zone z = f (s.zone z) := State.zone_modZone_self s z f
  simp only [State.modZone] at hz ⊢
  simp only [hz, Vector.set_set]

theorem sensorChanges_eq (s : State) (z : ZoneId) (old new : ZoneRec) :
    s.sensorChanges z old new = s.modZone z fun zn => zn.resensed old new := by
  unfold State.sensorChanges Zone.resensed State.unseed State.dropPendingLight
  by_cases hc : old.climateNode = new.climateNode <;> by_cases hl : old.lightNode = new.lightNode <;>
    simp only [hc, hl, if_true, if_false, State.modZone_modZone]

theorem sensorChanges_inZone (s : State) (z : ZoneId) (old new : ZoneRec) :
    InZone z [.est, .det] s (s.sensorChanges z old new) := by
  rw [sensorChanges_eq]
  exact .of_modZone (modZone_touches s z _)

/-! ### The whole write -/

/-- What a zone write touches. -/
abbrev zoneWrite : List Part := envelopeEffects ++ [.cfg, .est, .horizon, .activity, .nodes, .txn]

theorem switchUse_inZone (s : State) (z : ZoneId) (new : ZoneRec) : InZone z zoneWrite s (s.switchUse z new) := by
  unfold State.switchUse
  dsimp only
  have hoff : InZone z zoneWrite s (if (s.zone z).cfg.use && !new.use then s.turnOff z else s) := by
    split
    · exact (turnOff_inZone s z).mono (by decide)
    · exact .refl z _ s
  generalize (if (s.zone z).cfg.use && !new.use then s.turnOff z else s) = t at hoff ⊢
  have hcfg : InZone z zoneWrite s (t.modZone z fun zn => { zn with cfg := new }) :=
    hoff.trans (.of_modZone (modZone_touches t z _))
  split
  · exact hcfg.then_mono (turnOn_inZone _ z) (by decide)
  · exact hcfg

theorem applyZone_inZone (s : State) (z : ZoneId) (new : ZoneRec) : InZone z zoneWrite s (s.applyZone z new) := by
  rw [applyZone_eq]
  exact ((((switchUse_inZone s z new).then_mono (rebindAll_inZone _ z _ new) (by decide)).then_mono
    ((wakeZone_loopOnly _ z _ new).inZone (wakeZone_touches _ z _ new) z) (by decide)).then_mono
    (sensorChanges_inZone _ z _ new) (by decide)).then_mono (recomputeZone_inZone _ z) (by decide)

theorem switchUse_cfg (s : State) (z : ZoneId) (new : ZoneRec) : ((s.switchUse z new).zone z).cfg = new := by
  unfold State.switchUse
  dsimp only
  split
  · rw [(turnOn_touches _ z).zoneCfg z, State.zone_modZone_self]
  · rw [State.zone_modZone_self]

/-- What the write does between the switch of `use` and the recomputation. -/
abbrev fieldChanges : List Part := [.est, .det] ++ rebinds

theorem applyZone_cfg (s : State) (z : ZoneId) (new : ZoneRec) : ((s.applyZone z new).zone z).cfg = new := by
  rw [applyZone_eq, (recomputeZone_inZone _ z).touches.zoneCfg z, (sensorChanges_inZone _ z _ new).touches.zoneCfg z,
    (wakeZone_touches _ z _ new).zoneCfg z, (rebindAll_inZone _ z _ new).touches.zoneCfg z, switchUse_cfg]

end Sys2Proof.Machine
end

section
/-! ## A zone turned OFF, and one turned ON (R8, R9) -/

namespace Sys2Proof.Machine

open Sys2Proof

set_option Elab.async false

/-! ### Fields and actuators, whichever way `use` goes -/

theorem rebindAll_states (s : State) (z : ZoneId) (old new : ZoneRec) (n : NodeId) :
    ((s.rebindAll z old new).node n).state = (s.node n).state ∧
      ((s.rebindAll z old new).node n).attempts = (s.node n).attempts :=
  forChans_keeps s _ (fun t => (t.node n).state = (s.node n).state ∧ (t.node n).attempts = (s.node n).attempts)
    (fun ch t ht => by
      obtain ⟨hstate, hattempts⟩ := rebind_states t z ch (old.act ch) (new.act ch) n
      exact ⟨hstate.trans ht.1, hattempts.trans ht.2⟩) ⟨rfl, rfl⟩

/-- R7: LC drops every channel whose actuator changes. -/
theorem rebindAll_dropped (s : State) (z : ZoneId) {old new : ZoneRec} {ch : ChanKind} (h : old.act ch ≠ new.act ch) :
    ((s.rebindAll z old new).chan z ch).Dropped :=
  forChans_each s _ (fun ch t => old.act ch ≠ new.act ch → (t.chan z ch).Dropped) (fun _ _ hne => rebind_dropped hne)
    (fun ch t j hj hne => (rebind_chan t z ch j _ _).1 (hj hne)) ch h

/-- What is done to a zone between the switch of `use` and the recomputation. -/
def State.changeFields (s : State) (z : ZoneId) (old new : ZoneRec) : State :=
  ((s.rebindAll z old new).wakeZone z old new).sensorChanges z old new

theorem applyZone_eq_recompute (s : State) (z : ZoneId) (new : ZoneRec) :
    s.applyZone z new = ((s.switchUse z new).changeFields z (s.zone z).cfg new).recomputeZone z := rfl

theorem changeFields_inZone (s : State) (z : ZoneId) (old new : ZoneRec) :
    InZone z fieldChanges s (s.changeFields z old new) :=
  (((rebindAll_inZone s z old new).mono (by decide)).then_mono
    ((wakeZone_loopOnly _ z old new).inZone (wakeZone_touches _ z old new) z) (by decide)).then_mono
    (sensorChanges_inZone _ z old new) (by decide)

theorem changeFields_states (s : State) (z : ZoneId) (old new : ZoneRec) (n : NodeId) :
    ((s.changeFields z old new).node n).state = (s.node n).state ∧
      ((s.changeFields z old new).node n).attempts = (s.node n).attempts := by
  obtain ⟨hstate, hattempts⟩ := rebindAll_states s z old new n
  obtain ⟨hwstate, hwattempts⟩ := (wakeZone_loopOnly (s.rebindAll z old new) z old new).states n
  unfold State.changeFields
  rw [(sensorChanges_inZone _ z old new).touches.node n]
  exact ⟨hwstate.trans hstate, hwattempts.trans hattempts⟩

theorem resensed_det_default {zn : Zone} (h : zn.det = .default) (old new : ZoneRec) : (zn.resensed old new).det = .default := by
  unfold Zone.resensed
  dsimp only
  split
  · exact h
  · rw [h]; rfl

theorem changeFields_det_default {s : State} {z : ZoneId} (h : (s.zone z).det = .default) (old new : ZoneRec) :
    ((s.changeFields z old new).zone z).det = .default := by
  unfold State.changeFields
  rw [sensorChanges_eq, State.zone_modZone_self]
  refine resensed_det_default ?_ old new
  rw [(wakeZone_touches _ z old new).zoneDet z, (rebindAll_inZone s z old new).touches.zoneDet z, h]

theorem applyZone_dropped (s : State) (z : ZoneId) {new : ZoneRec} {ch : ChanKind} (h : (s.zone z).cfg.act ch ≠ new.act ch) :
    ((s.applyZone z new).chan z ch).applied = none := by
  have hdropped := rebindAll_dropped (s.switchUse z new) z h
  rw [applyZone_eq, recomputeZone_applied, (sensorChanges_inZone _ z _ new).touches.chanApplied,
    (wakeZone_loopOnly _ z _ new).chan, hdropped.applied]

theorem applyZone_unseeded (s : State) (z : ZoneId) {new : ZoneRec} (h : (s.zone z).cfg.climateNode ≠ new.climateNode) :
    ((s.applyZone z new).zone z).est.seeded = false := by
  rw [applyZone_eq, (recomputeZone_inZone _ z).touches.zoneEst z, sensorChanges_eq, State.zone_modZone_self]
  exact if_neg h

theorem applyZone_darkened (s : State) (z : ZoneId) {new : ZoneRec} (h : (s.zone z).cfg.lightNode ≠ new.lightNode) :
    ((s.applyZone z new).zone z).est.d0 = none ∧ ((s.applyZone z new).zone z).est.d0Status = .unknown ∧
      ((s.applyZone z new).zone z).det.luxPending = none ∧ ((s.applyZone z new).zone z).det.uvFirst = none := by
  rw [applyZone_eq]
  generalize (State.wakeZone _ z _ new) = t
  obtain ⟨-, hlux, huv⟩ := (recomputeZone_followed (t.sensorChanges z (s.zone z).cfg new) z).others
  rw [(recomputeZone_inZone _ z).touches.zoneEst z, hlux, huv, sensorChanges_eq, State.zone_modZone_self]
  simp only [Zone.resensed, if_neg h, and_self]

/-! ### OFF -/

/-- Nothing of a zone's excursions, overrides, grants or deliveries is left (R8, R157). -/
structure Stopped (z : ZoneId) (s : State) : Prop where
  det      : (s.zone z).det = .default
  ovr      : (s.zone z).ovr = .empty
  granted  : ∀ ch, (s.chan z ch).granted = none
  dropped  : ∀ ch, (s.chan z ch).Dropped
  delisted : ∀ ch, (z, ch) ∉ s.commands

namespace Stopped

variable {z : ZoneId} {F : List Part} {s t : State}

/-- A change that leaves overrides, grants, deliveries and command list. -/
theorem of_touches (h : Stopped z s) (hdet : (t.zone z).det = .default) (ht : Touches F s t)
    (hF : ∀ k ∈ [Part.ovr, .granted, .delivery, .commands], k ∉ F := by decide) : Stopped z t where
  det := hdet
  ovr := (ht.zoneOvr z (hF _ (by decide))).trans h.ovr
  granted ch := (ht.chanGranted z ch (hF _ (by decide))).trans (h.granted ch)
  dropped ch := ht.chanDropped (h.dropped ch) (hF _ (by decide))
  delisted ch := by
    have hc : t.commands = s.commands := ht .commands (hF _ (by decide))
    exact hc ▸ h.delisted ch

theorem rebind (h : Stopped z s) (ch : ChanKind) (old new : Option NodeId) : Stopped z (s.rebind z ch old new) where
  det := ((rebind_inZone s z ch old new).touches.zoneDet z).trans h.det
  ovr := ((rebind_inZone s z ch old new).touches.zoneOvr z).trans h.ovr
  granted j := ((rebind_inZone s z ch old new).touches.chanGranted z j).trans (h.granted j)
  dropped j := (rebind_chan s z ch j old new).1 (h.dropped j)
  delisted j := rebind_commands (h.delisted j)

theorem changeFields (h : Stopped z s) (old new : ZoneRec) : Stopped z (s.changeFields z old new) := by
  have hrebound : Stopped z (s.rebindAll z old new) := forChans_keeps s _ (Stopped z) (fun ch _ ht => ht.rebind ch _ _) h
  have hwoken := hrebound.of_touches (((wakeZone_touches _ z old new).zoneDet z).trans hrebound.det) (wakeZone_touches _ z old new)
  exact hwoken.of_touches (changeFields_det_default h.det old new) (sensorChanges_inZone _ z old new).touches

theorem recomputeZone (h : Stopped z s) : Stopped z (s.recomputeZone z) :=
  h.of_touches (recomputeZone_det_default h.det) (recomputeZone_idle h.det (h.granted .light)).1

end Stopped

theorem turnOff_stopped (s : State) (z : ZoneId) : Stopped z (s.turnOff z) := by
  rw [turnOff_eq]
  generalize allKinds.foldl (fun s k => s.closeExc z k .zoneOff) s = t
  have hstop := stopZone_touches (t.modZone z Zone.cleared) z
  refine ⟨?_, ?_, fun ch => ?_, fun ch => (stopZone_channel _ z ch).1, fun ch => (stopZone_channel _ z ch).2⟩
  · rw [hstop.zoneDet z, State.zone_modZone_self]; rfl
  · rw [hstop.zoneOvr z, State.zone_modZone_self]; rfl
  · rw [hstop.chanGranted z ch, State.chan, State.zone_modZone_self, cleared_chan]

theorem closes_all (s : State) (z : ZoneId) :
    Closes z .zoneOff allKinds s (allKinds.foldl (fun s k => s.closeExc z k .zoneOff) s) :=
  (Closes.nil z .zoneOff s).foldl (ks := allKinds) (by decide) (by decide)

/-- The actuators of a zone that is turned OFF have no times (R157); node states and attempt counts stand. -/
theorem turnOff_nodes (s : State) (z : ZoneId) :
    (∀ ch n, s.actNode z ch = some n → ((s.turnOff z).node n).Untimed) ∧
      ∀ n, ((s.turnOff z).node n).state = (s.node n).state ∧ ((s.turnOff z).node n).attempts = (s.node n).attempts := by
  have hclosed := (closes_all s z).inZone.touches
  rw [turnOff_eq]
  generalize allKinds.foldl (fun s k => s.closeExc z k .zoneOff) s = t at hclosed ⊢
  refine ⟨fun ch n h => stopZone_untimed _ z (ch := ch) ?_, fun n => ?_⟩
  · rw [State.actNode, State.zone_modZone_self]
    show ((t.zone z).cfg.act ch) = some n
    rwa [hclosed.zoneCfg z]
  · obtain ⟨hstate, hattempts⟩ := stopZone_states (t.modZone z Zone.cleared) z n
    have hnode : (t.modZone z Zone.cleared).node n = s.node n := hclosed.node n
    rw [hnode] at hstate hattempts
    exact ⟨hstate, hattempts⟩

theorem setCfg_touches (s : State) (z : ZoneId) (new : ZoneRec) :
    Touches [.cfg] s (s.modZone z fun zn => { zn with cfg := new }) := modZone_touches s z _

section

variable {s : State} {z : ZoneId} {new : ZoneRec}

theorem switchUse_off (hold : (s.zone z).cfg.use = true) (hnew : new.use = false) :
    s.switchUse z new = (s.turnOff z).modZone z fun zn => { zn with cfg := new } := by
  simp [State.switchUse, hold, hnew]

theorem switchUse_off_stopped (hold : (s.zone z).cfg.use = true) (hnew : new.use = false) : Stopped z (s.switchUse z new) := by
  have hstopped := turnOff_stopped s z
  have hcfg := setCfg_touches (s.turnOff z) z new
  rw [switchUse_off hold hnew]
  exact hstopped.of_touches ((hcfg.zoneDet z).trans hstopped.det) hcfg

theorem applyZone_off_stopped (hold : (s.zone z).cfg.use = true) (hnew : new.use = false) : Stopped z (s.applyZone z new) :=
  ((switchUse_off_stopped hold hnew).changeFields (s.zone z).cfg new).recomputeZone

/-- R8: the excursions of a zone that is turned OFF are reported closed, and nothing is recorded after them. -/
theorem applyZone_off_reported (hold : (s.zone z).cfg.use = true) (hnew : new.use = false) :
    ExcursionsReported s (s.applyZone z new) z allKinds .zoneOff := by
  have hstopped := (switchUse_off_stopped hold hnew).changeFields (s.zone z).cfg new
  obtain ⟨-, hrecords, hraises⟩ := recomputeZone_idle hstopped.det (hstopped.granted .light)
  have hcloses := closes_all s z
  have hexc : ∀ k, ((s.applyZone z new).zone z).exc k = none := fun k => by
    rw [Zone.exc, (applyZone_off_stopped hold hnew).det]
    cases k <;> rfl
  have hmid : Touches ([.ovr, .granted, .cfg] ++ fieldChanges) (allKinds.foldl (fun s k => s.closeExc z k .zoneOff) s)
      ((s.switchUse z new).changeFields z (s.zone z).cfg new) := by
    rw [switchUse_off hold hnew, turnOff_eq]
    generalize allKinds.foldl (fun s k => s.closeExc z k .zoneOff) s = t
    have hstopped : Touches ([.ovr, .granted, .cfg] ++ fieldChanges) t ((t.modZone z Zone.cleared).stopZone z) :=
      ((modCleared_touches t z).mono (by decide)).then_mono (stopZone_touches _ z) (by decide)
    exact (hstopped.then_mono (setCfg_touches _ z new) (by decide)).then_mono (changeFields_inZone _ z _ new).touches (by decide)
  refine hcloses.reported.then_quiet (hrecords.trans (hmid .records (by decide))) (fun k => ?_)
    fun p => ((hraises p).others _ (by decide)).trans (hmid.attention p _)
  rw [hexc k, hcloses.exc k, if_pos (by cases k <;> decide)]

theorem applyZone_off_node (hold : (s.zone z).cfg.use = true) (hnew : new.use = false) {ch : ChanKind} {n : NodeId}
    (h : (s.zone z).cfg.act ch = some n) : ((s.applyZone z new).node n).Untimed ∧
      ((s.applyZone z new).node n).state = (s.node n).state ∧ ((s.applyZone z new).node n).attempts = (s.node n).attempts := by
  obtain ⟨huntimed, hstates⟩ := turnOff_nodes s z
  have hswitch : (s.switchUse z new).node n = (s.turnOff z).node n := by
    rw [switchUse_off hold hnew, State.modZone_node]
  have hrebound : (((s.switchUse z new).rebindAll z (s.zone z).cfg new).node n).Untimed ∧
      ((((s.switchUse z new).rebindAll z (s.zone z).cfg new).zone z).cfg.use = false) :=
    forChans_keeps _ _ (fun t => (t.node n).Untimed ∧ (t.zone z).cfg.use = false)
      (fun ch t ht => ⟨rebind_keeps_untimed ht.1 ht.2 ch _ _, by rw [(rebind_inZone t z ch _ _).touches.zoneCfg z, ht.2]⟩)
      ⟨by rw [hswitch]; exact huntimed ch n h, by rw [switchUse_cfg, hnew]⟩
  have hwake : ∀ t : State, t.wakeZone z (s.zone z).cfg new = t := fun t => by
    simp [State.wakeZone, hold]
  obtain ⟨hstate, hattempts⟩ := changeFields_states (s.switchUse z new) z (s.zone z).cfg new n
  rw [applyZone_eq_recompute, (recomputeZone_inZone _ z).touches.node n, hstate, hattempts, hswitch]
  refine ⟨?_, hstates n⟩
  unfold State.changeFields
  rw [hwake, (sensorChanges_inZone _ z _ new).touches.node n]
  exact hrebound.1

/-! ### ON -/

theorem turnOn_activity (s : State) (z : ZoneId) (ch : ChanKind) : ((s.turnOn z).chan z ch).lastActivity = s.clock := by
  unfold State.turnOn
  have hclock : ((s.modZone z fun zn => { zn with horizon := s.clock, det := .default, ovr := .empty }).touchZone z).clock = s.clock :=
    touchZone_touches _ z .clock (by decide)
  refine Eq.trans (forChans_each _ _ (fun ch t => (t.chan z ch).lastActivity = t.clock) (fun ch t => ?_) (fun ch t j hj => ?_) ch)
    hclock
  · rw [touch_chan, if_pos rfl]
    exact (touch_touches t z ch .clock (by decide)).symm
  · rw [touch_chan]
    have hc : (t.touch z ch).clock = t.clock := touch_touches t z ch .clock (by decide)
    split
    · exact hc.symm
    · exact hj.trans hc.symm

theorem turnOn_zone (s : State) (z : ZoneId) : ((s.turnOn z).zone z).horizon = s.clock ∧ ((s.turnOn z).zone z).det = .default := by
  unfold State.turnOn
  rw [(touchZone_touches _ z).zoneHorizon z, (touchZone_touches _ z).zoneDet z, State.zone_modZone_self]
  exact ⟨rfl, rfl⟩

theorem switchUse_on (hold : (s.zone z).cfg.use = false) (hnew : new.use = true) :
    s.switchUse z new = (s.modZone z fun zn => { zn with cfg := new }).turnOn z := by
  simp [State.switchUse, hold, hnew]

/-- R9: a zone turned ON begins afresh. -/
theorem applyZone_on_fresh (hold : (s.zone z).cfg.use = false) (hnew : new.use = true) :
    ((s.applyZone z new).zone z).horizon = s.clock ∧ ((s.applyZone z new).zone z).det = .default := by
  obtain ⟨hhorizon, hdet⟩ := turnOn_zone (s.modZone z fun zn => { zn with cfg := new }) z
  rw [← switchUse_on hold hnew] at hhorizon hdet
  rw [applyZone_eq_recompute]
  refine ⟨?_, recomputeZone_det_default (changeFields_det_default hdet _ new)⟩
  rw [(recomputeZone_inZone _ z).touches.zoneHorizon z, (changeFields_inZone _ z _ new).touches.zoneHorizon z, hhorizon]
  rfl

theorem rebindAll_activity {t : State} {now : GTime} (hclock : t.clock = now) {ch : ChanKind}
    (h : (t.chan z ch).lastActivity = now) (old new : ZoneRec) : ((t.rebindAll z old new).chan z ch).lastActivity = now :=
  (forChans_keeps t _ (fun u => (u.chan z ch).lastActivity = now ∧ u.clock = now) (fun j u hu => by
    have hc : (u.rebind z j (old.act j) (new.act j)).clock = u.clock := (rebind_inZone u z j _ _).touches .clock (by decide)
    exact ⟨((rebind_chan u z j ch _ _).2 (hu.1.trans hu.2.symm)).trans hu.2, hc.trans hu.2⟩) ⟨h, hclock⟩).1

theorem applyZone_on_activity (hold : (s.zone z).cfg.use = false) (hnew : new.use = true) (ch : ChanKind) :
    ((s.applyZone z new).chan z ch).lastActivity = s.clock := by
  have hactivity := turnOn_activity (s.modZone z fun zn => { zn with cfg := new }) z ch
  rw [← switchUse_on hold hnew] at hactivity
  have hclock : (s.switchUse z new).clock = s.clock := (switchUse_inZone s z new).touches .clock (by decide)
  rw [applyZone_eq, (recomputeZone_inZone _ z).touches.chanActivity, (sensorChanges_inZone _ z _ new).touches.chanActivity,
    (wakeZone_touches _ z _ new).chanActivity]
  exact rebindAll_activity hclock hactivity _ new

/-- R157: the actuators of a zone that is turned ON in SUPERVISED are due now. -/
theorem applyZone_on_due (hold : (s.zone z).cfg.use = false) (hnew : new.use = true) (hsup : s.supervised = true)
    {ch : ChanKind} {n : NodeId} (h : new.act ch = some n) :
    ((s.node n).state = .silent → ((s.applyZone z new).node n).retry = some s.clock) ∧
      ((s.node n).state ≠ .silent →
        ((s.applyZone z new).node n).due = some s.clock ∧ ((s.applyZone z new).node n).waiting = true) := by
  have hrebound := rebindAll_inZone (s.switchUse z new) z (s.zone z).cfg new
  have hswitched := (switchUse_inZone s z new).touches
  have hsupervised : ((s.switchUse z new).rebindAll z (s.zone z).cfg new).supervised = true :=
    (hrebound.touches .supervised (by decide)).trans ((hswitched .supervised (by decide)).trans hsup)
  have hact : ((s.switchUse z new).rebindAll z (s.zone z).cfg new).actNode z ch = some n := by
    rw [State.actNode, hrebound.touches.zoneCfg z, switchUse_cfg, h]
  have hwake : ((s.switchUse z new).rebindAll z (s.zone z).cfg new).wakeZone z (s.zone z).cfg new =
      ((s.switchUse z new).rebindAll z (s.zone z).cfg new).makeZoneDue z := by
    simp [State.wakeZone, hold, hnew, hsupervised]
  obtain ⟨hretry, hdue⟩ := makeZoneDue_dueNow _ z hact
  have hloop := makeZoneDue_loopOnly ((s.switchUse z new).rebindAll z (s.zone z).cfg new) z
  have hclock : (((s.switchUse z new).rebindAll z (s.zone z).cfg new).makeZoneDue z).clock = s.clock :=
    hloop.clock.trans ((hrebound.touches .clock (by decide)).trans (hswitched .clock (by decide)))
  have hstate : ((((s.switchUse z new).rebindAll z (s.zone z).cfg new).makeZoneDue z).node n).state = (s.node n).state := by
    have hon : (s.switchUse z new).node n = s.node n := by
      rw [switchUse_on hold hnew, (turnOn_touches _ z).node n, State.modZone_node]
    rw [(hloop.states n).1, (rebindAll_states _ z _ new n).1, hon]
  rw [hclock, hstate] at hretry hdue
  rw [applyZone_eq, (recomputeZone_inZone _ z).touches.node n, (sensorChanges_inZone _ z _ new).touches.node n, hwake]
  exact ⟨hretry, hdue⟩

end

/-! ### The write -/

theorem exec_writeZone_written {s : State} {p : PortId} {f : Frame} {rest : List Frame} {mask : Nat} {bytes : List Byte}
    {z : ZoneId} {r : ZoneRec} (h : NextRequest s p 0x10 f rest) (hf : f.payload = u1 z.val :: (u2 mask ++ bytes))
    (h0 : 0 < mask) (hmask : mask < 0x10000) (hmakes : Makes zoneFields mask (s.zone z).cfg r bytes)
    (hfit : NodesFit s z mask r) (hmay : s.may p z .envelope = true) :
    exec (.writeZone p) s =
      .next ((((s.withTaken p rest).applyZone z r).answer p f .done (zoneRecBytes r)).countRequest p) := by
  rw [exec_writeZone_named h hf h0 hmask, if_pos hmay,
    writeFields_written (zoneField_reads.readFields_eq_some.mpr hmakes) (nodeFieldsOk_iff.mpr hfit), applyZone_cfg]

end Sys2Proof.Machine

open Sys2Proof Sys2Proof.Machine

set_option Elab.async false

/-- Settles O16: the write is `State.applyZone` in the state that has taken the request. -/
theorem writeZoneWritesTheRecord : Obligations.WriteZoneWritesTheRecord := by
  intro s p z mask r bytes f rest h hf h0 hmask hmakes hfit hmay
  have hexec := exec_writeZone_written h hf h0 hmask hmakes hfit hmay
  have hzone := applyZone_inZone (s.withTaken p rest) z r
  have hcfg := applyZone_cfg (s.withTaken p rest) z r
  have hcurrent : EnvelopeCurrent ((s.withTaken p rest).applyZone z r) z := recomputeZone_current _ z
  have hstopped := applyZone_off_stopped (s := s.withTaken p rest) (z := z) (new := r)
  have hreported := applyZone_off_reported (s := s.withTaken p rest) (z := z) (new := r)
  have hnodes := fun hold hnew ch n => applyZone_off_node (s := s.withTaken p rest) (z := z) (new := r) hold hnew (ch := ch) (n := n)
  have hfresh := applyZone_on_fresh (s := s.withTaken p rest) (z := z) (new := r)
  have hactivity := applyZone_on_activity (s := s.withTaken p rest) (z := z) (new := r)
  have hdue := fun hold hnew hsup ch n =>
    applyZone_on_due (s := s.withTaken p rest) (z := z) (new := r) hold hnew hsup (ch := ch) (n := n)
  have hunseeded := applyZone_unseeded (s.withTaken p rest) z (new := r)
  have hdarkened := applyZone_darkened (s.withTaken p rest) z (new := r)
  have hdropped := fun ch => applyZone_dropped (s.withTaken p rest) z (new := r) (ch := ch)
  generalize (s.withTaken p rest).applyZone z r = u at *
  have hanswer : SameWatch z u (u.answer p f .done (zoneRecBytes r)) :=
    .of_touches (answer_touches_tx u p f .done _) (answer_raises u p f .done _)
  refine ⟨_, hexec, hcfg, hcurrent.of_answer f .done _, fun hold hnew => ?_, fun hold hnew => ?_, hunseeded, hdarkened, hdropped,
    fun x hx => hzone.others x hx, hzone.touches.accepted f .done _, hzone.touches.answered f .done _⟩
  · have hstopped := hstopped hold hnew
    have hreported := (withTaken_sameWatch s p rest z).reported (hreported hold hnew)
    refine ⟨hstopped.det, hstopped.ovr, hreported.then_quiet rfl hanswer.exc hanswer.attention, fun ch => ?_, fun ch n hn => ?_⟩
    · have hch := hstopped.dropped ch
      exact ⟨hstopped.granted ch, hch.pending, hch.sent, hch.applied, hstopped.delisted ch⟩
    · obtain ⟨huntimed, hstate, hattempts⟩ := hnodes hold hnew ch n hn
      exact ⟨huntimed.due, huntimed.retry, huntimed.waiting, hstate, hattempts⟩
  · obtain ⟨hhorizon, hdet⟩ := hfresh hold hnew
    exact ⟨hhorizon, hdet, hactivity hold hnew, fun hsup => hdue hold hnew hsup⟩

end

section
/-! ## The filter (R22, R23) -/

namespace Sys2Proof.Machine

open Sys2Proof

set_option Elab.async false

/-- The magnitude of the filter's step for a difference `d`: |d| × k div 256, rounded half-up, at least one unit (R22). -/
def stepSize (k : Nat) (d : Int) : Nat := max 1 ((d.natAbs * k + 128) / 256)

theorem filterStep_zero (k : Int) : filterStep k 0 = 0 := if_pos rfl

/-- R22: both signs of a difference step by the same amount. -/
theorem filterStep_of_ne_zero (k : Nat) {d : Int} (h : d ≠ 0) : filterStep k d = d.sign * stepSize k d := by
  have hmagnitude : (|d| * k + 128) / 256 = (((d.natAbs * k + 128) / 256 : Nat) : Int) := by
    rw [Int.abs_eq_natAbs]
    norm_cast
  unfold filterStep stepSize
  simp only [if_neg h, hmagnitude]
  generalize (d.natAbs * k + 128) / 256 = n
  cases n with
  | zero => simp
  | succ n => rw [if_neg (by omega), max_eq_right (by omega)]

/-- A factor of at most 256 takes the filter no further than the sample. -/
theorem stepSize_le {k : Nat} (hk : k ≤ 256) {d : Int} (h : d ≠ 0) : stepSize k d ≤ d.natAbs := by
  have hscaled : d.natAbs * k ≤ d.natAbs * 256 := Nat.mul_le_mul_left _ hk
  unfold stepSize
  omega

theorem filterUpdate_self (k x : Int) : filterUpdate k x x = x := by
  rw [filterUpdate, Int.sub_self, filterStep_zero, Int.add_zero]

theorem filterUpdate_of_lt {k : Nat} (hk : k ≤ 256) {y x : Int} (h : y < x) :
    filterUpdate k y x = y + stepSize k (x - y) ∧ filterUpdate k y x ≤ x := by
  have hstep := stepSize_le hk (d := x - y) (by omega)
  rw [filterUpdate, filterStep_of_ne_zero k (by omega), Int.sign_eq_one_of_pos (by omega), Int.one_mul]
  exact ⟨rfl, by omega⟩

theorem filterUpdate_of_gt {k : Nat} (hk : k ≤ 256) {y x : Int} (h : x < y) :
    filterUpdate k y x = y - stepSize k (x - y) ∧ x ≤ filterUpdate k y x := by
  have hstep := stepSize_le hk (d := x - y) (by omega)
  rw [filterUpdate, filterStep_of_ne_zero k (by omega), Int.sign_eq_neg_one_of_neg (by omega), Int.neg_one_mul]
  exact ⟨rfl, by omega⟩

/-- The factors of the six filter codes (R22). -/
theorem filterK_eq {code : Nat} (h : code ≤ 5) :
    filterK code = ([256, 128, 64, 32, 16, 8].getD code 0 : Nat) ∧ [256, 128, 64, 32, 16, 8].getD code 0 ≤ 256 := by
  interval_cases code <;> decide

theorem takeClimate_filt_seeded {e : Estimate} {ft frh : Int} (hseeded : e.seeded = true) (hfilt : e.filt = some (ft, frh))
    (code : Nat) (t rh : Int) : (e.takeClimate code t rh).filt =
      some (filterUpdate (filterK code) ft t, filterUpdate (filterK code) frh rh) := by
  simp only [Estimate.takeClimate, hseeded, hfilt]

theorem takeClimate_filt_unseeded {e : Estimate} (hseeded : e.seeded = false) (code : Nat) (t rh : Int) :
    (e.takeClimate code t rh).filt = some (t, rh) := by
  simp only [Estimate.takeClimate, hseeded]

end Sys2Proof.Machine

open Sys2Proof Sys2Proof.Machine

set_option Elab.async false

/-- Settles O22: each filtered value moves by `filterUpdate`, whose step is `stepSize` toward the sample. -/
theorem filterFollowsTheSample : Obligations.FilterFollowsTheSample := by
  intro e code t rh ft frh hcode
  obtain ⟨hfactor, hk⟩ := filterK_eq hcode
  refine ⟨fun hseeded hfilt => ⟨_, _, takeClimate_filt_seeded hseeded hfilt code t rh, fun x y y' hxy => ?_⟩,
    fun hseeded => takeClimate_filt_unseeded hseeded code t rh, rfl, rfl⟩
  have hupdate : y' = filterUpdate (filterK code) y x := by
    rcases hxy with h | h <;> cases h <;> rfl
  rw [hupdate, hfactor]
  exact ⟨fun h => h ▸ filterUpdate_self _ x, filterUpdate_of_lt hk, filterUpdate_of_gt hk⟩

end

section
/-! ## The swing ring at a five-minute mark (R24, R26) -/

namespace Sys2Proof.Machine

open Sys2Proof

set_option Elab.async false

/-- R26: a ring without slots stands, a full one loses its oldest slot, and any other grows. -/
theorem markRing_eq {ring : List (Option Slot)} (h : ring.length ≤ 12) :
    markRing ring = if ring = [] then ([], false)
      else if ring.length = 12 then (ring.drop 1 ++ [none], true) else (ring ++ [none], false) := by
  have hfull : ringLimit < (ring ++ [none]).length ↔ ring.length = 12 := by
    rw [List.length_append, List.length_singleton, ringLimit]
    omega
  unfold markRing
  simp only [List.isEmpty_iff, hfull]
  split
  · rfl
  · split
    · next hlen => rw [List.drop_append_of_le_length (by omega)]
    · rfl

theorem markRing_ring {ring : List (Option Slot)} (h : ring.length ≤ 12) :
    (markRing ring).1 = if ring = [] then [] else if ring.length = 12 then ring.drop 1 ++ [none] else ring ++ [none] := by
  rw [markRing_eq h]
  split
  · rfl
  · split <;> rfl

/-- R26: only a full ring loses a slot. -/
theorem markRing_removed {ring : List (Option Slot)} (h : ring.length ≤ 12) :
    (markRing ring).2 = true ↔ ring.length = 12 := by
  rw [markRing_eq h]
  split
  · next hempty => simp [hempty]
  · split
    · next hfull => simp [hfull]
    · next hroom => simp [hroom]

/-- R24: a mark leaves at most twelve slots. -/
theorem markRing_length {ring : List (Option Slot)} (h : ring.length ≤ 12) : (markRing ring).1.length ≤ 12 := by
  rw [markRing_ring h]
  split
  · exact Nat.zero_le _
  · split <;> simp <;> omega

/-! ### The swing tests at a mark (R128) -/

/-- The kinds that the swing ring tests. -/
def IsSwing (k : ExcKind) : Prop := k = .tSwing ∨ k = .rhSwing

theorem IsSwing.endWith {k : ExcKind} (hk : IsSwing k) (o : Override) : o.endWith k = o := by
  rcases hk with rfl | rfl <;> rfl

/-- R141: no part of an override ends with a swing excursion. -/
theorem closeExc_swing_inZone (s : State) (z : ZoneId) {k : ExcKind} (hk : IsSwing k) (r : CloseReason) :
    InZone z (.det :: reporting) s (s.closeExc z k r) := by
  unfold State.closeExc
  split
  · exact .refl z _ s
  · have hovr : Touches [] s (s.modZone z fun zn => { zn with ovr := zn.ovr.endWith k }) :=
      modZone_touches s z _ (h_ovr := fun _ => hk.endWith _)
    exact (((InZone.of_modZone hovr).mono (by decide)).then_mono (.of_modZone (setExc_touches _ z k _)) (by decide)).then_mono
      (((offer_signalled _ _).trans (pendWhere_signalled _ _ _)).inZone z) (by decide)

theorem update_eq_tracked (e : Excursion) (amount : Nat) (side : Side) (now : GTime) :
    e.update amount side now = e.tracked now amount side := rfl

/-- What the test of a swing kind at a mark leaves of a zone: it tracks or closes that kind's excursion, and nothing else of the
zone's detection moves. -/
structure SwingMarked (z : ZoneId) (k : ExcKind) (limit swing : Int) (s t : State) : Prop where
  inZone  : InZone z (.det :: reporting) s t
  tested  : MarkTested s.clock (swingMargin k) limit swing ((s.zone z).exc k) ((t.zone z).exc k)
  others  : ∀ j, j ≠ k → (t.zone z).exc j = (s.zone z).exc j
  samples : (t.zone z).det.luxPending = (s.zone z).det.luxPending ∧ (t.zone z).det.uvFirst = (s.zone z).det.uvFirst

theorem testSwing_mark (s : State) (z : ZoneId) {k : ExcKind} (hk : IsSwing k) (swing limit : Int) :
    SwingMarked z k limit swing s (s.testSwing true z k swing limit) := by
  unfold State.testSwing
  split
  · next habsent =>
    rw [if_neg (by simp)]
    exact ⟨.refl z _ s, ⟨id, fun e he => absurd (habsent.symm.trans he) (by simp)⟩, fun _ _ => rfl, rfl, rfl⟩
  · next e hopen =>
    have tested : ∀ after, after = (if swing ≤ max 0 (limit - swingMargin k) then none
          else some (e.tracked s.clock (swing - limit).toNat .high)) →
        MarkTested s.clock (swingMargin k) limit swing ((s.zone z).exc k) after := fun after hafter =>
      ⟨fun h => absurd (hopen.symm.trans h) (by simp), fun x hx => by
        rw [hopen] at hx
        cases hx
        exact hafter⟩
    split
    · next hcloses =>
      obtain ⟨hexc, hsamples⟩ := closeExc_det s z k .returned
      exact ⟨closeExc_swing_inZone s z hk _, tested _ (by rw [hexc, if_pos rfl, if_pos hcloses]),
        fun j hj => (hexc j).trans (if_neg hj), hsamples⟩
    · next hkeeps =>
      obtain ⟨hexc, hsamples⟩ := setExc_det s z k (some (e.update (swing - limit).toNat .high s.clock))
      exact ⟨(InZone.of_modZone (setExc_touches s z k _)).mono (by decide),
        tested _ (by rw [hexc, if_pos rfl, if_neg hkeeps, update_eq_tracked]), fun j hj => (hexc j).trans (if_neg hj), hsamples⟩

/-- What both swing tests at a mark leave of a zone, from the extremes of its ring (R128). -/
structure SwingsMarked (z : ZoneId) (s t : State) : Prop where
  inZone  : InZone z (.det :: reporting) s t
  tested  : ∀ x, (s.zone z).est.extremes = some x →
    MarkTested s.clock 20 (s.zone z).eff.tSwing (x.tMax - x.tMin) ((s.zone z).exc .tSwing) ((t.zone z).exc .tSwing) ∧
    MarkTested s.clock 100 (s.zone z).eff.rhSwing (x.rhMax - x.rhMin) ((s.zone z).exc .rhSwing) ((t.zone z).exc .rhSwing)
  idle    : (s.zone z).est.extremes = none → t = s
  others  : ∀ k, k ≠ .tSwing → k ≠ .rhSwing → (t.zone z).exc k = (s.zone z).exc k
  samples : (t.zone z).det.luxPending = (s.zone z).det.luxPending ∧ (t.zone z).det.uvFirst = (s.zone z).det.uvFirst

theorem testSwings_mark (s : State) (z : ZoneId) : SwingsMarked z s (s.testSwings true z) := by
  unfold State.testSwings
  split
  · next habsent =>
    exact ⟨.refl z _ s, fun x hx => absurd (habsent.symm.trans hx) (by simp), fun _ => rfl, fun _ _ _ => rfl, rfl, rfl⟩
  · next x hx =>
    have ht := testSwing_mark s z (.inl rfl) (x.tMax - x.tMin) (s.zone z).eff.tSwing
    generalize s.testSwing true z .tSwing (x.tMax - x.tMin) (s.zone z).eff.tSwing = t at ht ⊢
    have hrh := testSwing_mark t z (.inr rfl) (x.rhMax - x.rhMin) (s.zone z).eff.rhSwing
    generalize t.testSwing true z .rhSwing (x.rhMax - x.rhMin) (s.zone z).eff.rhSwing = u at hrh ⊢
    have hclock : t.clock = s.clock := ht.inZone.touches .clock (by decide)
    have hrhTested := hrh.tested
    rw [hclock, ht.others _ (by decide)] at hrhTested
    refine ⟨ht.inZone.trans hrh.inZone, fun y hy => ?_, fun h => absurd (hx.symm.trans h) (by simp),
      fun k htk hrhk => (hrh.others k hrhk).trans (ht.others k htk),
      hrh.samples.1.trans ht.samples.1, hrh.samples.2.trans ht.samples.2⟩
    cases hx.symm.trans hy
    exact ⟨(hrh.others .tSwing (by decide)).symm ▸ ht.tested, hrhTested⟩

/-! ### One zone at a mark -/

/-- Whether an estimate is usable rests on the zone and on the nodes (R29). -/
theorem usable_congr {s t : State} {z : ZoneId} (hcfg : (t.zone z).cfg = (s.zone z).cfg)
    (hseeded : (t.zone z).est.seeded = (s.zone z).est.seeded) (hnode : ∀ n, t.node n = s.node n) : t.usable z = s.usable z := by
  simp only [State.usable, hcfg, hseeded, hnode]

/-- A zone before and after a five-minute mark at which its estimate was usable or not (R26, R128). -/
structure ZoneMarked (now : GTime) (usable : Bool) (before after : Zone) : Prop where
  est     : after.est = { before.est with ring := (markRing before.est.ring).1 }
  tested  : ∀ x, (markRing before.est.ring).2 = true → before.cfg.use = true → usable = true → after.est.extremes = some x →
    MarkTested now 20 before.eff.tSwing (x.tMax - x.tMin) (before.exc .tSwing) (after.exc .tSwing) ∧
    MarkTested now 100 before.eff.rhSwing (x.rhMax - x.rhMin) (before.exc .rhSwing) (after.exc .rhSwing)
  quiet   : (markRing before.est.ring).2 = false ∨ before.cfg.use = false ∨ usable = false ∨ after.est.extremes = none →
    after.det = before.det
  others  : ∀ k, k ≠ .tSwing → k ≠ .rhSwing → after.exc k = before.exc k
  samples : after.det.luxPending = before.det.luxPending ∧ after.det.uvFirst = before.det.uvFirst

/-- What a mark touches besides the list of marks. -/
abbrev markEffects : List Part := reporting ++ [.est, .det]

/-- The zone's ring as a mark leaves it (R26). -/
def State.ringMarked (s : State) (z : ZoneId) : State :=
  s.modZone z fun zn => { zn with est := { zn.est with ring := (markRing (s.zone z).est.ring).1 } }

theorem ringMarked_inZone (s : State) (z : ZoneId) : InZone z [.est] s (s.ringMarked z) := .of_modZone (modZone_touches s z _)

theorem ringMarked_zone (s : State) (z : ZoneId) : (s.ringMarked z).zone z =
    { s.zone z with est := { (s.zone z).est with ring := (markRing (s.zone z).est.ring).1 } } := State.zone_modZone_self s z _

theorem ringMarked_usable (s : State) (z : ZoneId) : (s.ringMarked z).usable z = s.usable z :=
  usable_congr (by rw [ringMarked_zone]) (by rw [ringMarked_zone]) fun _ => rfl

theorem markZone_eq (s : State) (z : ZoneId) : s.markZone z =
    if (markRing (s.zone z).est.ring).2 = true ∧ (s.zone z).cfg.use = true ∧ s.usable z = true then (s.ringMarked z).testSwings true z
    else s.ringMarked z := by
  have huse : ((s.ringMarked z).zone z).cfg.use = (s.zone z).cfg.use := by rw [ringMarked_zone]
  show (if ((markRing (s.zone z).est.ring).2 && ((s.ringMarked z).zone z).cfg.use && (s.ringMarked z).usable z) = true
    then (s.ringMarked z).testSwings true z else s.ringMarked z) = _
  rw [huse, ringMarked_usable]
  simp only [Bool.and_eq_true, and_assoc]

theorem markZone_inZone (s : State) (z : ZoneId) : InZone z markEffects s (s.markZone z) := by
  have hring := (ringMarked_inZone s z).mono (G := markEffects) (by decide)
  rw [markZone_eq]
  split
  · exact hring.then_mono (testSwings_mark _ z).inZone (by decide)
  · exact hring

theorem markZone_marked (s : State) (z : ZoneId) : ZoneMarked s.clock (s.usable z) (s.zone z) ((s.markZone z).zone z) := by
  have hzone := ringMarked_zone s z
  rw [markZone_eq]
  split
  · next htests =>
    obtain ⟨hremoved, huse, husable⟩ := htests
    obtain ⟨hinZone, htested, hidle, hothers, hsamples⟩ := testSwings_mark (s.ringMarked z) z
    have hest := hinZone.touches.zoneEst z
    rw [← hest] at htested hidle
    rw [hzone] at hest htested hothers hsamples
    refine ⟨hest, fun x _ _ _ hx => htested x hx, fun hquiet => ?_, hothers, hsamples⟩
    rcases hquiet with h | h | h | h
    · exact absurd (hremoved.symm.trans h) (by decide)
    · exact absurd (huse.symm.trans h) (by decide)
    · exact absurd (husable.symm.trans h) (by decide)
    · rw [hidle h, hzone]
  · next hskips =>
    rw [hzone]
    exact ⟨rfl, fun x hremoved huse husable _ => absurd ⟨hremoved, huse, husable⟩ hskips, fun _ => rfl, fun _ _ _ => rfl, rfl, rfl⟩

/-! ### Zone by zone -/

/-- A change made zone by zone comes to each zone in a state in which that zone is as it was. -/
theorem forZones_zone {F : List Part} {f : ZoneId → State → State} (hf : ∀ z s, InZone z F s (f z s)) (s : State) (z : ZoneId) :
    ∃ t, Touches F s t ∧ t.zone z = s.zone z ∧ (s.forZones f).zone z = (f z t).zone z := by
  have others : ∀ (l : List ZoneId) (t : State), z ∉ l → (l.foldl (fun s x => f x s) t).zone z = t.zone z := fun l => by
    induction l with
    | nil => exact fun _ _ => rfl
    | cons x l ih =>
      intro t hz
      obtain ⟨hx, hl⟩ := not_or.mp (mt List.mem_cons.mpr hz)
      exact (ih _ hl).trans ((hf x t).others z hx)
  obtain ⟨before, after, hsplit⟩ := List.append_of_mem (List.mem_finRange z)
  have hnodup := hsplit ▸ List.nodup_finRange 8
  have hbefore : z ∉ before := fun h => (List.nodup_append.mp hnodup).2.2 z h z List.mem_cons_self rfl
  have hafter : z ∉ after := (List.nodup_cons.mp (List.nodup_append.mp hnodup).2.1).1
  refine ⟨before.foldl (fun s x => f x s) s, foldl_touches _ (fun s x => (hf x s).touches) before s, others before s hbefore, ?_⟩
  rw [State.forZones, allZones, hsplit, List.foldl_append, List.foldl_cons]
  exact others after _ hafter

theorem forZones_markZone_marked (s : State) (z : ZoneId) :
    ZoneMarked s.clock (s.usable z) (s.zone z) ((s.forZones fun z s => s.markZone z).zone z) := by
  obtain ⟨t, htouches, hzone, hmarked⟩ := forZones_zone (fun z s => markZone_inZone s z) s z
  have hclock : t.clock = s.clock := htouches .clock (by decide)
  have husable : t.usable z = s.usable z := usable_congr (by rw [hzone]) (by rw [hzone]) fun n => htouches.node n
  rw [hmarked, ← hclock, ← husable, ← hzone]
  exact markZone_marked t z

/-- The marks that wait, and nothing else. -/
theorem fiveMarks_touches (s : State) (ms : List GTime) : Touches [.marks] s { s with fiveMarks := ms } := by
  intro k hk
  cases k with
  | marks => exact absurd List.mem_cons_self hk
  | _ => rfl

theorem exec_fiveMinuteMark_none {s : State} (h : s.fiveMarks = []) : exec .fiveMinuteMark s = .next s := by
  show execFiveMinuteMark s = _
  simp only [execFiveMinuteMark, h]

theorem exec_fiveMinuteMark_some {s : State} {m : GTime} {ms : List GTime} (h : s.fiveMarks = m :: ms) :
    exec .fiveMinuteMark s = .next ({ s with fiveMarks := ms }.forZones fun z s => s.markZone z) := by
  show execFiveMinuteMark s = _
  simp only [execFiveMinuteMark, h]

end Sys2Proof.Machine

open Sys2Proof Sys2Proof.Machine

set_option Elab.async false

/-- Settles O45: every zone is marked in its turn, in a state in which it and what its tests rest on are as they were. -/
theorem fiveMinuteMarkMovesTheRings : Obligations.FiveMinuteMarkMovesTheRings := by
  intro s
  refine ⟨exec_fiveMinuteMark_none, fun m ms hmarks hfits => ?_⟩
  have hexec := exec_fiveMinuteMark_some hmarks
  have htouches := forZones_touches { s with fiveMarks := ms } _ fun z s => (markZone_inZone s z).touches
  have hzone : ∀ z, ZoneMarked s.clock (s.usable z) (s.zone z) _ := forZones_markZone_marked { s with fiveMarks := ms }
  generalize ({ s with fiveMarks := ms } : State).forZones (fun z s => s.markZone z) = t at hexec htouches hzone
  have hwaiting : (t.minuteMarks, t.fiveMarks) = (s.minuteMarks, ms) := htouches .marks (by decide)
  obtain ⟨hminute, hfive⟩ := Prod.mk.inj hwaiting
  refine ⟨t, hexec, hfive, hminute, fun z => ?_, fun z x hfull => ?_, fun z hquiet => ?_,
    fun z => ⟨(hzone z).others, (hzone z).samples⟩, ((fiveMarks_touches s ms).mono (by decide)).then_mono htouches (by decide)⟩
  · have hring := congrArg Estimate.ring (hzone z).est
    refine ⟨by rw [hring]; exact (hzone z).est, ?_, hring.trans (markRing_ring (hfits z))⟩
    rw [hring]
    exact markRing_length (hfits z)
  · exact (hzone z).tested x ((markRing_removed (hfits z)).mpr hfull)
  · refine (hzone z).quiet (hquiet.imp_left fun h => ?_)
    exact Bool.eq_false_iff.mpr (mt (markRing_removed (hfits z)).mp h)

end

section
/-! ## Bands (R46, R48) -/

namespace Sys2Proof.Machine

open Sys2Proof

set_option Elab.async false

theorem Band.dist_eq_zero_iff (b : Band) (x : Int) : b.dist x = 0 ↔ b.lo ≤ x ∧ x ≤ b.hi := by
  unfold Band.dist
  split
  · omega
  · split <;> omega

theorem Band.clamp_eq_max_min {b : Band} (h : b.lo ≤ b.hi) (x : Int) : b.clamp x = max b.lo (min b.hi x) := by
  unfold Band.clamp
  split
  · omega
  · split <;> omega

theorem Band.clamp_mk {lo hi : Int} (h : lo ≤ hi) (x : Int) : Band.clamp { lo := lo, hi := hi } x = max lo (min hi x) :=
  Band.clamp_eq_max_min h x

end Sys2Proof.Machine
end

section
/-! ## Saturation vapour pressure and the transferred RH (R38, R39, R42) -/

namespace Sys2Proof.Machine

open Sys2Proof

set_option Elab.async false

/-! ### Interpolation -/

/-- A value between `p` and `q` at `f` hundredths of the way, rounded half-up (R39). -/
def interpolated (p q : Int) (f : Nat) : Int := p + ((q - p) * f + 50) / 100

theorem interpolated_mono {p q : Int} (h : p ≤ q) : Monotone (interpolated p q) := by
  intro f f' hf
  have hscaled : (q - p) * f ≤ (q - p) * f' := Int.mul_le_mul_of_nonneg_left (by omega) (by omega)
  unfold interpolated
  omega

theorem interpolated_zero (p q : Int) : interpolated p q 0 = p := by simp [interpolated]

theorem interpolated_hundred (p q : Int) : interpolated p q 100 = q := by
  unfold interpolated
  omega

/-! ### The table -/

theorem pressureAt_of_ge {i : Nat} (h : 40 ≤ i) : pressureAt i = 7381 := by
  obtain rfl | hlt := h.eq_or_lt
  · rfl
  · exact List.getD_eq_default _ _ hlt

theorem pressureAt_mono : Monotone pressureAt := by
  have htable : ∀ i < 40, pressureAt i ≤ pressureAt (i + 1) := by decide
  refine monotone_nat_of_le_succ fun i => ?_
  by_cases hi : i < 40
  · exact htable i hi
  · rw [pressureAt_of_ge (by omega), pressureAt_of_ge (by omega)]

/-- Ps over hundredths of a degree from 0 °C (R39), with no case for the end of the table, beyond which P stays 7381. -/
def pressureOver (n : Nat) : Int := interpolated (pressureAt (n / 100)) (pressureAt (n / 100 + 1)) (n % 100)

theorem satPressure_eq (t : Int) : satPressure t = pressureOver (tableTemp t) := by
  by_cases hend : tableTemp t / 100 = 40
  · calc satPressure t = 7381 := if_pos hend
      _ = interpolated 7381 7381 (tableTemp t % 100) := by simp [interpolated]
      _ = pressureOver (tableTemp t) := by
        rw [pressureOver, hend, pressureAt_of_ge (Nat.le_refl 40), pressureAt_of_ge (Nat.le_succ 40)]
  · exact if_neg hend

theorem pressureAt_le_pressureOver (n : Nat) : pressureAt (n / 100) ≤ pressureOver n :=
  calc pressureAt (n / 100)
      = interpolated (pressureAt (n / 100)) (pressureAt (n / 100 + 1)) 0 := (interpolated_zero _ _).symm
    _ ≤ pressureOver n := interpolated_mono (pressureAt_mono (Nat.le_succ _)) (Nat.zero_le _)

theorem pressureOver_le_pressureAt (n : Nat) : pressureOver n ≤ pressureAt (n / 100 + 1) :=
  calc pressureOver n
      ≤ interpolated (pressureAt (n / 100)) (pressureAt (n / 100 + 1)) 100 :=
        interpolated_mono (pressureAt_mono (Nat.le_succ _)) (Nat.mod_lt n (by omega)).le
    _ = pressureAt (n / 100 + 1) := interpolated_hundred _ _

/-- Within one degree Ps is an interpolation; over two it is parted by an entry of the table. -/
theorem pressureOver_mono : Monotone pressureOver := by
  intro a b hab
  obtain hsame | hlater := (Nat.div_le_div_right (c := 100) hab).eq_or_lt
  · rw [pressureOver, pressureOver, hsame]
    exact interpolated_mono (pressureAt_mono (Nat.le_succ _)) (by omega)
  · calc pressureOver a ≤ pressureAt (a / 100 + 1) := pressureOver_le_pressureAt a
      _ ≤ pressureAt (b / 100) := pressureAt_mono hlater
      _ ≤ pressureOver b := pressureAt_le_pressureOver b

theorem satPressure_mono : Monotone satPressure := by
  intro a b hab
  rw [satPressure_eq, satPressure_eq]
  exact pressureOver_mono (by unfold tableTemp; omega)

theorem satPressure_ge (t : Int) : 611 ≤ satPressure t := by
  rw [satPressure_eq]
  exact (pressureAt_mono (Nat.zero_le _)).trans (pressureAt_le_pressureOver _)

theorem satPressure_le (t : Int) : satPressure t ≤ 7381 := by
  rw [satPressure_eq]
  calc pressureOver (tableTemp t) ≤ pressureAt (tableTemp t / 100 + 1) := pressureOver_le_pressureAt _
    _ ≤ pressureAt (tableTemp t / 100 + 1 + 40) := pressureAt_mono (Nat.le_add_right _ _)
    _ = 7381 := pressureAt_of_ge (Nat.le_add_left _ _)

/-! ### The quotient of R42 -/

/-- A quotient rounded half-up does not rise with its divisor. -/
theorem roundedDiv_antitone {n p q : Int} (hn : 0 ≤ n) (hp : 0 < p) (hpq : p ≤ q) : (n + q / 2) / q ≤ (n + p / 2) / p := by
  rw [Int.le_ediv_iff_mul_le hp]
  have hquot : (n + q / 2) / q * q ≤ n + q / 2 := (Int.le_ediv_iff_mul_le (by omega)).mp le_rfl
  generalize (n + q / 2) / q = k at hquot ⊢
  obtain hk | hk := le_or_gt k 0
  · have hneg : k * p ≤ 0 := mul_nonpos_of_nonpos_of_nonneg hk hp.le
    omega
  · have hless : (k - 1) * p ≤ (k - 1) * q := Int.mul_le_mul_of_nonneg_left hpq (by omega)
    rw [Int.sub_mul, Int.sub_mul, Int.one_mul, Int.one_mul] at hless
    omega

theorem mul_satPressure_nonneg {rh : Int} (h : 0 ≤ rh) (t : Int) : 0 ≤ rh * satPressure t :=
  mul_nonneg h ((by decide : (0 : Int) ≤ 611).trans (satPressure_ge t))

theorem rhTransRaw_self (t rh : Int) : rhTransRaw t rh t = rh := by
  have hpos := satPressure_ge t
  rw [rhTransRaw, Int.add_comm, Int.add_mul_ediv_right _ _ (by omega), Int.ediv_eq_zero_of_lt (by omega) (by omega),
    Int.zero_add]

theorem rhTransRaw_nonneg {rh : Int} (h : 0 ≤ rh) (tNow t : Int) : 0 ≤ rhTransRaw tNow rh t := by
  have hnum := mul_satPressure_nonneg h tNow
  have hpos := satPressure_ge t
  exact Int.ediv_nonneg (by omega) (by omega)

theorem rhTransRaw_antitone {rh : Int} (h : 0 ≤ rh) (tNow : Int) : Antitone (rhTransRaw tNow rh) := fun a _ hab =>
  roundedDiv_antitone (mul_satPressure_nonneg h tNow) ((by decide : (0 : Int) < 611).trans_le (satPressure_ge a))
    (satPressure_mono hab)

end Sys2Proof.Machine

open Sys2Proof Sys2Proof.Machine

set_option Elab.async false

/-- Settles O23: Ps interpolates a rising table, and the transferred RH is a rounded quotient by it. -/
theorem rhTransferBehaves : Obligations.RhTransferBehaves := by
  refine ⟨fun t => ⟨satPressure_ge t, satPressure_le t⟩, fun a b hab => satPressure_mono hab, fun tNow rh hlo hhi =>
    ⟨?_, fun x => ⟨le_min (by decide) (rhTransRaw_nonneg hlo tNow x), min_le_left _ _⟩,
      fun a b hab => min_le_min_left _ (rhTransRaw_antitone hlo tNow hab)⟩⟩
  rw [rhTrans, rhTransRaw_self, min_eq_right hhi]

end

section
/-! ## The MOIST clamp (R49, R50) -/

namespace Sys2Proof.Machine

open Sys2Proof

set_option Elab.async false

/-! ### The values searched -/

theorem moistValues_eq : moistValues = (List.range 201).map fun i : Nat => (i : Int) - 100 := by
  simp [moistValues, ← List.map_eq_flatMap]

theorem mem_moistValues (d : Int) : d ∈ moistValues ↔ -100 ≤ d ∧ d ≤ 100 := by
  simp only [moistValues_eq, List.mem_map, List.mem_range]
  constructor
  · rintro ⟨i, hi, rfl⟩
    omega
  · rintro ⟨hlo, hhi⟩
    exact ⟨(d + 100).toNat, by omega, by omega⟩

theorem moistValues_ascending : moistValues.Pairwise (· < ·) := by
  rw [moistValues_eq, List.pairwise_map]
  exact List.pairwise_lt_range.imp fun h => by omega

/-- What `find?` gives in an ordered list comes before whatever else passes. -/
theorem rel_of_find?_eq_some {α : Type} {R : α → α → Prop} {l : List α} {p : α → Bool} {a : α} (hl : l.Pairwise R)
    (h : l.find? p = some a) : ∀ x ∈ l, p x = true → x = a ∨ R a x := by
  obtain ⟨-, before, after, rfl, hbefore⟩ := List.find?_eq_some_iff_append.mp h
  obtain ⟨-, hafter, -⟩ := List.pairwise_append.mp hl
  intro x hx hpass
  obtain hx | hx := List.mem_append.mp hx
  · have hfails := hbefore x hx
    simp [hpass] at hfails
  · exact (List.mem_cons.mp hx).imp_right (List.rel_of_pairwise_cons hafter)

/-! ### The ends of the interval -/

theorem predWith_mono (trans granted : Int) (g : Nat) : Monotone (predWith trans granted g) := by
  intro d d' hd
  have hscaled : (d - granted) * g ≤ (d' - granted) * g := Int.mul_le_mul_of_nonneg_right (by omega) (by omega)
  have hterm : moistureTerm (d - granted) g ≤ moistureTerm (d' - granted) g := Int.tdiv_le_tdiv (by decide) hscaled
  unfold predWith rhPredict
  omega

section
variable {b : Band} {trans granted : Int} {g : Nat}

theorem moistLow_eq_some {lo : Int} (h : moistLow b trans granted g = some lo) :
    (-100 ≤ lo ∧ lo ≤ 100) ∧ ∀ d, -100 ≤ d → d ≤ 100 → (lo ≤ d ↔ b.lo ≤ predWith trans granted g d) := by
  have hpass : b.lo ≤ predWith trans granted g lo :=
    of_decide_eq_true (List.find?_some (p := fun d => decide (b.lo ≤ predWith trans granted g d)) h)
  refine ⟨(mem_moistValues lo).mp (List.mem_of_find?_eq_some h), fun d hlo hhi => ⟨fun hd => ?_, fun hd => ?_⟩⟩
  · exact hpass.trans (predWith_mono trans granted g hd)
  · have hmem := (mem_moistValues d).mpr ⟨hlo, hhi⟩
    obtain heq | hlt := rel_of_find?_eq_some moistValues_ascending h d hmem (decide_eq_true hd)
    · exact heq.ge
    · exact hlt.le

theorem moistHigh_eq_some {hi : Int} (h : moistHigh b trans granted g = some hi) :
    (-100 ≤ hi ∧ hi ≤ 100) ∧ ∀ d, -100 ≤ d → d ≤ 100 → (d ≤ hi ↔ predWith trans granted g d ≤ b.hi) := by
  have hpass : predWith trans granted g hi ≤ b.hi :=
    of_decide_eq_true (List.find?_some (p := fun d => decide (predWith trans granted g d ≤ b.hi)) h)
  have hdescending : moistValues.reverse.Pairwise (· > ·) := List.pairwise_reverse.mpr moistValues_ascending
  have hmem : ∀ d, d ∈ moistValues.reverse ↔ -100 ≤ d ∧ d ≤ 100 := fun d => List.mem_reverse.trans (mem_moistValues d)
  refine ⟨(hmem hi).mp (List.mem_of_find?_eq_some h), fun d hlo hhi => ⟨fun hd => ?_, fun hd => ?_⟩⟩
  · exact (predWith_mono trans granted g hd).trans hpass
  · obtain heq | hgt := rel_of_find?_eq_some hdescending h d ((hmem d).mpr ⟨hlo, hhi⟩) (decide_eq_true hd)
    · exact heq.le
    · exact hgt.le

theorem moistLow_isSome {d : Int} (hlo : -100 ≤ d) (hhi : d ≤ 100) (hd : b.lo ≤ predWith trans granted g d) :
    ∃ lo, moistLow b trans granted g = some lo :=
  Option.isSome_iff_exists.mp (List.find?_isSome.mpr ⟨d, (mem_moistValues d).mpr ⟨hlo, hhi⟩, decide_eq_true hd⟩)

theorem moistHigh_isSome {d : Int} (hlo : -100 ≤ d) (hhi : d ≤ 100) (hd : predWith trans granted g d ≤ b.hi) :
    ∃ hi, moistHigh b trans granted g = some hi :=
  Option.isSome_iff_exists.mp
    (List.find?_isSome.mpr ⟨d, List.mem_reverse.mpr ((mem_moistValues d).mpr ⟨hlo, hhi⟩), decide_eq_true hd⟩)

/-! ### The interval -/

theorem moistInterval_eq_some_iff {iv : Band} : moistInterval b trans granted g = some iv ↔
    moistLow b trans granted g = some iv.lo ∧ moistHigh b trans granted g = some iv.hi ∧ iv.lo ≤ iv.hi := by
  unfold moistInterval
  cases moistLow b trans granted g with
  | none => simp
  | some lo =>
    cases moistHigh b trans granted g with
    | none => simp
    | some hi =>
      obtain ⟨ivLo, ivHi⟩ := iv
      by_cases h : lo ≤ hi
      · simp only [if_pos h, Option.some.injEq, Band.mk.injEq]
        exact ⟨fun ⟨hlo, hhi⟩ => ⟨hlo, hhi, hlo ▸ hhi ▸ h⟩, fun ⟨hlo, hhi, _⟩ => ⟨hlo, hhi⟩⟩
      · simp only [if_neg h, Option.some.injEq, reduceCtorEq, false_iff]
        exact fun ⟨hlo, hhi, hle⟩ => h (hlo ▸ hhi ▸ hle)

theorem moistInterval_bounds {iv : Band} (h : moistInterval b trans granted g = some iv) :
    -100 ≤ iv.lo ∧ iv.lo ≤ iv.hi ∧ iv.hi ≤ 100 := by
  obtain ⟨hlow, hhigh, hle⟩ := moistInterval_eq_some_iff.mp h
  obtain ⟨⟨hlo, -⟩, -⟩ := moistLow_eq_some hlow
  obtain ⟨⟨-, hhi⟩, -⟩ := moistHigh_eq_some hhigh
  exact ⟨hlo, hle, hhi⟩

theorem mem_moistInterval_iff {iv : Band} (h : moistInterval b trans granted g = some iv) {d : Int} (hlo : -100 ≤ d)
    (hhi : d ≤ 100) : iv.lo ≤ d ∧ d ≤ iv.hi ↔ b.dist (predWith trans granted g d) = 0 := by
  obtain ⟨hlow, hhigh, -⟩ := moistInterval_eq_some_iff.mp h
  rw [Band.dist_eq_zero_iff]
  exact and_congr ((moistLow_eq_some hlow).2 d hlo hhi) ((moistHigh_eq_some hhigh).2 d hlo hhi)

/-- A value whose prediction lies in the band lies between the two ends, which are then in order. -/
theorem dist_ne_zero_of_moistInterval_eq_none (h : moistInterval b trans granted g = none) {d : Int} (hlo : -100 ≤ d)
    (hhi : d ≤ 100) : b.dist (predWith trans granted g d) ≠ 0 := by
  intro hin
  obtain ⟨habove, hbelow⟩ := (b.dist_eq_zero_iff _).mp hin
  obtain ⟨lo, hlow⟩ := moistLow_isSome hlo hhi habove
  obtain ⟨hi, hhigh⟩ := moistHigh_isSome hlo hhi hbelow
  have hle : lo ≤ hi :=
    (((moistLow_eq_some hlow).2 d hlo hhi).mpr habove).trans (((moistHigh_eq_some hhigh).2 d hlo hhi).mpr hbelow)
  have hsome := moistInterval_eq_some_iff (iv := ⟨lo, hi⟩).mpr ⟨hlow, hhigh, hle⟩
  cases h.symm.trans hsome

/-! ### The clamp -/

theorem moistClamp_zero (d : Int) : moistClamp b trans granted 0 d = d := if_pos rfl

theorem moistClamp_of_some (hg : 0 < g) {iv : Band} (h : moistInterval b trans granted g = some iv) (d : Int) :
    moistClamp b trans granted g d = iv.clamp d := by
  rw [moistClamp, if_neg hg.ne', h]

theorem moistClamp_of_none (hg : 0 < g) (h : moistInterval b trans granted g = none) (d : Int) :
    moistClamp b trans granted g d =
      if b.dist (predWith trans granted g (-100)) < b.dist (predWith trans granted g 100) then -100 else 100 := by
  rw [moistClamp, if_neg hg.ne', h]

end

end Sys2Proof.Machine

open Sys2Proof Sys2Proof.Machine

set_option Elab.async false

/-- Settles O24: RHpred does not fall as the MOIST value rises, so the two ends found part the values that meet each end of the
band from those that do not. -/
theorem moistClampKeepsTheInterval : Obligations.MoistClampKeepsTheInterval := by
  intro b trans granted g
  refine ⟨fun iv hiv => ⟨moistInterval_bounds hiv, fun d => mem_moistInterval_iff hiv, fun hg d => ?_⟩,
    fun hnone => ⟨fun d => dist_ne_zero_of_moistInterval_eq_none hnone, fun hg d => ⟨fun hlt => ?_, fun hle => ?_⟩⟩,
    fun hg d => hg ▸ moistClamp_zero d⟩
  · obtain ⟨-, horder, -⟩ := moistInterval_bounds hiv
    rw [moistClamp_of_some hg hiv, Band.clamp_eq_max_min horder]
  · rw [moistClamp_of_none hg hnone, if_pos hlt]
  · rw [moistClamp_of_none hg hnone, if_neg hle.not_gt]

end

section
/-! ## Blind steps (R51, R52) -/

namespace Sys2Proof.Machine

open Sys2Proof

set_option Elab.async false

theorem climateCandidate_of_not_usable {s : State} {z : ZoneId} (h : s.usable z = false) (heat moist : Option Int) :
    s.climateCandidate z heat moist = blindClimate (s.zone z).eff.tLo (s.zone z).eff.tHi (s.chan z .heat).granted
      (s.chan z .moist).granted heat moist := by
  simp only [State.climateCandidate, h]
  rfl

theorem blindClimate_conds (tLo tHi : Int) (gh gm heat moist : Option Int) :
    let r := blindClimate tLo tHi gh gm heat moist
    r.conds = if r.heat ≠ heat ∨ r.moist ≠ moist then condBit .blindStep else 0 := by
  simp only [blindClimate, condIf, Bool.or_eq_true, bne_iff_ne]

/-! ### HEAT -/

section
variable {lo hi g : Int}

/-- Within 50 of the T band, the step range is what the band and the reach of one step share. -/
theorem heatStepRange_near (h : lo ≤ hi) (hlo : lo - 50 ≤ g) (hhi : g ≤ hi + 50) :
    heatStepRange lo hi (some g) = { lo := max (g - 50) lo, hi := min (g + 50) hi } :=
  if_pos (by omega)

theorem heatStepRange_below (h : g < lo - 50) : heatStepRange lo hi (some g) = { lo := g + 50, hi := g + 50 } := by
  rw [heatStepRange, if_neg (by omega), if_pos (by omega)]

theorem heatStepRange_above (h : lo ≤ hi) (hhi : hi + 50 < g) :
    heatStepRange lo hi (some g) = { lo := g - 50, hi := g - 50 } := by
  rw [heatStepRange, if_neg (by omega), if_neg (by omega)]

theorem heatStep_near (h : lo ≤ hi) (hlo : lo - 50 ≤ g) (hhi : g ≤ hi + 50) (x : Int) :
    let x' := (heatStepRange lo hi (some g)).clamp x
    (lo ≤ x' ∧ x' ≤ hi) ∧ (g - 50 ≤ x' ∧ x' ≤ g + 50) ∧
      (lo ≤ x → x ≤ hi → g - 50 ≤ x → x ≤ g + 50 → x' = x) := by
  have hrange : max (g - 50) lo ≤ min (g + 50) hi := by omega
  simp only [heatStepRange_near h hlo hhi, Band.clamp_mk hrange]
  omega

theorem heatStep_below (h : g < lo - 50) (x : Int) : (heatStepRange lo hi (some g)).clamp x = g + 50 := by
  rw [heatStepRange_below h, Band.clamp_mk le_rfl]
  omega

theorem heatStep_above (h : lo ≤ hi) (hhi : hi + 50 < g) (x : Int) : (heatStepRange lo hi (some g)).clamp x = g - 50 := by
  rw [heatStepRange_above h hhi, Band.clamp_mk le_rfl]
  omega

/-- Wherever the granted value lies, one step stays within 50 of it (R51). -/
theorem heatStep_small (h : lo ≤ hi) (x : Int) :
    g - 50 ≤ (heatStepRange lo hi (some g)).clamp x ∧ (heatStepRange lo hi (some g)).clamp x ≤ g + 50 := by
  by_cases hbelow : g < lo - 50
  · rw [heatStep_below hbelow]
    omega
  by_cases habove : hi + 50 < g
  · rw [heatStep_above h habove]
    omega
  · obtain ⟨-, hreach, -⟩ := heatStep_near (g := g) h (by omega) (by omega) x
    exact hreach

end

/-! ### MOIST -/

theorem moistStep_small {g : Int} (hlo : -100 ≤ g) (hhi : g ≤ 100) (d : Int) :
    let d' := moistStep (some g) d
    (-100 ≤ d' ∧ d' ≤ 100 ∧ g - 10 ≤ d' ∧ d' ≤ g + 10) ∧
      (-100 ≤ d → d ≤ 100 → g - 10 ≤ d → d ≤ g + 10 → d' = d) := by
  have hrange : max (g - 10) (-100) ≤ min (g + 10) 100 := by omega
  simp only [moistStep, Band.clamp_mk hrange]
  omega

end Sys2Proof.Machine

open Sys2Proof Sys2Proof.Machine

set_option Elab.async false

/-- Settles O25: without a usable estimate the candidate is `blindClimate`, which holds each value to its step range. -/
theorem blindStepsAreSmall : Obligations.BlindStepsAreSmall := by
  intro s z heat moist hblind
  rw [climateCandidate_of_not_usable hblind]
  refine ⟨rfl, rfl, Option.map_eq_none_iff.symm, Option.map_eq_none_iff.symm, blindClimate_conds _ _ _ _ _ _, ?_, ?_⟩
  · rintro hband h _ rfl ⟨rfl⟩
    refine ⟨fun hnone => ?_, fun g hg => ?_⟩
    · rw [hnone, heatStepRange, Band.clamp_mk hband]
      omega
    · rw [hg]
      refine ⟨heatStep_small hband h, fun hlo hhi => ?_, (heatStep_below · h), (heatStep_above hband · h)⟩
      obtain ⟨⟨hge, hle⟩, -, hkept⟩ := heatStep_near hband hlo hhi h
      exact ⟨hge, hle, hkept⟩
  · rintro d _ rfl ⟨rfl⟩
    refine ⟨fun hnone => ?_, fun g hg hlo hhi => ?_⟩
    · rw [hnone]
      rfl
    · rw [hg]
      exact moistStep_small hlo hhi d

end

section
/-! ## Charges and pace states (R64, R69) -/

namespace Sys2Proof.Machine

open Sys2Proof

set_option Elab.async false

/-- R64: below the cap a charge moves whole lx·h from the remainder to the consumed dose. -/
theorem charge_conserves {a : Account} {x : Nat} (h : a.consumed + (a.frac + x) / 3600 ≤ maxDose) :
    (a.charge x).consumed * 3600 + (a.charge x).frac = a.consumed * 3600 + a.frac + x := by
  have hdose : (a.charge x).consumed = a.consumed + (a.frac + x) / 3600 := min_eq_right h
  have hfrac : (a.charge x).frac = (a.frac + x) % 3600 := rfl
  omega

theorem charge_capped {a : Account} {x : Nat} (h : maxDose ≤ a.consumed + (a.frac + x) / 3600) :
    (a.charge x).consumed = maxDose := min_eq_left h

/-- R64: the remainder carries over, so charges add up, whether or not the cap is reached between them. -/
theorem charge_charge (a : Account) (x y : Nat) : (a.charge x).charge y = a.charge (x + y) := by
  simp only [Account.charge, Account.mk.injEq, and_true]
  omega

theorem paceFor_ahead_iff (consumed allowance slack n elapsed : Nat) :
    paceFor consumed allowance slack n elapsed = .ahead ↔
      consumed < allowance ∧ allowance * elapsed / (n * daySeconds) + allowance * slack / 100 < consumed := by
  unfold paceFor
  split
  · next h => simp [Nat.not_lt.mpr h]
  · next h => split <;> simp_all

/-- R69: once the period is over the share due is the whole allowance. -/
theorem allowance_le_share {n elapsed : Nat} (allowance : Nat) (hn : 1 ≤ n) (h : n * daySeconds ≤ elapsed) :
    allowance ≤ allowance * elapsed / (n * daySeconds) :=
  (Nat.le_div_iff_mul_le (Nat.mul_pos hn (by decide))).mpr (Nat.mul_le_mul_left allowance h)

end Sys2Proof.Machine

open Sys2Proof Sys2Proof.Machine

set_option Elab.async false

/-- Settles O42: a charge divides consumed dose and remainder anew; R69's share grows to the allowance. -/
theorem doseChargesAndPace : Obligations.DoseChargesAndPace := by
  refine ⟨fun a x y => ⟨rfl, Nat.mod_lt _ (by decide), charge_conserves, charge_capped, charge_charge a x y⟩,
    fun consumed allowance slack n elapsed hn => ⟨paceFor_exhausted _ _ _ _ _, paceFor_ahead_iff _ _ _ _ _, fun hover hahead => ?_⟩⟩
  obtain ⟨hbelow, hshare⟩ := (paceFor_ahead_iff _ _ _ _ _).mp hahead
  have := allowance_le_share allowance hn hover
  omega

end

section
/-! ## The zone ceiling (R71) -/

namespace Sys2Proof.Machine

open Sys2Proof

set_option Elab.async false

theorem minOpt_eq_tighten (n : Nat) (limit : Option Nat) : minOpt n limit = tighten n limit := by
  cases limit <;> rfl

/-- The ceiling an object puts on a zone: its pace ceiling, where it counts in the zone. -/
def Object.ceilingIn (ob : Object) (z : ZoneId) : Option Nat := if ob.inZone z then ob.paceCeiling else none

theorem ceilingOf_eq_foldl (s : State) (z : ZoneId) :
    s.ceilingOf z = allObjects.foldl (fun c o => tighten c ((s.object o).ceilingIn z)) (s.zone z).eff.lux := by
  refine List.foldl_ext _ _ _ fun c o _ => ?_
  rw [Object.ceilingIn, minOpt_eq_tighten]
  split <;> rfl

/-- R71: only AHEAD and EXHAUSTED put a ceiling, and only on an object with a weight. -/
theorem Object.paceCeiling_eq_some {ob : Object} {x : Nat} : ob.paceCeiling = some x ↔
    0 < ob.cfg.w ∧ ((ob.pace = .ahead ∧ x = ob.cfg.restricted * 1000 / ob.cfg.w) ∨
      (ob.pace = .exhausted ∧ x = ob.cfg.exhausted * 1000 / ob.cfg.w)) := by
  unfold Object.paceCeiling conv
  split
  · next hw => cases ob.pace <;> simp [hw, eq_comm]
  · next hw => simp [hw]

theorem Object.ceilingIn_eq_some {ob : Object} {z : ZoneId} {x : Nat} : ob.ceilingIn z = some x ↔
    ob.cfg.use = true ∧ ob.cfg.zone = z ∧ 0 < ob.cfg.w ∧ ((ob.pace = .ahead ∧ x = ob.cfg.restricted * 1000 / ob.cfg.w) ∨
      (ob.pace = .exhausted ∧ x = ob.cfg.exhausted * 1000 / ob.cfg.w)) := by
  rw [← Object.paceCeiling_eq_some, ← and_assoc, ← Object.inZone_iff, Object.ceilingIn]
  split <;> simp_all

end Sys2Proof.Machine

open Sys2Proof Sys2Proof.Machine

set_option Elab.async false

/-- Settles O21: C is the envelope ceiling, tightened object by object. -/
theorem zoneCeilingIsTheLeast : Obligations.ZoneCeilingIsTheLeast := by
  intro s z
  have hfold := ceilingOf_eq_foldl s z
  obtain ⟨hbound, hputs, hattained⟩ := foldl_tighten (fun o => (s.object o).ceilingIn z) allObjects (s.zone z).eff.lux
  rw [← hfold] at hbound hputs hattained
  exact ⟨hbound, fun o x hx => hputs o (List.mem_finRange o) x (Object.ceilingIn_eq_some.mpr hx),
    hattained.imp_right fun ⟨o, _, ho⟩ => ⟨o, Object.ceilingIn_eq_some.mp ho⟩⟩

end

section
/-! ## Changes made object by object, and the pace state of R69 -/

namespace Sys2Proof.Machine

open Sys2Proof

set_option Elab.async false

theorem OtherObjects.trans {s t u : State} {o : ObjId} (h : OtherObjects s t o) (k : OtherObjects t u o) : OtherObjects s u o :=
  fun x hx => (k x hx).trans (h x hx)

/-- Objects come in turn, each once. -/
theorem allObjects_split (o : ObjId) : ∃ before after, allObjects = before ++ o :: after ∧ o ∉ before ∧ o ∉ after := by
  obtain ⟨before, after, hsplit⟩ := List.append_of_mem (List.mem_finRange o)
  have hnodup := hsplit ▸ List.nodup_finRange 32
  exact ⟨before, after, hsplit, fun h => (List.nodup_append.mp hnodup).2.2 o h o List.mem_cons_self rfl,
    (List.nodup_cons.mp (List.nodup_append.mp hnodup).2.1).1⟩

theorem foldl_object {f : ObjId → State → State} (hf : ∀ o s, OtherObjects s (f o s) o) {l : List ObjId} {o : ObjId}
    (hl : o ∉ l) (s : State) : (l.foldl (fun s x => f x s) s).object o = s.object o := by
  induction l generalizing s with
  | nil => rfl
  | cons x l ih =>
    rw [List.mem_cons, not_or] at hl
    exact (ih hl.2 _).trans (hf x s o hl.1)

/-- A change made object by object comes to each object in a state in which that object is as it was. -/
theorem forObjects_object {F : List Part} {f : ObjId → State → State} (htouch : ∀ o s, Touches F s (f o s))
    (hothers : ∀ o s, OtherObjects s (f o s) o) (s : State) (o : ObjId) :
    ∃ t, Touches F s t ∧ t.object o = s.object o ∧ (s.forObjects f).object o = (f o t).object o := by
  obtain ⟨before, after, hsplit, hbefore, hafter⟩ := allObjects_split o
  refine ⟨_, foldl_touches _ (fun s x => htouch x s) before s, foldl_object hothers hbefore s, ?_⟩
  rw [State.forObjects, hsplit, List.foldl_append, List.foldl_cons]
  exact foldl_object hothers hafter _

/-- The pace state of R69 rests on the object's configuration and account, the period and the clock. -/
theorem Touches.paceNow {F : List Part} {s t : State} (h : Touches F s t) (o : ObjId)
    (hF : ∀ k ∈ [Part.objCfg, .acct, .periodN, .periodStart, .clock], k ∉ F := by decide) : t.paceNow o = s.paceNow o := by
  have hn : t.periodN = s.periodN := h .periodN (hF _ (by decide))
  have hstart : t.periodStart = s.periodStart := h .periodStart (hF _ (by decide))
  have hclock : t.clock = s.clock := h .clock (hF _ (by decide))
  simp only [State.paceNow, State.elapsed, h.objectCfg o (hF _ (by decide)), h.objectAcct o (hF _ (by decide)), hn, hstart, hclock]

/-- An object's pace state is the one R69 gives it now. -/
def PaceAt (s : State) (o : ObjId) : Prop := (s.object o).pace = s.paceNow o

theorem PaceAt.of_touches {F : List Part} {s t : State} {o : ObjId} (c : PaceAt s o) (h : Touches F s t)
    (hF : ∀ k ∈ [Part.objCfg, .acct, .pace, .periodN, .periodStart, .clock], k ∉ F := by decide) : PaceAt t o := by
  unfold PaceAt
  rw [h.objectPace o (hF _ (by decide)), h.paceNow o fun k hk => hF k (by revert hk; cases k <;> decide)]
  exact c

end Sys2Proof.Machine
end

section
/-! ## The dose accounts at start-up (R67, R68) -/

namespace Sys2Proof.Machine

open Sys2Proof

set_option Elab.async false

/-- The account of an object after the restore charge, where `on` says which zones are ON (R67). -/
def restoredAccount (d : DoseImage) (secs : Nat) (on : ZoneId → Bool) (c : ObjConf) (a : Account) : Account :=
  if c.use = true ∧ on c.zone = true then a.charge (secs * faceLux d.ceilings[c.zone] c.w) else a

/-- The zones that are ON. -/
def State.zonesOn (s : State) (z : ZoneId) : Bool := (s.zone z).cfg.use

theorem zonesOn_congr {s t : State} (h : ∀ z, (t.zone z).cfg = (s.zone z).cfg) : t.zonesOn = s.zonesOn :=
  funext fun z => congrArg ZoneRec.use (h z)

theorem restore_acct (s : State) (d : DoseImage) (secs : Nat) (o : ObjId) :
    ((s.restore d secs o).object o).acct = restoredAccount d secs s.zonesOn (s.object o).cfg (s.object o).acct := by
  unfold State.restore restoredAccount State.zonesOn
  simp only [← Bool.and_eq_true]
  split
  · rw [State.object_modObject_self]
  · rfl

theorem restore_otherObjects (s : State) (d : DoseImage) (secs : Nat) (o : ObjId) : OtherObjects s (s.restore d secs o) o := by
  intro x hx
  unfold State.restore
  dsimp only
  split
  · exact State.object_modObject_ne s _ hx
  · rfl

theorem startEnvelopes_touches (s : State) :
    Touches [.eff, .conflict, .sticky] s (s.forZones fun z s => s.startEnvelope z) :=
  forZones_touches s _ fun z s => startEnvelope_touches s z

/-- What start-up evaluates once the accounts stand. -/
def State.startEvaluations (s : State) : State := (s.forObjects fun o s => s.startPace o).forZones fun z s => s.startCeiling z

theorem startEvaluations_touches (s : State) : Touches [.pace, .ceiling] s s.startEvaluations :=
  ((startPaces_touches s).mono (by decide)).then_mono (startCeilings_touches _) (by decide)

theorem startPace_paceAt (s : State) (o : ObjId) : PaceAt (s.startPace o) o := by
  have htouch : Touches [.pace] s (s.startPace o) := modObject_touches s o _
  unfold PaceAt
  rw [htouch.paceNow o]
  unfold State.startPace
  rw [State.object_modObject_self]

theorem PaceAt.of_startPace {s : State} {x : ObjId} (c : PaceAt s x) (o : ObjId) : PaceAt (s.startPace o) x := by
  by_cases hx : x = o
  · subst hx; exact startPace_paceAt s x
  · have htouch : Touches [.pace] s (s.startPace o) := modObject_touches s o _
    unfold PaceAt
    rw [htouch.paceNow x, State.startPace, State.object_modObject_ne s _ hx]
    exact c

theorem startEvaluations_paceCurrent (s : State) : PaceCurrent s.startEvaluations := fun o =>
  (forObjects_each s (fun o s => s.startPace o) (fun o t => PaceAt t o) (fun o t => startPace_paceAt t o)
    (fun o _ _ h => h.of_startPace o) o).of_touches (startCeilings_touches _)

/-- The restore charge of every object (R67). -/
def State.restoreAll (s : State) (d : DoseImage) (lost : Bool) : State :=
  s.forObjects fun o t => t.restore d (restoreSeconds lost d.checkpoint t.clock) o

theorem restoreAll_touches (s : State) (d : DoseImage) (lost : Bool) : Touches [.acct] s (s.restoreAll d lost) :=
  forObjects_touches s _ fun o t => restore_touches t d _ o

theorem evaluateStart_none (s : State) (lost : Bool) :
    s.evaluateStart none lost = (s.forZones fun z s => s.startEnvelope z).startEvaluations := by
  simp only [State.evaluateStart, State.startEvaluations]

theorem evaluateStart_some (s : State) (d : DoseImage) (lost : Bool) :
    s.evaluateStart (some d) lost = ((s.forZones fun z s => s.startEnvelope z).restoreAll d lost).startEvaluations := by
  simp only [State.evaluateStart, State.startEvaluations, State.restoreAll]

/-- What step 5 of start-up writes (R189). -/
abbrev startParts : List Part := [.eff, .conflict, .sticky, .acct, .pace, .ceiling]

theorem evaluateStart_touches (s : State) (dose : Option DoseImage) (lost : Bool) :
    Touches startParts s (s.evaluateStart dose lost) := by
  have henv := (startEnvelopes_touches s).mono (by decide : _ ⊆ startParts)
  cases dose with
  | none =>
    rw [evaluateStart_none]
    exact henv.then_mono (startEvaluations_touches _) (by decide)
  | some d =>
    rw [evaluateStart_some]
    exact (henv.then_mono (restoreAll_touches _ d lost) (by decide)).then_mono (startEvaluations_touches _) (by decide)

theorem evaluateStart_paceCurrent (s : State) (dose : Option DoseImage) (lost : Bool) : PaceCurrent (s.evaluateStart dose lost) := by
  cases dose with
  | none =>
    rw [evaluateStart_none]
    exact startEvaluations_paceCurrent _
  | some d =>
    rw [evaluateStart_some]
    exact startEvaluations_paceCurrent _

theorem evaluateStart_none_acct (s : State) (lost : Bool) (o : ObjId) :
    ((s.evaluateStart none lost).object o).acct = (s.object o).acct := by
  rw [evaluateStart_none, (startEvaluations_touches _).objectAcct o, (startEnvelopes_touches s).objectAcct o]

theorem restoreAll_acct (s : State) (d : DoseImage) (lost : Bool) (o : ObjId) :
    ((s.restoreAll d lost).object o).acct = restoredAccount d (restoreSeconds lost d.checkpoint s.clock) s.zonesOn
      (s.object o).cfg (s.object o).acct := by
  obtain ⟨t, htouch, hobject, hrestored⟩ := forObjects_object
    (fun o t => restore_touches t d (restoreSeconds lost d.checkpoint t.clock) o)
    (fun o t => restore_otherObjects t d (restoreSeconds lost d.checkpoint t.clock) o) s o
  have hclock : t.clock = s.clock := htouch .clock (by decide)
  rw [State.restoreAll, hrestored, restore_acct, zonesOn_congr (s := s) fun z => htouch.zoneCfg z, hobject, hclock]

/-- R67: each ON object of an ON zone takes the restore charge. -/
theorem evaluateStart_some_acct (s : State) (d : DoseImage) (lost : Bool) (o : ObjId) :
    ((s.evaluateStart (some d) lost).object o).acct = restoredAccount d (restoreSeconds lost d.checkpoint s.clock) s.zonesOn
      (s.object o).cfg (s.object o).acct := by
  have henv := startEnvelopes_touches s
  have hclock : (s.forZones fun z s => s.startEnvelope z).clock = s.clock := henv .clock (by decide)
  rw [evaluateStart_some, (startEvaluations_touches _).objectAcct o, restoreAll_acct, henv.object,
    zonesOn_congr (s := s) fun z => henv.zoneCfg z, hclock]

theorem startUp_reported (s : State) (straps : Straps) (running : GTime) (flag lost byPin : Bool) :
    Reported ((s.loaded straps (s.store.config.getD (defaultConfig straps.roles)) s.store.dose
      (startClock lost s.store.dose running) (flag || lost)).evaluateStart s.store.dose lost)
      (s.startUp straps running flag lost byPin) := by
  unfold State.startUp
  dsimp only
  split
  · exact (offer_reported _ _).trans (pendWhere_reported _ _ _)
  · exact offer_reported _ _

/-- Both commands that start the part run `State.startUp`. -/
theorem exec_startsUp {c : Instr} {straps : Straps} {lost : Bool} (h : StartsUp c straps lost) (s : State) :
    ∃ running byPin, exec c s = .next (s.startUp straps running s.clockLost lost byPin) := by
  rcases h with ⟨rfl, rfl⟩ | ⟨kept, rfl, rfl⟩
  · exact ⟨s.clock, true, rfl⟩
  · cases kept with
    | none => exact ⟨s.clock, false, rfl⟩
    | some n => exact ⟨s.clock.runOn n, false, rfl⟩

theorem loaded_object (s : State) (straps : Straps) (cfg : ConfigImage) (dose : Option DoseImage) (t : GTime) (flag : Bool)
    (o : ObjId) : (s.loaded straps cfg dose t flag).object o =
      { cfg := cfg.objects[o], acct := startAccount cfg.objects[o] (dose.map fun d => d.accounts[o]), pace := .onPace } := by
  simp only [State.object, State.loaded, Fin.getElem_fin, Vector.getElem_ofFn]

theorem restoreSeconds_eq (lost : Bool) (checkpoint now : GTime) : restoreSeconds lost checkpoint now =
    if lost = false ∧ checkpoint.notAfter now = true then min 900 (now.since checkpoint) else 900 := by
  simp only [restoreSeconds, Bool.and_eq_true, Bool.not_eq_true']

/-- What start-up leaves of the dose accounts, from the part as it was loaded: accounts and period as loaded, with the restore
charge, and every pace state evaluated (R67, R68). -/
structure DoseStarted (dose : Option DoseImage) (lost : Bool) (u t : State) : Prop where
  loaded  : ∀ o, (u.object o).acct = startAccount (u.object o).cfg (dose.map fun d => d.accounts[o])
  period  : t.periodStart = startPeriod dose t.clock
  acct    : ∀ o, (t.object o).acct = ((u.evaluateStart dose lost).object o).acct
  pace    : PaceCurrent t
  zoneCfg : ∀ z, (t.zone z).cfg = (u.zone z).cfg
  objCfg  : ∀ o, (t.object o).cfg = (u.object o).cfg
  clock   : t.clock = u.clock

theorem startUp_doseStarted (s : State) (straps : Straps) (running : GTime) (flag lost byPin : Bool) :
    DoseStarted s.store.dose lost (s.loaded straps (s.store.config.getD (defaultConfig straps.roles)) s.store.dose
      (startClock lost s.store.dose running) (flag || lost)) (s.startUp straps running flag lost byPin) := by
  have hreported := startUp_reported s straps running flag lost byPin
  generalize s.startUp straps running flag lost byPin = t at hreported
  generalize s.store.config.getD (defaultConfig straps.roles) = cfg at hreported ⊢
  have hloaded := loaded_object s straps cfg s.store.dose (startClock lost s.store.dose running) (flag || lost)
  have hperiod : (s.loaded straps cfg s.store.dose (startClock lost s.store.dose running) (flag || lost)).periodStart =
    startPeriod s.store.dose (s.loaded straps cfg s.store.dose (startClock lost s.store.dose running) (flag || lost)).clock := rfl
  generalize s.loaded straps cfg s.store.dose (startClock lost s.store.dose running) (flag || lost) = u at hreported hloaded hperiod ⊢
  have hstart := evaluateStart_touches u s.store.dose lost
  have hclock : t.clock = u.clock := hreported.clock.trans (hstart .clock (by decide))
  refine ⟨fun o => ?_, ?_, fun o => by rw [hreported.object], fun o => ?_, fun z => ?_, fun o => ?_, hclock⟩
  · rw [hloaded]
  · rw [hclock, hreported.periodStart, ← hperiod]
    exact hstart .periodStart (by decide)
  · exact PaceAt.of_touches (evaluateStart_paceCurrent u s.store.dose lost o) hreported.touches
  · rw [hreported.zone, hstart.zoneCfg]
  · rw [hreported.object, hstart.objectCfg]

theorem DoseStarted.restored {d : DoseImage} {lost : Bool} {u t : State} (h : DoseStarted (some d) lost u t) (o : ObjId) :
    (t.object o).acct = restoredAccount d (restoreSeconds lost d.checkpoint t.clock) t.zonesOn (t.object o).cfg d.accounts[o] := by
  rw [h.acct, evaluateStart_some_acct, h.objCfg, zonesOn_congr h.zoneCfg, h.clock, h.loaded]
  rfl

/-- R68: an account at the allowance is EXHAUSTED. -/
theorem DoseStarted.rejected {lost : Bool} {u t : State} (h : DoseStarted none lost u t) (o : ObjId) :
    (t.object o).acct = { consumed := (t.object o).cfg.allowance, frac := 0, previous := 0 } ∧ (t.object o).pace = .exhausted := by
  have hacct : (t.object o).acct = { consumed := (t.object o).cfg.allowance, frac := 0, previous := 0 } := by
    rw [h.acct, evaluateStart_none_acct, h.loaded, h.objCfg]
    rfl
  refine ⟨hacct, (h.pace o).trans ((paceFor_exhausted _ _ _ _ _).mpr ?_)⟩
  rw [hacct]

end Sys2Proof.Machine

open Sys2Proof Sys2Proof.Machine

set_option Elab.async false

/-- Settles O5: start-up evaluates the part as it was loaded, and what it then reports changes none of it. -/
theorem startUpRestoresDose : Obligations.StartUpRestoresDose := by
  intro c straps lost s hc
  obtain ⟨running, byPin, hexec⟩ := exec_startsUp hc s
  have hdose := startUp_doseStarted s straps running s.clockLost lost byPin
  have hceiling := (current_startUp s straps running s.clockLost lost byPin).ceiling
  refine ⟨_, hexec, fun d hd => ?_, fun hd => ?_, hdose.pace, hceiling⟩
  · rw [hd] at hdose
    simp only [← restoreSeconds_eq]
    exact ⟨hdose.period, hdose.restored⟩
  · rw [hd] at hdose
    exact ⟨hdose.period, hdose.rejected⟩

end

section
/-! ## The light prediction and its clamps (R57 to R61) -/

namespace Sys2Proof.Machine

open Sys2Proof

set_option Elab.async false

/-! ### Conditions raised by a test -/

theorem hasCond_condIf (b : Bool) (k c : Condition) : hasCond (condIf b k) c = (b && decide (c = k)) := by
  cases b
  · exact BitVec.getLsbD_zero
  · exact hasCond_condBit k c

theorem hasCond_heldCond (inp : LightInput) (c : Condition) :
    hasCond inp.heldCond c = (decide (inp.d0Status ≠ .known) && decide (c = .daylightHeld)) := by
  rw [LightInput.heldCond, hasCond_condIf]
  cases inp.d0Status <;> rfl

/-! ### LIGHT (R58) -/

section

variable {inp : LightInput} {s req l : Nat}

theorem epred_zero (inp : LightInput) (s : Nat) : inp.epred 0 s = inp.dpart s := by
  simp only [LightInput.epred, LightInput.epart, Nat.zero_mul, Nat.zero_div, Nat.add_zero]

theorem dpart_le_epred (inp : LightInput) (l s : Nat) : inp.dpart s ≤ inp.epred l s := Nat.le_add_right _ _

theorem largestLevel_eq_some (h : inp.largestLevel s req = some l) :
    l ≤ req ∧ inp.epred l s ≤ inp.ceiling ∧ ∀ x, x ≤ req → inp.epred x s ≤ inp.ceiling → x ≤ l := by
  induction req with
  | zero =>
    unfold LightInput.largestLevel at h
    split at h
    · next hunder =>
      cases h
      exact ⟨le_rfl, hunder, fun x hx _ => hx⟩
    · cases h
  | succ req ih =>
    unfold LightInput.largestLevel at h
    split at h
    · next hunder =>
      cases h
      exact ⟨le_rfl, hunder, fun x hx _ => hx⟩
    · next hover =>
      obtain ⟨hle, hunder, hlargest⟩ := ih h
      refine ⟨Nat.le_succ_of_le hle, hunder, fun x hx hxunder => hlargest x ?_ hxunder⟩
      exact Nat.le_of_lt_succ (lt_of_le_of_ne hx fun e => hover (by rwa [e] at hxunder))

/-- A level is found wherever daylight alone keeps under C, level 0 being the last one tried. -/
theorem largestLevel_isSome (h : inp.dpart s ≤ inp.ceiling) (req : Nat) : (inp.largestLevel s req).isSome = true := by
  induction req with
  | zero =>
    unfold LightInput.largestLevel
    rw [if_pos ((epred_zero inp s).trans_le h)]
    rfl
  | succ req ih =>
    unfold LightInput.largestLevel
    split
    · rfl
    · exact ih

/-- R58: daylight alone over the ceiling. -/
theorem lightClamp_dark (h : inp.ceiling < inp.dpart s) (req : Nat) : inp.lightClamp s req = (0, true) := by
  unfold LightInput.lightClamp
  cases hlevel : inp.largestLevel s req with
  | none => rfl
  | some l =>
    obtain ⟨-, hunder, -⟩ := largestLevel_eq_some hlevel
    exact absurd ((dpart_le_epred inp l s).trans hunder) h.not_ge

/-- What the LIGHT clamp gives where daylight alone is not over the ceiling (R58). -/
structure LightClamped (inp : LightInput) (s req : Nat) (r : Nat × Bool) : Prop where
  lit     : r.2 = false
  le      : r.1 ≤ req
  under   : inp.epred r.1 s ≤ inp.ceiling
  largest : ∀ l, l ≤ req → inp.epred l s ≤ inp.ceiling → l ≤ r.1

theorem lightClamp_lit (h : inp.dpart s ≤ inp.ceiling) (req : Nat) : LightClamped inp s req (inp.lightClamp s req) := by
  obtain ⟨l, hlevel⟩ := Option.isSome_iff_exists.mp (largestLevel_isSome h req)
  obtain ⟨hle, hunder, hlargest⟩ := largestLevel_eq_some hlevel
  unfold LightInput.lightClamp
  rw [hlevel]
  exact ⟨rfl, hle, hunder, hlargest⟩

theorem lightClamp_le (inp : LightInput) (s req : Nat) : (inp.lightClamp s req).1 ≤ req := by
  obtain h | h := le_or_gt (inp.dpart s) inp.ceiling
  · exact (lightClamp_lit h req).le
  · rw [lightClamp_dark h]
    exact Nat.zero_le req

theorem lightClamp_over (inp : LightInput) (s req : Nat) :
    (inp.lightClamp s req).2 = decide (inp.ceiling < inp.dpart s) := by
  obtain h | h := le_or_gt (inp.dpart s) inp.ceiling
  · rw [(lightClamp_lit h req).lit, decide_eq_false h.not_gt]
  · rw [lightClamp_dark h, decide_eq_true h]

theorem lightClamp_safe (inp : LightInput) (s req : Nat) :
    (inp.lightClamp s req).1 = 0 ∨ inp.epred (inp.lightClamp s req).1 s ≤ inp.ceiling := by
  obtain h | h := le_or_gt (inp.dpart s) inp.ceiling
  · exact .inr (lightClamp_lit h req).under
  · exact .inl (by rw [lightClamp_dark h])

/-- R58: the levels that keep under the ceiling are those up to the quotient of its closed form. -/
theorem epred_le_iff (h : inp.dpart s ≤ inp.ceiling) (hfull : 0 < inp.eFull) :
    inp.epred l s ≤ inp.ceiling ↔ l ≤ ((inp.ceiling - inp.dpart s + 1) * 1000 - 1) / inp.eFull := by
  rw [Nat.le_div_iff_mul_le hfull, LightInput.epred, LightInput.epart]
  generalize l * inp.eFull = e
  omega

theorem LightClamped.closed {r : Nat × Bool} (h : LightClamped inp s req r) (hday : inp.dpart s ≤ inp.ceiling)
    (hfull : 0 < inp.eFull) : r.1 = min req (((inp.ceiling - inp.dpart s + 1) * 1000 - 1) / inp.eFull) :=
  le_antisymm (le_min h.le ((epred_le_iff hday hfull).mp h.under))
    (h.largest _ (min_le_left _ _) ((epred_le_iff hday hfull).mpr (min_le_right _ _)))

theorem LightClamped.unlit {r : Nat × Bool} (h : LightClamped inp s req r) (hday : inp.dpart s ≤ inp.ceiling)
    (hfull : inp.eFull = 0) : r.1 = req :=
  le_antisymm h.le (h.largest req le_rfl (by
    rw [LightInput.epred, LightInput.epart, hfull, Nat.mul_zero, Nat.zero_div]
    exact hday))

end

/-! ### SHADE (R59, R60) -/

section

variable {inp : LightInput} {dmax s n : Nat}

theorem smallestShade_eq_some {x : Nat} (h : inp.smallestShade dmax s n = some x) :
    s ≤ x ∧ x ≤ s + n ∧ inp.dpart x ≤ dmax ∧ ∀ y, s ≤ y → y < x → dmax < inp.dpart y := by
  induction n generalizing s with
  | zero =>
    unfold LightInput.smallestShade at h
    split at h
    · next hunder =>
      cases h
      exact ⟨le_rfl, le_rfl, hunder, fun y hy hyx => absurd hyx hy.not_gt⟩
    · cases h
  | succ n ih =>
    unfold LightInput.smallestShade at h
    split at h
    · next hunder =>
      cases h
      exact ⟨le_rfl, Nat.le_add_right _ _, hunder, fun y hy hyx => absurd hyx hy.not_gt⟩
    · next hover =>
      obtain ⟨hge, hle, hunder, hsmallest⟩ := ih h
      refine ⟨by omega, by omega, hunder, fun y hy hyx => ?_⟩
      obtain rfl | hy := hy.eq_or_lt
      · exact Nat.lt_of_not_le hover
      · exact hsmallest y hy hyx

theorem smallestShade_eq_none (h : inp.smallestShade dmax s n = none) (y : Nat) (hge : s ≤ y) (hle : y ≤ s + n) :
    dmax < inp.dpart y := by
  induction n generalizing s with
  | zero =>
    unfold LightInput.smallestShade at h
    split at h
    · cases h
    · next hover =>
      obtain rfl : y = s := by omega
      exact Nat.lt_of_not_le hover
  | succ n ih =>
    unfold LightInput.smallestShade at h
    split at h
    · cases h
    · next hover =>
      obtain rfl | hge := hge.eq_or_lt
      · exact Nat.lt_of_not_le hover
      · exact ih h hge (by omega)

end

/-- What the SHADE clamp gives for a blind that is not clear: the smallest position not below the request that keeps daylight and
`e` lux of electric light under the ceiling, or 100 with the flag (R59). -/
structure ShadeClamped (inp : LightInput) (e q : Nat) (r : Nat × Bool) : Prop where
  ge       : q ≤ r.1
  le       : r.1 ≤ 100
  under    : r.1 < 100 → inp.dpart r.1 + e ≤ inp.ceiling
  smallest : ∀ x, q ≤ x → x < r.1 → inp.ceiling < inp.dpart x + e
  raises   : r.2 = true ↔ ∀ x, q ≤ x → x ≤ 100 → inp.ceiling < inp.dpart x + e

section

variable {inp : LightInput} {l q : Nat}

/-- No position keeps under the ceiling: the blind closes. -/
theorem shadeClamped_closed {e : Nat} (hq : q ≤ 100) (h : ∀ x, q ≤ x → x ≤ 100 → inp.ceiling < inp.dpart x + e) :
    ShadeClamped inp e q (100, true) :=
  ⟨hq, le_rfl, fun h => absurd h (lt_irrefl _), fun x hge hlt => h x hge hlt.le, ⟨fun _ => h, fun _ => rfl⟩⟩

theorem shadeClampKnown_clamped (hclear : inp.tc ≠ 1000) (hq : q ≤ 100) :
    ShadeClamped inp (inp.epart l) q (inp.shadeClampKnown l q) := by
  unfold LightInput.shadeClampKnown
  rw [if_neg hclear]
  split
  · next hlight => exact shadeClamped_closed hq fun x _ _ => by omega
  · next hlight =>
    cases hshade : inp.smallestShade (inp.ceiling - inp.epart l) q (100 - q) with
    | none =>
      refine shadeClamped_closed hq fun x hge hle => ?_
      have := smallestShade_eq_none hshade x hge (by omega)
      omega
    | some x =>
      obtain ⟨hge, hle, hunder, hsmallest⟩ := smallestShade_eq_some hshade
      refine ⟨hge, by dsimp only; omega, fun _ => by dsimp only; omega, fun y hy hyx => ?_,
        ⟨fun h => absurd h Bool.false_ne_true, fun h => ?_⟩⟩
      · have := hsmallest y hy hyx
        omega
      · have := h x hge (by omega)
        omega

theorem shadeClampKnown_clear (hclear : inp.tc = 1000) (l q : Nat) :
    inp.shadeClampKnown l q = (q, decide (inp.ceiling < inp.dpart q + inp.epart l)) := if_pos hclear

theorem shadeClamp_known (h : inp.d0Status ≠ .unknown) (l q : Nat) : inp.shadeClamp l q = inp.shadeClampKnown l q := by
  unfold LightInput.shadeClamp
  cases hstatus : inp.d0Status with
  | known => rfl
  | held => rfl
  | unknown => exact absurd hstatus h

/-- R60: the probe step. -/
theorem shadeClamp_unknown (h : inp.d0Status = .unknown) (l q : Nat) : inp.shadeClamp l q =
    if inp.ceiling < inp.d.getD 0 + inp.epart l then (100, true) else (max q (inp.shadeNow - 10), false) := by
  unfold LightInput.shadeClamp LightInput.shadeProbe
  rw [h, Nat.add_comm]

theorem shadeClamp_over (hq : q ≤ 100) : (inp.shadeClamp l q).2 = true ↔
    (inp.d0Status = .unknown ∧ inp.ceiling < inp.d.getD 0 + inp.epart l) ∨
      (inp.d0Status ≠ .unknown ∧ inp.tc = 1000 ∧ inp.ceiling < inp.dpart q + inp.epart l) ∨
      (inp.d0Status ≠ .unknown ∧ inp.tc ≠ 1000 ∧ ∀ x, q ≤ x → x ≤ 100 → inp.ceiling < inp.dpart x + inp.epart l) := by
  by_cases hstatus : inp.d0Status = .unknown
  · rw [shadeClamp_unknown hstatus]
    split <;> simp_all
  · rw [shadeClamp_known hstatus]
    by_cases hclear : inp.tc = 1000
    · rw [shadeClampKnown_clear hclear]
      simp [hstatus, hclear]
    · rw [(shadeClampKnown_clamped hclear hq).raises]
      simp [hstatus, hclear]

end

/-! ### A light candidate (R61) -/

section

variable (inp : LightInput) (light shade : Option Nat)

theorem run_shade : (inp.run light shade).shade = shade.map fun q => (inp.shadeClamp (light.getD inp.light) q).1 := by
  cases shade <;> rfl

/-- The position at which LIGHT is clamped. -/
theorem run_light : (inp.run light shade).light =
    light.map fun l => (inp.lightClamp ((inp.run light shade).shade.getD inp.shade) l).1 := by
  cases light <;> cases shade <;> rfl

theorem run_conds : (inp.run light shade).conds =
    condIf ((inp.run light shade).light != light) .clampLight |||
      condIf ((inp.run light shade).shade != shade) .clampShade |||
      condIf ((shade.any fun q => (inp.shadeClamp (light.getD inp.light) q).2) ||
        light.any fun l => (inp.lightClamp ((inp.run light shade).shade.getD inp.shade) l).2) .daylightOver |||
      inp.heldCond := by
  cases light <;> cases shade <;> rfl

theorem run_clampLight : hasCond (inp.run light shade).conds .clampLight = true ↔ (inp.run light shade).light ≠ light := by
  simp [run_conds, hasCond_or, hasCond_condIf, hasCond_heldCond]

theorem run_clampShade : hasCond (inp.run light shade).conds .clampShade = true ↔ (inp.run light shade).shade ≠ shade := by
  simp [run_conds, hasCond_or, hasCond_condIf, hasCond_heldCond]

theorem run_daylightHeld : hasCond (inp.run light shade).conds .daylightHeld = true ↔ inp.d0Status ≠ .known := by
  simp [run_conds, hasCond_or, hasCond_condIf, hasCond_heldCond]

theorem run_daylightOver : hasCond (inp.run light shade).conds .daylightOver = true ↔
    (∃ q, shade = some q ∧ (inp.shadeClamp (light.getD inp.light) q).2 = true) ∨
      (light.isSome = true ∧ inp.ceiling < inp.dpart ((inp.run light shade).shade.getD inp.shade)) := by
  have hbit : hasCond (inp.run light shade).conds .daylightOver =
      ((shade.any fun q => (inp.shadeClamp (light.getD inp.light) q).2) ||
        light.any fun l => (inp.lightClamp ((inp.run light shade).shade.getD inp.shade) l).2) := by
    simp [run_conds, hasCond_or, hasCond_condIf, hasCond_heldCond]
  simp only [hbit, lightClamp_over, Bool.or_eq_true, Option.any_eq_true]
  refine or_congr_right ?_
  cases light <;> simp

variable {inp light shade}

theorem run_shade_known {q q' : Nat} (hstatus : inp.d0Status ≠ .unknown) (hclear : inp.tc ≠ 1000) (hq : q ≤ 100)
    (h : (inp.run light (some q)).shade = some q') :
    ∃ flag, ShadeClamped inp (inp.epart (light.getD inp.light)) q (q', flag) := by
  rw [run_shade, Option.map_some, shadeClamp_known hstatus] at h
  have hclamped := shadeClampKnown_clamped (l := light.getD inp.light) hclear hq
  obtain rfl := Option.some.inj h
  exact ⟨_, hclamped⟩

end

end Sys2Proof.Machine

open Sys2Proof Sys2Proof.Machine

set_option Elab.async false

/-- Settles O26: SHADE is clamped first, by R59 or R60, and LIGHT at the position that leaves. -/
theorem lightClampsStayUnderCeiling : Obligations.LightClampsStayUnderCeiling := by
  refine ⟨fun inp s req => ⟨fun hday => ?_, fun hover => lightClamp_dark hover req⟩, fun inp light shade => ?_⟩
  · have hclamp := lightClamp_lit hday req
    exact ⟨hclamp.lit, hclamp.le, hclamp.under, hclamp.largest, hclamp.closed hday, hclamp.unlit hday⟩
  · refine ⟨fun l hl => ?_, fun l l' hl hl' => ?_, fun q q' hstatus hclear hshade hq hq' => ?_,
      fun q hstatus hclear hshade => ?_, fun q hstatus hshade => ?_, fun hrange => ?_, run_clampLight inp light shade,
      run_clampShade inp light shade, run_daylightHeld inp light shade⟩
    · rw [run_light] at hl
      obtain ⟨req, -, rfl⟩ := Option.map_eq_some_iff.mp hl
      exact lightClamp_safe inp _ req
    · rw [run_light, hl] at hl'
      obtain rfl := Option.some.inj hl'
      exact lightClamp_le inp _ l
    · subst hshade
      obtain ⟨_, hclamped⟩ := run_shade_known hstatus hclear hq hq'
      exact ⟨hclamped.ge, hclamped.le, hclamped.under, hclamped.smallest⟩
    · rw [run_shade, hshade, Option.map_some, shadeClamp_known hstatus, shadeClampKnown_clear hclear]
    · rw [run_shade, hshade, Option.map_some, shadeClamp_unknown hstatus]
      split <;> rfl
    · rw [run_daylightOver]
      exact or_congr_left (exists_congr fun q => and_congr_right fun hq => shadeClamp_over (hrange q hq))

end

section
/-! ## The records a change appends (R162, R163) -/

namespace Sys2Proof.Machine

open Sys2Proof

set_option Elab.async false

/-- The records appended from `s` to `t`, if a port is subscribed, are `new`; whatever room needs dropping comes off the oldest
records first (R163). -/
structure Logs (s t : State) (new : List Record) : Prop where
  subscribed : t.anySubscribed = s.anySubscribed
  records    : s.anySubscribed = true → ∀ old kept, s.records = old ++ kept → totalSize kept + totalSize new ≤ queueCapacity →
    ∃ k, t.records = old.drop k ++ (kept ++ new)

namespace Logs

variable {s t u : State} {new more : List Record}

/-- A change that appends nothing. -/
theorem of_same (hsubscribed : t.anySubscribed = s.anySubscribed) (hrecords : t.records = s.records) : Logs s t [] :=
  ⟨hsubscribed, fun _ old kept h _ => ⟨0, by rw [hrecords, h, List.drop_zero, List.append_nil]⟩⟩

theorem of_touches {F : List Part} {B : List AttnBit} (h : Touches F s t) (r : Raises B s t)
    (hF : Part.records ∉ F := by decide) : Logs s t [] := .of_same r.anySubscribed (h .records hF)

theorem refl (s : State) : Logs s s [] := .of_same rfl rfl

theorem trans (h : Logs s t new) (k : Logs t u more) : Logs s u (new ++ more) where
  subscribed := k.subscribed.trans h.subscribed
  records hs old kept hold hsize := by
    rw [totalSize_append] at hsize
    obtain ⟨i, hi⟩ := h.records hs old kept hold (by omega)
    obtain ⟨j, hj⟩ := k.records (h.subscribed.trans hs) (old.drop i) (kept ++ new) hi (by rw [totalSize_append]; omega)
    exact ⟨i + j, by rw [hj, List.drop_drop, List.append_assoc]⟩

/-- An offered record is appended, and the newest records for which the queue has room stay before it. -/
theorem offer (s : State) (r : Record) : Logs s (s.offer r) [r] where
  subscribed := (offer_raises s r).anySubscribed
  records hs old kept hold hsize := by
    have hsize : totalSize kept ≤ queueCapacity - recordSize r := by
      simp only [totalSize] at hsize
      omega
    refine ⟨dropCount (queueCapacity - recordSize r) (old ++ kept), ?_⟩
    unfold State.offer
    rw [if_pos hs, append_records, makeRoom_records, hold, List.drop_append_of_le_length (dropCount_append_le hsize old),
      List.append_assoc]

theorem reportsAll (h : Logs s t new) (hsize : totalSize new ≤ queueCapacity) : ReportsAll s t new := fun hs => by
  obtain ⟨k, hk⟩ := h.records hs s.records [] (List.append_nil _).symm (by simpa only [totalSize, Nat.zero_add] using hsize)
  exact ⟨s.records.drop k, hk⟩

end Logs

/-- Among the records appended from `s` to `t`, which take at most `budget` bytes, those that pass `test` are `rs`. -/
def LogsOf (test : Record → Bool) (budget : Nat) (s t : State) (rs : List Record) : Prop :=
  ∃ new, Logs s t new ∧ totalSize new ≤ budget ∧ new.filter test = rs

namespace LogsOf

variable {test : Record → Bool} {m n : Nat} {s t u : State} {rs rs' : List Record}

theorem of_logs {new : List Record} (h : Logs s t new) (hsize : totalSize new ≤ n) : LogsOf test n s t (new.filter test) :=
  ⟨new, h, hsize, rfl⟩

theorem of_silent (h : Logs s t []) (n : Nat) : LogsOf test n s t [] := ⟨[], h, Nat.zero_le n, rfl⟩

theorem refl (n : Nat) (s : State) : LogsOf test n s s [] := .of_silent (.refl s) n

theorem trans (h : LogsOf test m s t rs) (k : LogsOf test n t u rs') : LogsOf test (m + n) s u (rs ++ rs') := by
  obtain ⟨new, hlogs, hsize, rfl⟩ := h
  obtain ⟨more, klogs, ksize, rfl⟩ := k
  exact ⟨new ++ more, hlogs.trans klogs, by rw [totalSize_append]; omega, List.filter_append ..⟩

theorem mono (h : LogsOf test m s t rs) (hn : m ≤ n) : LogsOf test n s t rs := by
  obtain ⟨new, hlogs, hsize, hrs⟩ := h
  exact ⟨new, hlogs, hsize.trans hn, hrs⟩

theorem recordsOf (h : LogsOf test n s t rs) (hn : n ≤ queueCapacity) : RecordsOf test s t rs := fun hs => by
  obtain ⟨new, hlogs, hsize, hrs⟩ := h
  obtain ⟨k, hk⟩ := hlogs.records hs s.records [] (List.append_nil _).symm (by rw [totalSize]; omega)
  exact ⟨k, new, hk, hrs⟩

end LogsOf

/-! ### The records of an evaluation, a grant and a pace state -/

/-- A GRANT record. -/
def Record.isGrant : Record → Bool
  | .grant .. => true
  | _ => false

theorem addSticky_records (s : State) (z : ZoneId) (c : Condition) : (s.addSticky z c).records = s.records := by
  unfold State.addSticky
  split
  · rfl
  · exact pendWhere_records _ _ _

theorem addStickySet_records (s : State) (z : ZoneId) (cs : CondSet) : (s.addStickySet z cs).records = s.records :=
  foldl_keeps _ (fun t => t.records = s.records) (fun t c ht => by
    split
    · exact (addSticky_records t z c).trans ht
    · exact ht) _ s rfl

theorem recordEvaluation_logs (s : State) (z : ZoneId) (cs : CondSet) : Logs s (s.recordEvaluation z cs) [] :=
  .of_same (recordEvaluation_raises s z cs).anySubscribed (addStickySet_records _ z cs)

theorem grant_logs (s : State) (port : Option PortId) (z : ZoneId) (ch : ChanKind) (r : Option Int) (v : Int) (c : Bool) :
    Logs s (s.grant port z ch r v c) [.grant s.clock port z ch r v c] := by
  have hhanded : Touches [.granted, .delivery, .commands] s
      ((s.modChan z ch fun c => { c with granted := some v }).handToLoop z ch v) :=
    Touches.then_mono (modChan_touches s z ch _) (handToLoop_touches _ z ch v) (by decide)
  have hclock : ((s.modChan z ch fun c => { c with granted := some v }).handToLoop z ch v).clock = s.clock :=
    hhanded .clock (by decide)
  have hsilent := Logs.of_touches hhanded (B := []) (.of_ports _ (handToLoop_ports _ z ch v))
  rw [← hclock]
  exact hsilent.trans (.offer _ _)

/-- Ceiling follow appends at most a GRANT record (R95, R96). -/
theorem ceilingFollow_logs (s : State) (z : ZoneId) (old : Nat) :
    ∃ new, Logs s (s.ceilingFollow z old) new ∧ totalSize new ≤ 14 ∧ ∀ r ∈ new, r.isGrant = true := by
  have hsilent : ∃ new, Logs s s new ∧ totalSize new ≤ 14 ∧ ∀ r ∈ new, r.isGrant = true :=
    ⟨[], .refl s, Nat.zero_le _, fun _ hr => absurd hr List.not_mem_nil⟩
  unfold State.ceilingFollow
  split
  · exact hsilent
  · split
    · exact ⟨_, (recordEvaluation_logs s z _).trans (grant_logs _ none z .light _ _ true), le_rfl, fun r hr => by
        rw [List.nil_append, List.mem_singleton] at hr
        rw [hr]
        rfl⟩
    · exact hsilent

theorem recomputeCeiling_logs (s : State) (z : ZoneId) :
    ∃ new, Logs s (s.recomputeCeiling z) new ∧ totalSize new ≤ 14 ∧ ∀ r ∈ new, r.isGrant = true := by
  unfold State.recomputeCeiling
  dsimp only
  split
  · exact ⟨[], .refl s, Nat.zero_le _, fun _ hr => absurd hr List.not_mem_nil⟩
  · obtain ⟨new, hlogs, hsize, hgrants⟩ :=
      ceilingFollow_logs (s.modZone z fun zn => { zn with ceiling := s.ceilingOf z }) z (s.zone z).ceiling
    have hceiling : Logs s (s.modZone z fun zn => { zn with ceiling := s.ceilingOf z }) [] := .of_same rfl rfl
    exact ⟨new, hceiling.trans hlogs, hsize, hgrants⟩

/-- The PACE record of an evaluation of an object's pace state, if the state changes (R70). -/
def State.paceRecord (s : State) (o : ObjId) : List Record :=
  paceChange s.clock o (s.object o).cfg.zone (s.object o).pace (s.paceNow o) (s.object o).acct.consumed

theorem paceChange_self (now : GTime) (o : ObjId) (z : ZoneId) (p : Pace) (consumed : Nat) :
    paceChange now o z p p consumed = [] := if_pos rfl

/-- R70: an evaluation appends the PACE record of a state that changes, and then at most the GRANT record of ceiling follow. -/
theorem reevalPace_logs (s : State) (o : ObjId) :
    ∃ grants, Logs s (s.reevalPace o) (s.paceRecord o ++ grants) ∧ totalSize grants ≤ 14 ∧ ∀ r ∈ grants, r.isGrant = true := by
  by_cases h : s.paceNow o = (s.object o).pace
  · have hkept : s.reevalPace o = s := if_pos h
    have hrecord : s.paceRecord o = [] := if_pos h.symm
    rw [hkept, hrecord]
    exact ⟨[], .refl s, Nat.zero_le _, fun _ hr => absurd hr List.not_mem_nil⟩
  · have hrecord : s.paceRecord o = [.pace s.clock o (s.object o).cfg.zone (s.object o).pace (s.paceNow o)
        (s.object o).acct.consumed] := if_neg fun e => h e.symm
    have hpace : Logs s (s.modObject o fun ob => { ob with pace := s.paceNow o }) [] := .of_same rfl rfl
    have hoffer := hpace.trans (.offer _ (.pace s.clock o (s.object o).cfg.zone (s.object o).pace (s.paceNow o)
      (s.object o).acct.consumed))
    rw [hrecord]
    unfold State.reevalPace
    dsimp only
    rw [if_neg h]
    split
    · obtain ⟨grants, hlogs, hsize, hgrants⟩ := recomputeCeiling_logs
        ((s.modObject o fun ob => { ob with pace := s.paceNow o }).offer (.pace s.clock o (s.object o).cfg.zone (s.object o).pace
          (s.paceNow o) (s.object o).acct.consumed)) (s.object o).cfg.zone
      exact ⟨grants, hoffer.trans hlogs, hsize, hgrants⟩
    · exact ⟨[], hoffer, Nat.zero_le _, fun _ hr => absurd hr List.not_mem_nil⟩

theorem totalSize_paceChange (now : GTime) (o : ObjId) (z : ZoneId) (p q : Pace) (consumed : Nat) :
    totalSize (paceChange now o z p q consumed) ≤ 12 := by
  unfold paceChange
  split
  · exact Nat.zero_le _
  · exact le_rfl

theorem filter_eq_nil_of_grants {test : Record → Bool} (htest : ∀ r : Record, r.isGrant = true → test r = false)
    {rs : List Record} (h : ∀ r ∈ rs, r.isGrant = true) : rs.filter test = [] :=
  List.filter_eq_nil_iff.mpr fun r hr => by rw [htest r (h r hr)]; exact Bool.false_ne_true

/-- What an evaluation of a pace state appends, seen by a test that passes no GRANT record. -/
theorem reevalPace_logsOf {test : Record → Bool} (htest : ∀ r : Record, r.isGrant = true → test r = false) (s : State)
    (o : ObjId) : LogsOf test 26 s (s.reevalPace o) ((s.paceRecord o).filter test) := by
  obtain ⟨grants, hlogs, hsize, hgrants⟩ := reevalPace_logs s o
  have hpace : totalSize (s.paceRecord o) ≤ 12 := totalSize_paceChange _ _ _ _ _ _
  refine ⟨_, hlogs, by rw [totalSize_append]; omega, ?_⟩
  rw [List.filter_append, filter_eq_nil_of_grants htest hgrants, List.append_nil]

theorem isPace_grant (r : Record) (h : r.isGrant = true) : r.isPace = false := by
  cases r <;> simp_all [Record.isGrant, Record.isPace]

theorem isPaceOf_grant (o : ObjId) (r : Record) (h : r.isGrant = true) : r.isPaceOf o = false := by
  cases r <;> simp_all [Record.isGrant, Record.isPaceOf]

theorem filter_isPace_paceRecord (s : State) (o : ObjId) : (s.paceRecord o).filter Record.isPace = s.paceRecord o := by
  unfold State.paceRecord paceChange
  split <;> rfl

end Sys2Proof.Machine
end

section
/-! ## Changes made one after the other, of which one concerns a thing and the others leave it -/

namespace Sys2Proof.Machine

open Sys2Proof

set_option Elab.async false

/-- Of the changes made in turn, all but that of `a` are related by `R`, which adds up costs; then so are the states from the first to
the one in which `a` has its turn, and from the one it leaves to the last. -/
theorem foldl_own {ι : Type} {f : ι → State → State} {cost : ι → Nat} {I : State → Prop} {R : Nat → State → State → Prop} {a : ι}
    (hkeep : ∀ x t, I t → I (f x t)) (hrefl : ∀ t, R 0 t t) (htrans : ∀ m n t u v, R m t u → R n u v → R (m + n) t v)
    (hquiet : ∀ x, x ≠ a → ∀ t, I t → R (cost x) t (f x t)) {l : List ι} (hnodup : l.Nodup) (ha : a ∈ l) {s : State} (hs : I s) :
    ∃ m n t, m + cost a + n = (l.map cost).sum ∧ I t ∧ R m s t ∧ R n (f a t) (l.foldl (fun t x => f x t) s) := by
  have hothers : ∀ (l : List ι) (s : State), a ∉ l → I s →
      I (l.foldl (fun t x => f x t) s) ∧ R (l.map cost).sum s (l.foldl (fun t x => f x t) s) := fun l => by
    induction l with
    | nil => exact fun s _ hs => ⟨hs, hrefl s⟩
    | cons x l ih =>
      intro s hl hs
      rw [List.mem_cons, not_or] at hl
      obtain ⟨hkept, hrest⟩ := ih (f x s) hl.2 (hkeep x s hs)
      exact ⟨hkept, htrans _ _ _ _ _ (hquiet x (fun e => hl.1 e.symm) s hs) hrest⟩
  obtain ⟨before, after, rfl⟩ := List.append_of_mem ha
  have hbefore : a ∉ before := fun h => (List.nodup_append.mp hnodup).2.2 a h a List.mem_cons_self rfl
  have hafter : a ∉ after := (List.nodup_cons.mp (List.nodup_append.mp hnodup).2.1).1
  obtain ⟨hI, hR⟩ := hothers before s hbefore hs
  refine ⟨_, (after.map cost).sum, _, ?_, hI, hR, ?_⟩
  · simp [Nat.add_assoc]
  · rw [List.foldl_append, List.foldl_cons]
    exact (hothers after _ hafter (hkeep a _ hI)).2

end Sys2Proof.Machine
end

section
/-! ## Every pace state evaluated (R70) -/

namespace Sys2Proof.Machine

open Sys2Proof

set_option Elab.async false

/-- The records of changes made object by object, where only that of `o` appends records the test passes. -/
theorem forObjects_logsOf {test : Record → Bool} {F : List Part} {f : ObjId → State → State} {cost : ObjId → Nat} {o : ObjId}
    {rs : List Record} {s : State} (htouch : ∀ x t, Touches F t (f x t)) (hothers : ∀ x t, OtherObjects t (f x t) x)
    (hquiet : ∀ x, x ≠ o → ∀ t, Touches F s t → LogsOf test (cost x) t (f x t) [])
    (hown : ∀ t, Touches F s t → t.object o = s.object o → LogsOf test (cost o) t (f o t) rs) :
    LogsOf test (allObjects.map cost).sum s (s.forObjects f) rs := by
  obtain ⟨m, n, t, hsum, ht, ⟨hbefore, hobject⟩, hafter, -⟩ := foldl_own (cost := cost) (I := Touches F s) (s := s)
    (R := fun m t u => LogsOf test m t u [] ∧ u.object o = t.object o) (fun x t ht => ht.trans (htouch x t))
    (fun t => ⟨.refl 0 t, rfl⟩) (fun _ _ _ _ _ h k => ⟨h.1.trans k.1, k.2.trans h.2⟩)
    (fun x hx t ht => ⟨hquiet x hx t ht, hothers x t o fun e => hx e.symm⟩) (List.nodup_finRange 32) (List.mem_finRange o)
    (.refl F s)
  have hall := (hbefore.trans (hown t ht hobject)).trans hafter
  rw [List.nil_append, List.append_nil, hsum] at hall
  exact hall

theorem reevalPace_effects (s : State) (o : ObjId) : Touches paceEffects s (s.reevalPace o) :=
  (reevalPace_inZone s o).touches.mono (by decide)

theorem reevalAll_effects (s : State) : Touches paceEffects s s.reevalAll :=
  forObjects_touches s _ fun o s => reevalPace_effects s o

theorem reevalAll_object (s : State) (o : ObjId) : s.reevalAll.object o = { s.object o with pace := s.paceNow o } := by
  obtain ⟨t, htouch, hobject, hpaced⟩ :=
    forObjects_object (fun o s => reevalPace_effects s o) (fun o s => reevalPace_otherObjects s o) s o
  rw [State.reevalAll, hpaced, reevalPace_object, htouch.paceNow o, hobject]

theorem reevalAll_paceCurrent (s : State) : PaceCurrent s.reevalAll := fun o => by
  rw [(reevalAll_effects s).paceNow o, reevalAll_object]

theorem paceRecord_congr {F : List Part} {s t : State} (h : Touches F s t) {o : ObjId} (ho : t.object o = s.object o)
    (hF : ∀ k ∈ [Part.objCfg, .acct, .periodN, .periodStart, .clock], k ∉ F := by decide) : t.paceRecord o = s.paceRecord o := by
  have hclock : t.clock = s.clock := h .clock (hF _ (by decide))
  rw [State.paceRecord, State.paceRecord, h.paceNow o hF, ho, hclock]

/-- The bytes the evaluations of all pace states can append. -/
def paceBudget : Nat := 832

theorem paceBudget_le : paceBudget ≤ queueCapacity := by
  unfold paceBudget queueCapacity
  omega

theorem sum_pace_costs : (allObjects.map fun _ => 26).sum = paceBudget := by decide

/-- A test of records that passes no GRANT record, and no PACE or ROLLOVER record of another object than `o`. -/
structure OwnTest (o : ObjId) (test : Record → Bool) : Prop where
  grants    : ∀ r : Record, r.isGrant = true → test r = false
  paces     : ∀ x, x ≠ o → ∀ now z p q c, test (.pace now x z p q c) = false
  rollovers : ∀ x, x ≠ o → ∀ now z c, test (.rollover now x z c) = false

theorem ownTest_pace (o : ObjId) : OwnTest o (Record.isPaceOf o) :=
  ⟨isPaceOf_grant o, fun _ hx _ _ _ _ _ => beq_false_of_ne hx, fun _ _ _ _ _ => rfl⟩

theorem OwnTest.paceChange_other {o x : ObjId} {test : Record → Bool} (h : OwnTest o test) (hx : x ≠ o) (now : GTime) (z : ZoneId)
    (p q : Pace) (c : Nat) : (paceChange now x z p q c).filter test = [] := by
  unfold paceChange
  split
  · rfl
  · rw [List.filter_cons_of_neg (by rw [h.paces x hx]; exact Bool.false_ne_true)]
    rfl

theorem filter_isPaceOf_paceChange (now : GTime) (o : ObjId) (z : ZoneId) (p q : Pace) (c : Nat) :
    (paceChange now o z p q c).filter (Record.isPaceOf o) = paceChange now o z p q c := by
  unfold paceChange
  split
  · rfl
  · exact List.filter_cons_of_pos (beq_self_eq_true o)

theorem reevalAll_logsOf (s : State) {o : ObjId} {test : Record → Bool} (htest : OwnTest o test) :
    LogsOf test paceBudget s s.reevalAll ((s.paceRecord o).filter test) := by
  rw [← sum_pace_costs]
  refine forObjects_logsOf (o := o) (fun x t => reevalPace_effects t x) (fun x t => reevalPace_otherObjects t x)
    (fun x hx t _ => ?_) fun t ht ho => ?_
  · have hlogs := reevalPace_logsOf htest.grants t x
    rwa [State.paceRecord, htest.paceChange_other hx] at hlogs
  · have hlogs := reevalPace_logsOf htest.grants t o
    rwa [paceRecord_congr ht ho] at hlogs

end Sys2Proof.Machine
end

section
/-! ## RESET_DOSE and SET_PERIOD (R73, R76) -/

namespace Sys2Proof.Machine

open Sys2Proof

set_option Elab.async false

section

variable {s u : State} {p : PortId} {f : Frame} {rest : List Frame}

theorem LogsOf.answered {test : Record → Bool} {n : Nat} {rs : List Record} (h : LogsOf test n (s.withTaken p rest) u rs)
    (f : Frame) (st : Status) (payload : List Byte) : LogsOf test n s (u.answer p f st payload) rs := by
  have htaken : LogsOf test 0 s (s.withTaken p rest) [] :=
    .of_silent (.of_touches (withTaken_touches s p rest) (withTaken_raises s p rest)) 0
  have hanswer : LogsOf test 0 u (u.answer p f st payload) [] :=
    .of_silent (.of_touches (answer_touches_tx u p f st payload) (answer_raises u p f st payload)) 0
  have hall := (htaken.trans h).trans hanswer
  rwa [List.nil_append, List.append_nil, Nat.zero_add, Nat.add_zero] at hall

/-- The conservation port's system requests pass the check of its role (R173, R181). -/
theorem withTaken_asSystem (h : (s.port p).role = .conservation) (act : State → State) :
    (s.withTaken p rest).asSystem p f act = act (s.withTaken p rest) := by
  have hrole : (s.withTaken p rest).isConservation p = true := by
    rw [State.isConservation, withTaken_port_role, h]
    rfl
  rw [State.asSystem, if_pos hrole]

theorem resetDoseOf?_spelt {o : ObjId} {dose : Nat} (h : dose ≤ 99999999) : resetDoseOf? (u1 o.val :: u4 dose) = some (o, dose) := by
  simp only [u4, resetDoseOf?, objOf?_u1, within_u32 h (by decide)]

theorem setPeriodOf?_spelt {n day : Nat} (given : Bool) (hlo : 1 ≤ n) (hhi : n ≤ 400) (hday : day < 0x10000) :
    setPeriodOf? (u2 n ++ [if given then 1 else 0] ++ u2 day) = some (n, if given then some day else none) := by
  have hn : within 1 400 (u16 (u1 (n / 0x100)) (u1 n)) = some n := by
    rw [u16_bytes (by omega)]
    exact within_self hlo hhi
  simp only [u2, List.cons_append, List.nil_append, setPeriodOf?, hn, flagOf?_flag, u16_bytes hday]

theorem exec_resetDose (hrole : (s.port p).role = .conservation) (h : NextRequest s p 0x35 f rest) {o : ObjId} {dose : Nat}
    (hf : f.payload = u1 o.val :: u4 dose) (hdose : dose ≤ 99999999) :
    exec (.resetDose p) s = .next ((((s.withTaken p rest).resetDose o dose).answer p f .done []).countRequest p) := by
  show execResetDose p s = _
  unfold execResetDose
  rw [h.serve (by simp [rowOf, h.2]), withTaken_asSystem hrole, hf, resetDoseOf?_spelt hdose]
  rfl

theorem exec_setPeriod (hrole : (s.port p).role = .conservation) (h : NextRequest s p 0x36 f rest) {n day : Nat} {given : Bool}
    (hf : f.payload = u2 n ++ [if given then 1 else 0] ++ u2 day) (hlo : 1 ≤ n) (hhi : n ≤ 400) (hday : day < 0x10000) :
    exec (.setPeriod p) s = .next ((if given = true → day ≤ s.clock.day then
      ((s.withTaken p rest).setPeriod n (if given then some day else none)).answer p f .done []
      else s.refusedWith p f rest .badArg none none).countRequest p) := by
  have hnamed : namedBy f = (none, none) := by simp [namedBy, rowOf, h.2]
  have hstart : (s.withTaken p rest).startOk (if given then some day else none) = decide (given = true → day ≤ s.clock.day) := by
    cases given
    · simp [State.startOk]
    · simp only [State.startOk, if_true, forall_const]
      rfl
  show execSetPeriod p s = _
  unfold execSetPeriod
  rw [h.serve (by simp [rowOf, h.2]), withTaken_asSystem hrole, hf, setPeriodOf?_spelt given hlo hhi hday]
  simp only [State.withArg, hstart, decide_eq_true_eq, refuse_withTaken, hnamed]

/-! ### What the two operations do -/

theorem resetDose_touches (s : State) (o : ObjId) (dose : Nat) : Touches (paceEffects ++ [.acct]) s (s.resetDose o dose) := by
  have hacct : Touches [.acct] s (s.modObject o fun ob => { ob with acct := { ob.acct with consumed := dose, frac := 0 } }) :=
    modObject_touches s o _
  exact (hacct.mono (by decide)).then_mono (reevalPace_effects _ o) (by decide)

theorem resetDose_object (s : State) (o : ObjId) (dose : Nat) : (s.resetDose o dose).object o =
    { s.object o with
        acct := { consumed := dose, frac := 0, previous := (s.object o).acct.previous }
        pace := paceFor dose (s.object o).cfg.allowance (s.object o).cfg.slack s.periodN s.elapsed } := by
  rw [State.resetDose, reevalPace_object, State.paceNow, State.object_modObject_self]
  rfl

theorem resetDose_otherObjects (s : State) (o : ObjId) (dose : Nat) : OtherObjects s (s.resetDose o dose) o :=
  OtherObjects.trans (fun _ hx => State.object_modObject_ne s _ hx) (reevalPace_otherObjects _ o)

theorem resetDose_logsOf (s : State) (o : ObjId) (dose : Nat) : LogsOf Record.isPace 26 s (s.resetDose o dose)
    (paceChange s.clock o (s.object o).cfg.zone (s.object o).pace ((s.resetDose o dose).object o).pace dose) := by
  have hacct : Logs s (s.modObject o fun ob => { ob with acct := { ob.acct with consumed := dose, frac := 0 } }) [] :=
    .of_same rfl rfl
  have hpaced := (LogsOf.of_silent hacct 0).trans (reevalPace_logsOf isPace_grant _ o)
  rw [filter_isPace_paceRecord, List.nil_append, Nat.zero_add] at hpaced
  unfold State.resetDose
  rw [reevalPace_object]
  unfold State.paceRecord at hpaced
  rwa [State.object_modObject_self] at hpaced

/-- The period as SET_PERIOD writes it (R73). -/
def State.periodSet (s : State) (n : Nat) (start : Option Nat) : State :=
  { s with periodN := n, periodStart := start.getD s.periodStart }

theorem periodSet_touches (s : State) (n : Nat) (start : Option Nat) :
    Touches [.periodN, .periodStart] s (s.periodSet n start) := by
  intro k hk
  cases k with
  | periodN => simp at hk
  | periodStart => simp at hk
  | _ => rfl

theorem setPeriod_eq (s : State) (n : Nat) (start : Option Nat) : s.setPeriod n start = (s.periodSet n start).reevalAll := rfl

theorem setPeriod_touches (s : State) (n : Nat) (start : Option Nat) :
    Touches (paceEffects ++ [.periodN, .periodStart]) s (s.setPeriod n start) :=
  ((periodSet_touches s n start).mono (by decide)).then_mono (reevalAll_effects _) (by decide)

theorem setPeriod_period (s : State) (n : Nat) (start : Option Nat) :
    (s.setPeriod n start).periodN = n ∧ (s.setPeriod n start).periodStart = start.getD s.periodStart :=
  ⟨reevalAll_effects _ .periodN (by decide), reevalAll_effects _ .periodStart (by decide)⟩

theorem setPeriod_paceCurrent (s : State) (n : Nat) (start : Option Nat) : PaceCurrent (s.setPeriod n start) := by
  rw [setPeriod_eq]
  exact reevalAll_paceCurrent _

theorem setPeriod_logsOf (s : State) (n : Nat) (start : Option Nat) (o : ObjId) :
    LogsOf (Record.isPaceOf o) paceBudget s (s.setPeriod n start) (paceChange s.clock o (s.object o).cfg.zone (s.object o).pace
      ((s.setPeriod n start).object o).pace (s.object o).acct.consumed) := by
  have hset : Logs s (s.periodSet n start) [] := .of_same rfl rfl
  have hpaced := (LogsOf.of_silent hset 0).trans (reevalAll_logsOf (s.periodSet n start) (ownTest_pace o))
  rw [List.nil_append, Nat.zero_add, State.paceRecord, filter_isPaceOf_paceChange] at hpaced
  rw [setPeriod_eq, reevalAll_object]
  exact hpaced

end

end Sys2Proof.Machine

open Sys2Proof Sys2Proof.Machine

set_option Elab.async false

/-- Settles O41: the corrections are `State.resetDose` and `State.setPeriod` in the state that has taken the request. -/
theorem doseAndPeriodCorrections : Obligations.DoseAndPeriodCorrections := by
  intro s p f rest hrole
  refine ⟨fun o dose h hf hdose => ?_, fun n day given h hf hlo hhi hday => ⟨fun hstart => ?_, fun hgiven hlate => ?_⟩⟩
  · have htouch := resetDose_touches (s.withTaken p rest) o dose
    exact ⟨_, exec_resetDose hrole h hf hdose, resetDose_object (s.withTaken p rest) o dose,
      ((resetDose_logsOf (s.withTaken p rest) o dose).answered f .done []).recordsOf (by unfold queueCapacity; omega),
      resetDose_otherObjects (s.withTaken p rest) o dose, htouch.accepted f .done [],
      (htouch.answered f .done []).mono (by decide)⟩
  · have hexec := exec_setPeriod hrole h hf hlo hhi hday
    rw [if_pos hstart] at hexec
    have htouch := setPeriod_touches (s.withTaken p rest) n (if given then some day else none)
    obtain ⟨hperiodN, hperiodStart⟩ := setPeriod_period (s.withTaken p rest) n (if given then some day else none)
    have hanswer := answer_touches_tx ((s.withTaken p rest).setPeriod n (if given then some day else none)) p f .done []
    refine ⟨_, hexec, (hanswer .periodN (by decide)).trans hperiodN,
      (hanswer .periodStart (by decide)).trans (hperiodStart.trans ?_), fun o => ?_, fun o => ?_, htouch.accepted f .done [],
      (htouch.answered f .done []).mono (by decide)⟩
    · cases given <;> rfl
    · exact PaceAt.of_touches (setPeriod_paceCurrent _ n _ o) hanswer
    · rw [hanswer.objectPace o (by decide)]
      exact ((setPeriod_logsOf (s.withTaken p rest) n (if given then some day else none) o).answered f .done []).recordsOf
        paceBudget_le
  · have hexec := exec_setPeriod hrole h hf hlo hhi hday
    rwa [if_neg fun hok => absurd (hok hgiven) hlate.not_ge] at hexec

end

section
/-! ## What the part's own evaluation leaves (R87, R89, R96) -/

namespace Sys2Proof.Machine

open Sys2Proof

set_option Elab.async false

/-! ### The sets -/

theorem condSet_ext {a b : CondSet} (h : ∀ k, hasCond a k = hasCond b k) : a = b := by
  have hall : ∀ i < 16, ∃ k, condIdx k = i := by
    intro i hi
    interval_cases i
    exacts [⟨.clampHeat, rfl⟩, ⟨.clampMoist, rfl⟩, ⟨.clampLight, rfl⟩, ⟨.clampShade, rfl⟩, ⟨.refusedRh, rfl⟩, ⟨.swingSpent, rfl⟩,
      ⟨.recovery, rfl⟩, ⟨.tableLimit, rfl⟩, ⟨.rhSaturated, rfl⟩, ⟨.daylightOver, rfl⟩, ⟨.daylightHeld, rfl⟩, ⟨.blindStep, rfl⟩,
      ⟨.overrideCap, rfl⟩, ⟨.ceilingFollow, rfl⟩, ⟨.conflict, rfl⟩, ⟨.actLimited, rfl⟩]
  refine BitVec.eq_of_getLsbD_eq fun i hi => ?_
  obtain ⟨k, rfl⟩ := hall i hi
  exact h k

theorem addStickySet_hasCond (s : State) (z : ZoneId) (cs : CondSet) (k : Condition) :
    hasCond ((s.addStickySet z cs).zone z).sticky k = (hasCond (s.zone z).sticky k || hasCond cs k) := by
  have hfold : ∀ (l : List Condition) (s : State),
      hasCond ((l.foldl (fun s c => if hasCond cs c then s.addSticky z c else s) s).zone z).sticky k =
        (hasCond (s.zone z).sticky k || (hasCond cs k && decide (k ∈ l))) := fun l => by
    induction l with
    | nil => intro s; simp
    | cons c l ih =>
      intro s
      rw [List.foldl_cons, ih]
      by_cases hk : k = c
      · subst hk
        cases hc : hasCond cs k <;> simp [addSticky_hasCond]
      · split <;> simp [addSticky_hasCond, hk]
  have hmem : k ∈ allConditions := by cases k <;> decide
  rw [State.addStickySet, hfold, decide_eq_true hmem, Bool.and_true]

/-- An evaluation leaves its conditions as the cause set and adds them to the sticky set (R89). -/
theorem recordEvaluation_sets (s : State) (z : ZoneId) (cs : CondSet) :
    ((s.recordEvaluation z cs).zone z).cause = cs ∧ ((s.recordEvaluation z cs).zone z).sticky = (s.zone z).sticky ||| cs := by
  constructor
  · have h := (addStickySet_inZone (s.modZone z fun zn => { zn with cause := cs }) z cs).touches.zoneCause z
    rwa [State.zone_modZone_self] at h
  · refine condSet_ext fun k => ?_
    rw [State.recordEvaluation, addStickySet_hasCond, State.zone_modZone_self, hasCond_or]

/-! ### The channels -/

theorem Touches.chan {F : List Part} {s t : State} (h : Touches F s t) (z : ZoneId) (ch : ChanKind)
    (hF : ∀ k ∈ [Part.granted, .delivery, .tenure, .activity], k ∉ F := by decide) : t.chan z ch = s.chan z ch := by
  have hgranted : (t.chan z ch).granted = (s.chan z ch).granted := h.chanGranted z ch (hF _ (by decide))
  have hactivity : (t.chan z ch).lastActivity = (s.chan z ch).lastActivity := h.chanActivity z ch (hF _ (by decide))
  have hdelivery := congrFun (congrFun (h .delivery (hF _ (by decide))) z) ch
  have htenure := congrFun (congrFun (h .tenure (hF _ (by decide))) z) ch
  simp only [State.part, Prod.mk.injEq] at hdelivery htenure
  obtain ⟨hpending, hsent, hreplaced, happlied⟩ := hdelivery
  obtain ⟨hholder, hwaiters⟩ := htenure
  generalize t.chan z ch = c at *
  generalize s.chan z ch = d at *
  cases c
  cases d
  simp_all only

theorem enlist_chan (s : State) (z x : ZoneId) (ch j : ChanKind) : (s.enlist z ch).chan x j = s.chan x j := by
  rw [State.chan, State.chan, State.zone, enlist_zones]
  rfl

/-- R150: a channel with a node takes the value as pending; no other channel is touched. -/
theorem handToLoop_chan (s : State) (z x : ZoneId) (ch j : ChanKind) (v : Int) :
    (s.handToLoop z ch v).chan x j = if x = z ∧ j = ch ∧ (s.zone z).cfg.act ch ≠ none then
      { s.chan z ch with pending := some v, replaced := (s.chan z ch).replaced || (s.chan z ch).sent.isSome } else s.chan x j := by
  unfold State.handToLoop State.actNode
  split
  · next hnode => rw [if_neg fun h => h.2.2 hnode]
  · next n hnode =>
    have hbound : (s.zone z).cfg.act ch ≠ none := by rw [hnode]; exact Option.some_ne_none n
    have hhanded := State.chan_modChan s z x ch j fun c => { c with pending := some v, replaced := c.replaced || c.sent.isSome }
    simp only [hbound, ne_eq, not_false_eq_true, and_true]
    split
    · exact hhanded
    · rw [enlist_chan]
      exact hhanded

section

variable (s : State) (port : Option PortId) (z : ZoneId) (ch : ChanKind) (r : Option Int) (v : Int) (c : Bool)

theorem grant_chan_eq : ∀ x j, (s.grant port z ch r v c).chan x j =
    ((s.modChan z ch fun c => { c with granted := some v }).handToLoop z ch v).chan x j :=
  fun x j => (offer_signalled _ _).touches.chan x j

theorem grant_granted : ((s.grant port z ch r v c).chan z ch).granted = some v := by
  rw [grant_chan_eq, handToLoop_chan]
  split <;> rw [State.chan_modChan_self]

theorem grant_pending (h : (s.zone z).cfg.act ch ≠ none) : ((s.grant port z ch r v c).chan z ch).pending = some v := by
  have hcfg : ((s.modChan z ch fun c => { c with granted := some v }).zone z).cfg = (s.zone z).cfg := by
    rw [State.modChan, State.zone_modZone_self, Zone.modChan_cfg]
  rw [grant_chan_eq, handToLoop_chan, hcfg, if_pos ⟨rfl, rfl, h⟩]

theorem grant_chan_ne (x : ZoneId) {j : ChanKind} (h : j ≠ ch) : (s.grant port z ch r v c).chan x j = s.chan x j := by
  rw [grant_chan_eq, handToLoop_chan, if_neg fun hj => h hj.2.1, State.chan_modChan, if_neg fun hj => h hj.2]

end

/-! ### The grants of the part -/

/-- The value a channel is granted by the part, if it is granted one (R96, R97). -/
def State.grantEntering (s : State) (z : ZoneId) (ch : ChanKind) : Option Int → State
  | some v => s.grantFromPart z ch v
  | none => s

section

variable (s : State) (z : ZoneId) (ch : ChanKind) (e : Option Int)

theorem grantEntering_inZone : InZone z ([.granted, .delivery, .commands] ++ reporting) s (s.grantEntering z ch e) := by
  cases e with
  | some v => exact grant_inZone s none z ch _ v true
  | none => exact .refl z _ s

theorem grantEntering_granted :
    ((s.grantEntering z ch e).chan z ch).granted = e.orElse fun _ => (s.chan z ch).granted := by
  cases e with
  | some v => exact grant_granted s none z ch _ v true
  | none => rfl

theorem grantEntering_pending {v : Int} (he : e = some v) (h : (s.zone z).cfg.act ch ≠ none) :
    ((s.grantEntering z ch e).chan z ch).pending = some v := by
  subst he
  exact grant_pending s none z ch _ v true h

theorem grantEntering_chan_ne (x : ZoneId) {j : ChanKind} (h : j ≠ ch) : (s.grantEntering z ch e).chan x j = s.chan x j := by
  cases e with
  | some v => exact grant_chan_ne s none z ch _ v true x h
  | none => rfl

theorem grantEntering_stickyReported : StickyReported s (s.grantEntering z ch e) z := by
  cases e with
  | some v =>
    exact .of_same ((grant_inZone s none z ch _ v true).touches.zoneSticky z) fun p =>
      (grant_raises s none z ch _ v true p).others _ (by decide)
  | none => exact .refl s z

theorem grantEntering_logs : Logs s (s.grantEntering z ch e) (partGrant s z ch e) := by
  cases e with
  | some v => exact grant_logs s none z ch _ v true
  | none => exact .refl s

theorem totalSize_partGrant : totalSize (partGrant s z ch e) ≤ 14 := by
  cases e with
  | some v => exact le_rfl
  | none => exact Nat.zero_le _

end

theorem partGrant_congr {s t : State} {z : ZoneId} {ch : ChanKind} (hclock : t.clock = s.clock) (hchan : t.chan z ch = s.chan z ch)
    (e : Option Int) : partGrant t z ch e = partGrant s z ch e := by
  cases e with
  | some v => rw [partGrant, partGrant, hclock, hchan]
  | none => rfl

/-- An evaluation by the part and the grants it makes, SHADE before LIGHT. -/
def State.evaluatePart (s : State) (z : ZoneId) (conds : CondSet) (shade light : Option Int) : State :=
  ((s.recordEvaluation z conds).grantEntering z .shade shade).grantEntering z .light light

theorem evaluatePart_inZone (s : State) (z : ZoneId) (conds : CondSet) (shade light : Option Int) :
    InZone z followParts s (s.evaluatePart z conds shade light) :=
  (((recordEvaluation_inZone s z conds).mono (by decide)).then_mono (grantEntering_inZone _ z .shade shade) (by decide)).then_mono
    (grantEntering_inZone _ z .light light) (by decide)

theorem evaluatePart_grants (s : State) (z : ZoneId) (conds : CondSet) (shade light : Option Int) :
    PartGrants s (s.evaluatePart z conds shade light) z shade light conds := by
  have heval := recordEvaluation_inZone s z conds
  have hshade := grantEntering_inZone (s.recordEvaluation z conds) z .shade shade
  have hlight := grantEntering_inZone ((s.recordEvaluation z conds).grantEntering z .shade shade) z .light light
  have hchan : ∀ ch, (s.recordEvaluation z conds).chan z ch = s.chan z ch := heval.touches.chan z
  have hother : ∀ ch, ch ≠ .shade → ((s.recordEvaluation z conds).grantEntering z .shade shade).chan z ch = s.chan z ch :=
    fun ch hch => (grantEntering_chan_ne _ z .shade shade z hch).trans (hchan ch)
  have hlast : ∀ ch, ch ≠ .light → (s.evaluatePart z conds shade light).chan z ch =
      ((s.recordEvaluation z conds).grantEntering z .shade shade).chan z ch :=
    fun ch hch => grantEntering_chan_ne _ z .light light z hch
  have hcfg : ((s.recordEvaluation z conds).zone z).cfg = (s.zone z).cfg := heval.touches.zoneCfg z
  obtain ⟨hcause, hsticky⟩ := recordEvaluation_sets s z conds
  refine
    { shadeIs := ?_, lightIs := ?_, handed := ?_, climate := fun ch hch => ?_, sets := ⟨?_, ?_⟩, report := ?_, records := ?_,
      zones := (evaluatePart_inZone s z conds shade light).others }
  · rw [hlast _ (by decide), grantEntering_granted, hchan]
  · rw [State.evaluatePart, grantEntering_granted, hother _ (by decide)]
  · rintro ch v (⟨rfl, hv⟩ | ⟨rfl, hv⟩) hact
    · rw [hlast _ (by decide)]
      exact grantEntering_pending _ z .shade shade hv (by rwa [hcfg])
    · exact grantEntering_pending _ z .light light hv (by rwa [hshade.touches.zoneCfg z, hcfg])
  · rw [hlast ch (by rintro rfl; cases hch), hother ch (by rintro rfl; cases hch)]
  · rw [State.evaluatePart, hlight.touches.zoneCause z, hshade.touches.zoneCause z, hcause]
  · rw [State.evaluatePart, hlight.touches.zoneSticky z, hshade.touches.zoneSticky z, hsticky]
  · exact ((recordEvaluation_stickyReported s z conds).trans heval.touches (grantEntering_stickyReported _ z .shade shade)).trans
      (heval.touches.mono (by decide) |>.then_mono (F := followParts) hshade.touches (by decide))
      (grantEntering_stickyReported _ z .light light)
  · have hlogs := ((recordEvaluation_logs s z conds).trans (grantEntering_logs _ z .shade shade)).trans
      (grantEntering_logs _ z .light light)
    rw [List.nil_append, partGrant_congr (heval.touches .clock (by decide)) (hchan .shade),
      partGrant_congr ((hshade.touches .clock (by decide)).trans (heval.touches .clock (by decide))) (hother .light (by decide))]
      at hlogs
    refine hlogs.reportsAll ?_
    have h14 := totalSize_partGrant s z .shade shade
    have h14' := totalSize_partGrant s z .light light
    rw [totalSize_append]
    unfold queueCapacity
    omega

/-- A change of a part of the zone that an evaluation does not read comes first. -/
theorem PartGrants.of_modZone {s t : State} {z : ZoneId} {shade light : Option Int} {conds : CondSet} {f : Zone → Zone}
    (h : PartGrants (s.modZone z f) t z shade light conds) (hchans : (f (s.zone z)).chans = (s.zone z).chans)
    (hcfg : (f (s.zone z)).cfg = (s.zone z).cfg) (hsticky : (f (s.zone z)).sticky = (s.zone z).sticky) :
    PartGrants s t z shade light conds := by
  have hzone : (s.modZone z f).zone z = f (s.zone z) := State.zone_modZone_self s z f
  have hchan : ∀ ch, (s.modZone z f).chan z ch = s.chan z ch := fun ch => by
    rw [State.chan, hzone, Zone.chan, hchans]
    rfl
  refine
    { shadeIs := by rw [← hchan]; exact h.shadeIs
      lightIs := by rw [← hchan]; exact h.lightIs
      handed := fun ch v hv hact => h.handed ch v hv (by rwa [hzone, hcfg])
      climate := fun ch hch => (h.climate ch hch).trans (hchan ch)
      sets := by rw [← hsticky, ← hzone]; exact h.sets
      report := h.report.of_modZone hsticky
      records := ?_
      zones := fun x hx => (h.zones x hx).trans (State.zone_modZone_ne s f hx) }
  have hclock : (s.modZone z f).clock = s.clock := rfl
  have hrecords := h.records
  rwa [partGrant_congr hclock (hchan .shade), partGrant_congr hclock (hchan .light)] at hrecords

end Sys2Proof.Machine
end

section
/-! ## The override values and the override computation (R97, R137 to R139) -/

namespace Sys2Proof.Machine

open Sys2Proof

set_option Elab.async false

/-! ### The values (R138) -/

theorem prospect_granted {c : Channel} {g : Int} (h : c.granted = some g) : c.prospect = g.toNat := by
  unfold Channel.prospect
  rw [h]

theorem prospect_ungranted {c : Channel} (h : c.granted = none) : c.prospect = (c.applied.getD 0).toNat := by
  unfold Channel.prospect
  rw [h]
  cases c.applied <;> rfl

theorem heldCond_eq (inp : LightInput) : inp.heldCond = condIf (decide (inp.d0Status ≠ .known)) .daylightHeld := by
  unfold LightInput.heldCond
  cases inp.d0Status <;> rfl

/-- Step 1 of R138, where daylight alone keeps under C. -/
theorem overrideValues_lit {inp : LightInput} (h : inp.dpart inp.shade ≤ inp.ceiling) :
    inp.overrideValues = ((inp.lightClamp inp.shade inp.light).1, none, inp.heldCond) := by
  have hflag := (lightClamp_lit h inp.light).lit
  unfold LightInput.overrideValues
  dsimp only
  rw [if_neg h.not_gt, hflag]
  exact congrArg (Prod.mk _ <| Prod.mk _ ·) BitVec.zero_or

/-- Step 2 of R138, where daylight alone is over C: LIGHT 0, and the smallest position under C or 100. -/
theorem overrideValues_dark {inp : LightInput} (h : inp.ceiling < inp.dpart inp.shade) :
    inp.overrideValues = (0, some ((inp.smallestShade inp.ceiling 0 100).getD 100), condBit .daylightOver ||| inp.heldCond) := by
  unfold LightInput.overrideValues
  rw [lightClamp_dark h]
  dsimp only
  rw [if_pos h]
  cases inp.smallestShade inp.ceiling 0 100 <;> rfl

theorem overrideValues_conds (inp : LightInput) : inp.overrideValues.2.2 =
    condIf (decide (inp.ceiling < inp.dpart inp.shade)) .daylightOver ||| condIf (decide (inp.d0Status ≠ .known)) .daylightHeld := by
  rw [← heldCond_eq]
  obtain h | h := le_or_gt (inp.dpart inp.shade) inp.ceiling
  · rw [overrideValues_lit h, decide_eq_false h.not_gt]
    exact BitVec.zero_or.symm
  · rw [overrideValues_dark h, decide_eq_true h]
    rfl

/-- The SHADE value of step 2. -/
theorem overrideShade_smallest (inp : LightInput) :
    (inp.smallestShade inp.ceiling 0 100).getD 100 ≤ 100 ∧
      ((inp.smallestShade inp.ceiling 0 100).getD 100 < 100 →
        inp.dpart ((inp.smallestShade inp.ceiling 0 100).getD 100) ≤ inp.ceiling) ∧
      ∀ y, y < (inp.smallestShade inp.ceiling 0 100).getD 100 → inp.ceiling < inp.dpart y := by
  cases hshade : inp.smallestShade inp.ceiling 0 100 with
  | some x =>
    obtain ⟨-, hle, hunder, hsmallest⟩ := smallestShade_eq_some hshade
    exact ⟨by simpa using hle, fun _ => hunder, fun y hy => hsmallest y (Nat.zero_le y) hy⟩
  | none =>
    exact ⟨le_rfl, fun h => absurd h (lt_irrefl _), fun y hy => smallestShade_eq_none hshade y (Nat.zero_le y) (by
      simpa using Nat.le_of_lt hy)⟩

/-! ### The parts (R139) -/

theorem tighten_newParts (zn : Zone) : zn.ovr.tighten (zn.exc .lux).isSome (zn.exc .uv).isSome
    zn.lightInput.overrideValues.1 zn.lightInput.overrideValues.2.1 = newParts zn := by
  have hlight : ∀ (a : Nat) (held : Option Nat), minOpt a held = match held with | some held => min held a | none => a :=
    fun a held => by cases held with
      | some held => exact min_comm a held
      | none => rfl
  unfold Override.tighten newParts
  dsimp only
  rw [hlight]
  congr 1
  cases zn.lightInput.overrideValues.2.1 <;> cases zn.ovr.shadeLux
  case some.some a b => simp only [max_comm a b]
  all_goals rfl

/-! ### The values that enter (R97) -/

/-- An override value that enters a channel as a grant, if it does (R97). -/
def enteringValue (ch : ChanKind) (value : Option Nat) (granted : Option Int) : Option Int :=
  value.bind fun v => if overrides ch v granted then some (v : Int) else none

theorem shadeEntering_eq (o : Override) (granted : Option Int) :
    shadeEntering o granted = enteringValue .shade o.shade granted := by
  have hshade : o.shade = shadeInForce o := rfl
  rw [hshade]
  unfold shadeEntering
  cases shadeInForce o with
  | none => rfl
  | some v => cases granted with
    | none => rfl
    | some g => simp [enteringValue, overrides]

theorem lightEntering_eq (o : Override) (granted : Option Int) :
    lightEntering o granted = enteringValue .light o.light granted := by
  unfold lightEntering
  cases o.light with
  | none => rfl
  | some v => cases granted with
    | none => rfl
    | some g => simp [enteringValue, overrides]

theorem isSome_enteringValue (ch : ChanKind) (value : Option Nat) (granted : Option Int) :
    (enteringValue ch value granted).isSome = value.any (overrides ch · granted) := by
  cases value with
  | none => rfl
  | some v =>
    show (if overrides ch v granted then some (v : Int) else none).isSome = overrides ch v granted
    cases overrides ch v granted <;> rfl

theorem enterOverride_eq (s : State) (z : ZoneId) (ch : ChanKind) (value : Option Nat) :
    s.enterOverride z ch value = s.grantEntering z ch (enteringValue ch value (s.chan z ch).granted) := by
  cases value with
  | none => rfl
  | some v =>
    show (if overrides ch v (s.chan z ch).granted then s.grantFromPart z ch v else s) =
      s.grantEntering z ch (if overrides ch v (s.chan z ch).granted then some (v : Int) else none)
    split <;> rfl

/-! ### The computation (R139) -/

/-- The conditions of an override evaluation (R139). -/
def overrideConds (zn : Zone) (shade light : Option Int) : CondSet :=
  condIf shade.isSome .clampShade ||| condIf light.isSome .clampLight |||
    if (zn.exc .lux).isSome then zn.lightInput.overrideValues.2.2 else 0

theorem modZone_ovr_chan (s : State) (z x : ZoneId) (ch : ChanKind) (new : Override) :
    (s.modZone z fun zn => { zn with ovr := new }).chan x ch = s.chan x ch :=
  Touches.chan (F := [.ovr]) (modZone_touches s z _) x ch

theorem computeOverride_idle {s : State} {z : ZoneId} (h : s.supervised = false ∨ (s.zone z).cfg.use = false ∨
    ((s.zone z).exc .lux).isSome = false ∧ (s.zone z).exc .uv = none ∨ newParts (s.zone z) = (s.zone z).ovr) :
    s.computeOverride z = s := by
  unfold State.computeOverride
  dsimp only
  rw [tighten_newParts]
  split
  · next hactive =>
    simp only [Bool.and_eq_true, Bool.or_eq_true] at hactive
    obtain ⟨⟨hsup, huse⟩, hopen⟩ := hactive
    obtain hsup' | huse' | ⟨hlux, huv⟩ | hkept := h
    · exact absurd (hsup.symm.trans hsup') (by decide)
    · exact absurd (huse.symm.trans huse') (by decide)
    · rw [hlux, huv] at hopen
      simp at hopen
    · rw [if_pos hkept]
  · rfl

/-- A computation that changes a part, as the model makes it. -/
theorem computeOverride_changes {s : State} {z : ZoneId} (hsup : s.supervised = true) (huse : (s.zone z).cfg.use = true)
    (hopen : ((s.zone z).exc .lux).isSome = true ∨ ((s.zone z).exc .uv).isSome = true)
    (hnew : newParts (s.zone z) ≠ (s.zone z).ovr) : s.computeOverride z =
      (((s.modZone z fun zn => { zn with ovr := newParts (s.zone z) }).recordEvaluation z
        (condIf ((newParts (s.zone z)).shade.any (overrides .shade · (s.chan z .shade).granted)) .clampShade |||
          condIf ((newParts (s.zone z)).light.any (overrides .light · (s.chan z .light).granted)) .clampLight |||
          if ((s.zone z).exc .lux).isSome then (s.zone z).lightInput.overrideValues.2.2 else 0)).enterOverride z .shade
        (newParts (s.zone z)).shade).enterOverride z .light (newParts (s.zone z)).light := by
  have hactive : (s.supervised && (s.zone z).cfg.use && (((s.zone z).exc .lux).isSome || ((s.zone z).exc .uv).isSome)) = true := by
    simp [hsup, huse, hopen]
  unfold State.computeOverride
  dsimp only
  rw [if_pos hactive, tighten_newParts, if_neg hnew]
  cases (newParts (s.zone z)).shade <;> cases (newParts (s.zone z)).light <;> rfl

theorem computeOverride_eq {s : State} {z : ZoneId} {shade light : Option Int} (hsup : s.supervised = true)
    (huse : (s.zone z).cfg.use = true) (hopen : ((s.zone z).exc .lux).isSome = true ∨ ((s.zone z).exc .uv).isSome = true)
    (hnew : newParts (s.zone z) ≠ (s.zone z).ovr) (hshade : shadeEntering (newParts (s.zone z)) (s.chan z .shade).granted = shade)
    (hlight : lightEntering (newParts (s.zone z)) (s.chan z .light).granted = light) :
    s.computeOverride z = (s.modZone z fun zn => { zn with ovr := newParts (s.zone z) }).evaluatePart z
      (overrideConds (s.zone z) shade light) shade light := by
  rw [shadeEntering_eq] at hshade
  rw [lightEntering_eq] at hlight
  have heval := fun conds => (recordEvaluation_inZone (s.modZone z fun zn => { zn with ovr := newParts (s.zone z) }) z conds).touches
  rw [computeOverride_changes hsup huse hopen hnew, ← isSome_enteringValue, ← isSome_enteringValue, enterOverride_eq,
    enterOverride_eq, grantEntering_chan_ne _ z .shade _ z (by decide), (heval _).chan, (heval _).chan, modZone_ovr_chan,
    modZone_ovr_chan, hshade, hlight]
  rfl

end Sys2Proof.Machine
end

section
/-! ## Ceiling follow (R72, R94, R95) -/

namespace Sys2Proof.Machine

open Sys2Proof

set_option Elab.async false

theorem modZone_ceiling_self (s : State) (z : ZoneId) : (s.modZone z fun zn => { zn with ceiling := (s.zone z).ceiling }) = s := by
  have hzones : s.zones.set z (s.zone z) = s.zones := Vector.set_getElem_self z.isLt
  rw [State.modZone]
  simp only [State.zone] at hzones ⊢
  rw [hzones]

/-- What a light prediction of the zone reads at the ceiling `c`. -/
def Zone.lightInputAt (zn : Zone) (c : Nat) : LightInput := { zn.lightInput with ceiling := c }

/-- The state in which ceiling follow is tested: C is the new one. -/
def State.ceiled (s : State) (z : ZoneId) (c : Nat) : State := s.modZone z fun zn => { zn with ceiling := c }

theorem ceiled_zone (s : State) (z : ZoneId) (c : Nat) : (s.ceiled z c).zone z = { s.zone z with ceiling := c } :=
  State.zone_modZone_self s z _

theorem ceiled_chan (s : State) (z : ZoneId) (c : Nat) (ch : ChanKind) : (s.ceiled z c).chan z ch = s.chan z ch := by
  rw [State.chan, ceiled_zone]
  rfl

theorem ceiled_lightInput (s : State) (z : ZoneId) (c : Nat) : ((s.ceiled z c).zone z).lightInput = (s.zone z).lightInputAt c := by
  rw [ceiled_zone]
  rfl

theorem mustFollow_iff {s : State} {z : ZoneId} {c : Nat} {g : Int} (hgranted : (s.chan z .light).granted = some g) :
    (s.ceiled z c).mustFollow z (s.zone z).ceiling g = true ↔ Follows s z c g := by
  have hsup : (s.ceiled z c).supervised = s.supervised := rfl
  have hepred : ∀ l x, ((s.zone z).lightInputAt c).epred l x = (s.zone z).lightInput.epred l x := fun _ _ => rfl
  unfold State.mustFollow Follows
  dsimp only
  rw [ceiled_lightInput, hepred, ceiled_zone, hsup]
  simp only [Bool.and_eq_true, decide_eq_true_eq, hgranted, true_and, and_assoc]
  rfl

/-- The conditions of ceiling follow (R57, R94). -/
def followConds (inp : LightInput) : CondSet :=
  condBit .ceilingFollow ||| condBit .clampLight ||| condIf (decide (inp.ceiling < inp.dpart inp.shade)) .daylightOver |||
    condIf (decide (inp.d0Status ≠ .known)) .daylightHeld

/-- C falls below the prediction: LIGHT is granted the clamped level (R94, R95). -/
theorem recomputeCeiling_follows {s : State} {z : ZoneId} {g : Int} (h : Follows s z (s.ceilingOf z) g) :
    s.recomputeCeiling z = (s.ceiled z (s.ceilingOf z)).evaluatePart z (followConds ((s.zone z).lightInputAt (s.ceilingOf z))) none
      (some (((s.zone z).lightInputAt (s.ceilingOf z)).lightClamp (s.zone z).lightInput.shade g.toNat).1) := by
  obtain ⟨hgranted, -, hfell, -, -⟩ := id h
  have hlight : ((s.ceiled z (s.ceilingOf z)).chan z .light).granted = some g := by rw [ceiled_chan, hgranted]
  have hfollow : s.recomputeCeiling z = (s.ceiled z (s.ceilingOf z)).ceilingFollow z (s.zone z).ceiling := if_neg hfell.ne
  rw [hfollow, State.ceilingFollow, hlight]
  dsimp only
  rw [if_pos ((mustFollow_iff hgranted).mpr h), ceiled_lightInput, lightClamp_over, heldCond_eq]
  rfl

theorem recomputeCeiling_stands {s : State} {z : ZoneId} (h : ∀ g, ¬ Follows s z (s.ceilingOf z) g) :
    s.recomputeCeiling z = s.ceiled z (s.ceilingOf z) := by
  unfold State.recomputeCeiling
  dsimp only
  split
  · next hsame => rw [hsame, State.ceiled, modZone_ceiling_self]
  · show (s.ceiled z (s.ceilingOf z)).ceilingFollow z (s.zone z).ceiling = _
    unfold State.ceilingFollow
    rw [ceiled_chan]
    split
    · rfl
    · next g hgranted => rw [if_neg fun hfollows => h g ((mustFollow_iff hgranted).mp hfollows)]

/-- The level granted by ceiling follow is the largest that keeps under C, or 0 (R58, R94). -/
theorem follow_level (inp : LightInput) {g : Int} (hg : 0 ≤ g) :
    ((inp.lightClamp inp.shade g.toNat).1 : Int) ≤ g ∧
      ((inp.lightClamp inp.shade g.toNat).1 = 0 ∨ inp.epred (inp.lightClamp inp.shade g.toNat).1 inp.shade ≤ inp.ceiling) ∧
      ∀ x : Nat, (x : Int) ≤ g → inp.epred x inp.shade ≤ inp.ceiling → x ≤ (inp.lightClamp inp.shade g.toNat).1 := by
  refine ⟨?_, lightClamp_safe inp inp.shade g.toNat, fun x hx hunder => ?_⟩
  · have := lightClamp_le inp inp.shade g.toNat
    omega
  · exact (lightClamp_lit ((dpart_le_epred inp x inp.shade).trans hunder) g.toNat).largest x (by omega) hunder

end Sys2Proof.Machine

open Sys2Proof Sys2Proof.Machine

set_option Elab.async false

/-- Settles O52: the override and ceiling follow are each an evaluation by the part after a change of the parts held or of C. -/
theorem partLowersTheLight : Obligations.PartLowersTheLight := by
  refine ⟨fun zn => ?_, fun s z => ⟨computeOverride_idle, fun hsup huse hopen hnew => ?_⟩,
    fun s z => ⟨?_, fun g hfollows => ?_, recomputeCeiling_stands⟩⟩
  · refine ⟨rfl, rfl, rfl, rfl, rfl, rfl, fun _ => prospect_granted, fun _ => prospect_granted, prospect_ungranted,
      prospect_ungranted, fun hlit => ?_, fun hdark => ?_, overrideValues_conds _⟩
    · have hclamp := lightClamp_lit hlit zn.lightInput.light
      rw [overrideValues_lit hlit]
      exact ⟨rfl, hclamp.le, hclamp.under, hclamp.largest⟩
    · rw [overrideValues_dark hdark]
      exact ⟨rfl, _, rfl, overrideShade_smallest zn.lightInput⟩
  · rw [computeOverride_eq hsup huse hopen hnew rfl rfl]
    have hpart := evaluatePart_inZone (s.modZone z fun zn => { zn with ovr := newParts (s.zone z) }) z
      (overrideConds (s.zone z) (shadeEntering (newParts (s.zone z)) (s.chan z .shade).granted)
        (lightEntering (newParts (s.zone z)) (s.chan z .light).granted))
      (shadeEntering (newParts (s.zone z)) (s.chan z .shade).granted)
      (lightEntering (newParts (s.zone z)) (s.chan z .light).granted)
    refine ⟨?_, (evaluatePart_grants _ z _ _ _).of_modZone rfl rfl rfl,
      Touches.then_mono (modZone_touches s z _) hpart.touches (by decide)⟩
    rw [hpart.touches.zoneOvr z, State.zone_modZone_self]
  · rw [recomputeCeiling_ceilingAt s z]
    exact (recomputeCeiling_touches s z).ceilingOf z
  · obtain ⟨-, -, -, hpos, -⟩ := id hfollows
    have hpart := evaluatePart_inZone (s.ceiled z (s.ceilingOf z)) z (followConds ((s.zone z).lightInputAt (s.ceilingOf z))) none
      (some (((s.zone z).lightInputAt (s.ceilingOf z)).lightClamp (s.zone z).lightInput.shade g.toNat).1)
    obtain ⟨hle, hsafe, hlargest⟩ := follow_level ((s.zone z).lightInputAt (s.ceilingOf z)) hpos.le
    refine ⟨_, hle, hsafe, hlargest, ?_, ?_⟩
    · rw [recomputeCeiling_follows hfollows]
      exact (evaluatePart_grants _ z _ _ _).of_modZone rfl rfl rfl
    · rw [recomputeCeiling_follows hfollows]
      exact Touches.then_mono (modZone_touches s z _) hpart.touches (by decide)

end

section
/-! ## The charge of an object (R64) -/

namespace Sys2Proof.Machine

open Sys2Proof

set_option Elab.async false

theorem ownTest_rollover (o : ObjId) : OwnTest o (Record.isRolloverOf o) :=
  ⟨fun r h => by cases r <;> simp_all [Record.isGrant, Record.isRolloverOf], fun _ _ _ _ _ _ _ => rfl,
    fun _ hx _ _ _ => beq_false_of_ne hx⟩

theorem filter_isRolloverOf_paceChange (now : GTime) (o x : ObjId) (z : ZoneId) (p q : Pace) (c : Nat) :
    (paceChange now x z p q c).filter (Record.isRolloverOf o) = [] := by
  unfold paceChange
  split <;> rfl

/-- What a charge of a zone's objects touches. -/
abbrev chargeParts : List Part := .acct :: paceEffects

/-- The pace state an object is left in when its account becomes `a`: evaluated if the consumed dose changed (R64). -/
def State.chargedPace (s : State) (o : ObjId) (a : Account) : Pace :=
  if a.consumed = (s.object o).acct.consumed then (s.object o).pace
  else paceFor a.consumed (s.object o).cfg.allowance (s.object o).cfg.slack s.periodN s.elapsed

/-- An object with a new account, and the pace state that follows from it. -/
def State.charged (s : State) (o : ObjId) (a : Account) : Object := { s.object o with acct := a, pace := s.chargedPace o a }

/-- The PACE record of a charge that gives an object the account `a`, if its pace state changes (R70). -/
def State.chargeRecord (s : State) (o : ObjId) (a : Account) : List Record :=
  paceChange s.clock o (s.object o).cfg.zone (s.object o).pace (s.chargedPace o a) a.consumed

theorem charged_self (s : State) (o : ObjId) : s.charged o (s.object o).acct = s.object o := by
  rw [State.charged, State.chargedPace, if_pos rfl]

theorem chargeRecord_self (s : State) (o : ObjId) : s.chargeRecord o (s.object o).acct = [] := by
  rw [State.chargeRecord, State.chargedPace, if_pos rfl, paceChange_self]

section

variable {F : List Part} {s t : State} {o : ObjId}

theorem Touches.chargedPace (h : Touches F s t) (ho : t.object o = s.object o) (a : Account)
    (hF : ∀ k ∈ [Part.periodN, .periodStart, .clock], k ∉ F := by decide) : t.chargedPace o a = s.chargedPace o a := by
  have hn : t.periodN = s.periodN := h .periodN (hF _ (by decide))
  have hstart : t.periodStart = s.periodStart := h .periodStart (hF _ (by decide))
  have hclock : t.clock = s.clock := h .clock (hF _ (by decide))
  simp only [State.chargedPace, State.elapsed, ho, hn, hstart, hclock]

theorem Touches.charged (h : Touches F s t) (ho : t.object o = s.object o) (a : Account)
    (hF : ∀ k ∈ [Part.periodN, .periodStart, .clock], k ∉ F := by decide) : t.charged o a = s.charged o a := by
  rw [State.charged, State.charged, h.chargedPace ho a hF, ho]

theorem Touches.chargeRecord (h : Touches F s t) (ho : t.object o = s.object o) (a : Account)
    (hF : ∀ k ∈ [Part.periodN, .periodStart, .clock], k ∉ F := by decide) : t.chargeRecord o a = s.chargeRecord o a := by
  have hclock : t.clock = s.clock := h .clock (hF _ (by decide))
  rw [State.chargeRecord, State.chargeRecord, h.chargedPace ho a hF, ho, hclock]

end

theorem chargeObject_object (s : State) (o : ObjId) (inc : Nat) :
    (s.chargeObject o inc).object o = s.charged o ((s.object o).acct.charge inc) := by
  unfold State.chargeObject State.charged State.chargedPace
  dsimp only
  split
  · rw [State.object_modObject_self]
  · rw [reevalPace_object, State.paceNow, State.object_modObject_self]
    rfl

theorem chargeObject_otherObjects (s : State) (o : ObjId) (inc : Nat) : OtherObjects s (s.chargeObject o inc) o := by
  have hacct : OtherObjects s (s.modObject o fun ob => { ob with acct := ob.acct.charge inc }) o :=
    fun _ hx => State.object_modObject_ne s _ hx
  unfold State.chargeObject
  dsimp only
  split
  · exact hacct
  · exact hacct.trans (reevalPace_otherObjects _ o)

theorem chargeObject_inZone (s : State) (o : ObjId) (inc : Nat) :
    InZone (s.object o).cfg.zone chargeParts s (s.chargeObject o inc) := by
  have hacct : InZone (s.object o).cfg.zone chargeParts s (s.modObject o fun ob => { ob with acct := ob.acct.charge inc }) :=
    .of_zones (modObject_touches s o _) rfl
  unfold State.chargeObject
  dsimp only
  split
  · exact hacct
  · have hpace := reevalPace_inZone (s.modObject o fun ob => { ob with acct := ob.acct.charge inc }) o
    rw [State.object_modObject_self] at hpace
    exact hacct.then_mono hpace (by decide)

theorem chargeObject_logsOf {test : Record → Bool} (htest : ∀ r : Record, r.isGrant = true → test r = false) (s : State) (o : ObjId)
    (inc : Nat) :
    LogsOf test 26 s (s.chargeObject o inc) ((s.chargeRecord o ((s.object o).acct.charge inc)).filter test) := by
  have hacct : Logs s (s.modObject o fun ob => { ob with acct := ob.acct.charge inc }) [] := .of_same rfl rfl
  unfold State.chargeObject State.chargeRecord State.chargedPace
  dsimp only
  split
  · rw [paceChange_self]
    exact .of_silent hacct 26
  · have hpace := (LogsOf.of_silent hacct 0).trans (reevalPace_logsOf htest _ o)
    unfold State.paceRecord State.paceNow at hpace
    rw [State.object_modObject_self, List.nil_append, Nat.zero_add] at hpace
    exact hpace

end Sys2Proof.Machine
end

section
/-! ## The charge of a zone (R63, R65) -/

namespace Sys2Proof.Machine

open Sys2Proof

set_option Elab.async false

/-- An ON object of a zone charged for `dt` seconds at `e` lux. -/
def State.chargeIn (s : State) (z : ZoneId) (e dt : Nat) (o : ObjId) : State :=
  if (s.object o).inZone z then s.chargeObject o (faceLux e (s.object o).cfg.w * dt) else s

/-- The account of an object after the charge of a zone. -/
def accountIn (ob : Object) (z : ZoneId) (e dt : Nat) : Account :=
  if ob.inZone z then ob.acct.charge (faceLux e ob.cfg.w * dt) else ob.acct

/-- The bytes that the charge of a zone can append for an object. -/
def chargeCost (ob : Object) (z : ZoneId) : Nat := if ob.inZone z then 26 else 0

section

variable (s : State) (z : ZoneId) (e dt : Nat) (o : ObjId)

theorem chargeIn_object : (s.chargeIn z e dt o).object o = s.charged o (accountIn (s.object o) z e dt) := by
  unfold State.chargeIn accountIn
  split
  · exact chargeObject_object s o _
  · exact (charged_self s o).symm

theorem chargeIn_otherObjects : OtherObjects s (s.chargeIn z e dt o) o := by
  unfold State.chargeIn
  split
  · exact chargeObject_otherObjects s o _
  · exact fun _ _ => rfl

theorem chargeIn_inZone : InZone z chargeParts s (s.chargeIn z e dt o) := by
  unfold State.chargeIn
  split
  · next hin =>
    obtain ⟨-, hzone⟩ := (Object.inZone_iff _ z).mp hin
    have hcharge := chargeObject_inZone s o (faceLux e (s.object o).cfg.w * dt)
    rwa [hzone] at hcharge
  · exact .refl z _ s

theorem chargeIn_logsOf {test : Record → Bool} (htest : ∀ r : Record, r.isGrant = true → test r = false) :
    LogsOf test (chargeCost (s.object o) z) s (s.chargeIn z e dt o)
      ((s.chargeRecord o (accountIn (s.object o) z e dt)).filter test) := by
  unfold State.chargeIn accountIn chargeCost
  split
  · exact chargeObject_logsOf htest s o _
  · rw [chargeRecord_self]
    exact .refl 0 s

end

theorem Touches.chargeCost {F : List Part} {s t : State} (h : Touches F s t) (z : ZoneId) (o : ObjId)
    (hF : Part.objCfg ∉ F := by decide) : chargeCost (t.object o) z = chargeCost (s.object o) z := by
  unfold Machine.chargeCost Object.inZone
  rw [h.objectCfg o hF]

/-- The bytes that the charge of a zone can append. -/
def State.zoneCost (s : State) (z : ZoneId) : Nat := (allObjects.map fun o => chargeCost (s.object o) z).sum

/-- The charge of a zone as one of each of its objects, and a horizon that moves. -/
theorem chargeZone_eq (s : State) (z : ZoneId) (upTo : GTime) (e : Nat) : s.chargeZone z upTo e =
    (s.forObjects fun o s' => s'.chargeIn z e (upTo.since (s.zone z).horizon) o).modZone z fun zn => { zn with horizon := upTo } := rfl

theorem horizon_inZone (s : State) (z : ZoneId) (upTo : GTime) :
    InZone z [.horizon] s (s.modZone z fun zn => { zn with horizon := upTo }) := .of_modZone (modZone_touches s z _)

theorem horizon_logs (s : State) (z : ZoneId) (upTo : GTime) :
    Logs s (s.modZone z fun zn => { zn with horizon := upTo }) [] := .of_same rfl rfl

/-- What the charge of a zone touches. -/
abbrev zoneChargeParts : List Part := .horizon :: chargeParts

section

variable (s : State) (z : ZoneId) (upTo : GTime) (e : Nat) (o : ObjId)

theorem chargeZone_inZone : InZone z zoneChargeParts s (s.chargeZone z upTo e) := by
  have hcharges : InZone z chargeParts s (s.forObjects fun o s' => s'.chargeIn z e (upTo.since (s.zone z).horizon) o) :=
    foldl_keeps _ (InZone z chargeParts s) (fun t x ht => ht.trans (chargeIn_inZone t z e _ x)) _ s (.refl z _ s)
  rw [chargeZone_eq]
  exact (hcharges.mono (by decide)).then_mono (horizon_inZone _ z upTo) (by decide)

theorem chargeZone_horizon : ((s.chargeZone z upTo e).zone z).horizon = upTo := by
  rw [chargeZone_eq, State.zone_modZone_self]

theorem chargeZone_object : (s.chargeZone z upTo e).object o =
    s.charged o (accountIn (s.object o) z e (upTo.since (s.zone z).horizon)) := by
  obtain ⟨t, htouch, hobject, hcharged⟩ := forObjects_object
    (fun o t => (chargeIn_inZone t z e (upTo.since (s.zone z).horizon) o).touches)
    (fun o t => chargeIn_otherObjects t z e (upTo.since (s.zone z).horizon) o) s o
  rw [chargeZone_eq, State.modZone_object, hcharged, chargeIn_object, hobject, htouch.charged hobject]

theorem chargeZone_logsOf {test : Record → Bool} (htest : OwnTest o test) : LogsOf test (s.zoneCost z) s (s.chargeZone z upTo e)
    ((s.chargeRecord o (accountIn (s.object o) z e (upTo.since (s.zone z).horizon))).filter test) := by
  have hcharges := forObjects_logsOf (test := test) (cost := fun x => chargeCost (s.object x) z) (o := o) (s := s)
    (rs := (s.chargeRecord o (accountIn (s.object o) z e (upTo.since (s.zone z).horizon))).filter test)
    (fun x t => (chargeIn_inZone t z e (upTo.since (s.zone z).horizon) x).touches)
    (fun x t => chargeIn_otherObjects t z e (upTo.since (s.zone z).horizon) x) (fun x hx t ht => ?_) fun t ht ho => ?_
  · have hall := hcharges.trans (LogsOf.of_silent (horizon_logs _ z upTo) 0)
    rw [List.append_nil, Nat.add_zero] at hall
    rw [chargeZone_eq, State.zoneCost]
    exact hall
  · have hlogs := chargeIn_logsOf t z e (upTo.since (s.zone z).horizon) x htest.grants
    rw [State.chargeRecord, htest.paceChange_other hx] at hlogs
    exact hlogs.mono (ht.chargeCost z x).le
  · have hlogs := chargeIn_logsOf t z e (upTo.since (s.zone z).horizon) o htest.grants
    rw [ho, ht.chargeRecord ho] at hlogs
    exact hlogs

end

end Sys2Proof.Machine
end

section
/-! ## The blind charges of a minute mark (R65) -/

namespace Sys2Proof.Machine

open Sys2Proof

set_option Elab.async false

theorem chargesBlind_iff (s : State) (z : ZoneId) : s.chargesBlind z = true ↔ (s.zone z).cfg.use = true ∧
    ∀ n, (s.zone z).cfg.lightNode = some n → (s.node n).state = .stale ∨ (s.node n).state = .absent := by
  unfold State.chargesBlind
  cases (s.zone z).cfg.lightNode <;> simp

theorem Touches.chargesBlind {F : List Part} {s t : State} (h : Touches F s t) (z : ZoneId)
    (hF : ∀ k ∈ [Part.cfg, .nodes], k ∉ F := by decide) : t.chargesBlind z = s.chargesBlind z := by
  unfold State.chargesBlind
  rw [h.zoneCfg z (hF _ (by decide))]
  simp only [h.node _ (hF _ (by decide))]

/-- Whether the mark `m` charges a zone blind: it is one to be so charged, and its horizon is not past the mark. -/
def State.blindDue (s : State) (z : ZoneId) (m : GTime) : Prop :=
  s.chargesBlind z = true ∧ (s.zone z).horizon.toSeconds ≤ m.toSeconds

/-- The illuminance of a blind charge (R65). -/
def Zone.blindLux (zn : Zone) : Nat := max zn.ceiling (zn.est.eMeas.getD 0)

theorem blindCharge_due {s : State} {z : ZoneId} {m : GTime} (h : s.blindDue z m) :
    s.blindCharge z m = s.chargeZone z m (s.zone z).blindLux := by
  obtain ⟨hblind, hhorizon⟩ := h
  exact if_pos (by rw [hblind, GTime.notAfter, decide_eq_true hhorizon, Bool.and_self])

theorem blindCharge_not_due {s : State} {z : ZoneId} {m : GTime} (h : ¬ s.blindDue z m) : s.blindCharge z m = s := by
  refine if_neg fun hdue => h ?_
  obtain ⟨hblind, hhorizon⟩ := (Bool.and_eq_true _ _).mp hdue
  exact ⟨hblind, of_decide_eq_true hhorizon⟩

/-- The account that the charge of its own zone gives an object is that of `blindAccount`. -/
theorem blindAccount_due {s : State} {m : GTime} {o : ObjId} (h : s.blindDue (s.object o).cfg.zone m) :
    accountIn (s.object o) (s.object o).cfg.zone (s.zone (s.object o).cfg.zone).blindLux
      (m.since (s.zone (s.object o).cfg.zone).horizon) = blindAccount s m o := by
  unfold accountIn blindAccount Account.chargedTo
  dsimp only
  rw [Nat.mul_comm (m.toSeconds - _)]
  refine if_congr ?_ rfl rfl
  rw [Object.inZone_iff, eq_self, and_true]
  exact (and_iff_left h).symm

theorem blindAccount_not_due {s : State} {m : GTime} {o : ObjId} (h : ¬ s.blindDue (s.object o).cfg.zone m) :
    blindAccount s m o = (s.object o).acct := if_neg fun hdue => h hdue.2

theorem blindCharge_inZone (s : State) (z : ZoneId) (m : GTime) : InZone z zoneChargeParts s (s.blindCharge z m) := by
  unfold State.blindCharge
  split
  · exact chargeZone_inZone s z m _
  · exact .refl z _ s

theorem blindCharge_horizon (s : State) (z : ZoneId) (m : GTime) : ((s.blindCharge z m).zone z).horizon =
    if s.chargesBlind z = true ∧ (s.zone z).horizon.toSeconds ≤ m.toSeconds then m else (s.zone z).horizon := by
  by_cases hdue : s.blindDue z m
  · rw [blindCharge_due hdue, chargeZone_horizon]
    exact (if_pos hdue).symm
  · rw [blindCharge_not_due hdue]
    exact (if_neg hdue).symm

/-! ### An object, when its zone has its turn and when another zone has -/

section

variable (s : State) (z : ZoneId) (m : GTime) (o : ObjId)

theorem blindCharge_own_object : (s.blindCharge (s.object o).cfg.zone m).object o = s.charged o (blindAccount s m o) := by
  by_cases hdue : s.blindDue (s.object o).cfg.zone m
  · rw [blindCharge_due hdue, chargeZone_object, blindAccount_due hdue]
  · rw [blindCharge_not_due hdue, blindAccount_not_due hdue, charged_self]

theorem blindCharge_own_logsOf {test : Record → Bool} (htest : OwnTest o test) :
    LogsOf test (s.zoneCost (s.object o).cfg.zone) s (s.blindCharge (s.object o).cfg.zone m)
      ((s.chargeRecord o (blindAccount s m o)).filter test) := by
  by_cases hdue : s.blindDue (s.object o).cfg.zone m
  · rw [blindCharge_due hdue, ← blindAccount_due hdue]
    exact chargeZone_logsOf s _ m _ o htest
  · rw [blindCharge_not_due hdue, blindAccount_not_due hdue, chargeRecord_self]
    exact .refl _ s

variable {z o}

theorem accountIn_other (h : z ≠ (s.object o).cfg.zone) (e dt : Nat) : accountIn (s.object o) z e dt = (s.object o).acct :=
  if_neg fun hin => h ((Object.inZone_iff _ z).mp hin).2.symm

theorem blindCharge_other_object (h : z ≠ (s.object o).cfg.zone) : (s.blindCharge z m).object o = s.object o := by
  by_cases hdue : s.blindDue z m
  · rw [blindCharge_due hdue, chargeZone_object, accountIn_other s h, charged_self]
  · rw [blindCharge_not_due hdue]

theorem blindCharge_other_logsOf {test : Record → Bool} (htest : OwnTest o test) (h : z ≠ (s.object o).cfg.zone) :
    LogsOf test (s.zoneCost z) s (s.blindCharge z m) [] := by
  by_cases hdue : s.blindDue z m
  · have hlogs := chargeZone_logsOf s z m (s.zone z).blindLux o htest
    rw [accountIn_other s h, chargeRecord_self] at hlogs
    rw [blindCharge_due hdue]
    exact hlogs
  · rw [blindCharge_not_due hdue]
    exact .refl _ s

end

/-! ### Every zone in turn -/

/-- The blind charges of every zone. -/
def State.blindCharges (s : State) (m : GTime) : State := s.forZones fun z s => s.blindCharge z m

theorem blindCharges_touches (s : State) (m : GTime) : Touches zoneChargeParts s (s.blindCharges m) :=
  forZones_touches s _ fun z s => (blindCharge_inZone s z m).touches

theorem blindCharges_horizon (s : State) (m : GTime) (z : ZoneId) : ((s.blindCharges m).zone z).horizon =
    if s.chargesBlind z = true ∧ (s.zone z).horizon.toSeconds ≤ m.toSeconds then m else (s.zone z).horizon := by
  obtain ⟨t, htouch, hzone, hcharged⟩ := forZones_zone (fun z s => blindCharge_inZone s z m) s z
  rw [State.blindCharges, hcharged, blindCharge_horizon, htouch.chargesBlind, hzone]

theorem blindAccount_congr {F : List Part} {s t : State} {o : ObjId} (h : Touches F s t) (ho : t.object o = s.object o)
    (hz : t.zone (s.object o).cfg.zone = s.zone (s.object o).cfg.zone) (m : GTime)
    (hF : ∀ k ∈ [Part.cfg, .nodes], k ∉ F := by decide) : blindAccount t m o = blindAccount s m o := by
  unfold blindAccount
  dsimp only
  rw [ho, hz, h.chargesBlind _ hF]

theorem Touches.zoneCost {F : List Part} {s t : State} (h : Touches F s t) (z : ZoneId) (hF : Part.objCfg ∉ F := by decide) :
    t.zoneCost z = s.zoneCost z := by
  simp only [State.zoneCost, h.chargeCost z _ hF]

/-- An object counts in one zone at most, so the charges of all zones cost no more than one record of each kind for each object. -/
theorem sum_zoneCost_le (s : State) : (allZones.map s.zoneCost).sum ≤ paceBudget := by
  have hobject : ∀ o, ∑ z, chargeCost (s.object o) z ≤ 26 := fun o =>
    calc ∑ z, chargeCost (s.object o) z ≤ ∑ z, if (s.object o).cfg.zone = z then 26 else 0 := by
          refine Finset.sum_le_sum fun z _ => ?_
          unfold chargeCost
          split
          · next hin => rw [if_pos ((Object.inZone_iff _ z).mp hin).2]
          · exact Nat.zero_le _
      _ = 26 := by simp
  have hzone : ∀ z, s.zoneCost z = ∑ o, chargeCost (s.object o) z := fun z => (Fin.sum_univ_def _).symm
  calc (allZones.map s.zoneCost).sum = ∑ z, s.zoneCost z := (Fin.sum_univ_def _).symm
    _ = ∑ o, ∑ z, chargeCost (s.object o) z := by simp only [hzone]; exact Finset.sum_comm
    _ ≤ ∑ _o : ObjId, 26 := Finset.sum_le_sum fun o _ => hobject o
    _ = paceBudget := by simp [paceBudget]

/-- What the charge of a zone leaves alone for an object of another zone: the object, its zone, and the records of its own. -/
def LeavesObject (test : Record → Bool) (o : ObjId) (z : ZoneId) (n : Nat) (s t : State) : Prop :=
  LogsOf test n s t [] ∧ t.object o = s.object o ∧ t.zone z = s.zone z

namespace LeavesObject

variable {test : Record → Bool} {o : ObjId} {z : ZoneId} {m n : Nat} {s t u : State}

theorem refl (s : State) : LeavesObject test o z 0 s s := ⟨.refl 0 s, rfl, rfl⟩

theorem trans (h : LeavesObject test o z m s t) (k : LeavesObject test o z n t u) : LeavesObject test o z (m + n) s u := by
  obtain ⟨hlogs, hobject, hzone⟩ := h
  obtain ⟨klogs, kobject, kzone⟩ := k
  exact ⟨hlogs.trans klogs, kobject.trans hobject, kzone.trans hzone⟩

end LeavesObject

theorem blindCharge_leavesObject {s t : State} {m : GTime} {o : ObjId} {test : Record → Bool} (htest : OwnTest o test)
    (ht : Touches zoneChargeParts s t) {z : ZoneId} (hz : z ≠ (s.object o).cfg.zone) :
    LeavesObject test o (s.object o).cfg.zone (s.zoneCost z) t (t.blindCharge z m) := by
  have hother : z ≠ (t.object o).cfg.zone := by rwa [ht.objectCfg]
  refine ⟨?_, blindCharge_other_object t m hother, (blindCharge_inZone t z m).others _ hz.symm⟩
  rw [← ht.zoneCost]
  exact blindCharge_other_logsOf t m htest hother

/-- R65: the blind charges leave each object charged as in the state before them all, and report its change of pace. -/
theorem blindCharges_charged (s : State) (m : GTime) {o : ObjId} {test : Record → Bool} (htest : OwnTest o test) :
    (s.blindCharges m).object o = s.charged o (blindAccount s m o) ∧
      LogsOf test paceBudget s (s.blindCharges m) ((s.chargeRecord o (blindAccount s m o)).filter test) := by
  obtain ⟨b, c, t, hsum, ht, ⟨hbefore, hobject, hzone⟩, ⟨hafter, hlast, -⟩⟩ := foldl_own (s := s) (cost := s.zoneCost)
    (f := fun z s => s.blindCharge z m) (I := Touches zoneChargeParts s) (R := LeavesObject test o (s.object o).cfg.zone)
    (fun z t ht => ht.trans (blindCharge_inZone t z m).touches) .refl (fun _ _ _ _ _ => .trans)
    (fun _ hz _ ht => blindCharge_leavesObject htest ht hz) (List.nodup_finRange 8) (List.mem_finRange _) (.refl _ s)
  have hown := blindCharge_own_logsOf t m o htest
  have haccount := blindAccount_congr ht hobject hzone m
  have hcharged := blindCharge_own_object t m o
  rw [haccount, hobject, ht.chargeRecord hobject, ht.zoneCost] at hown
  rw [haccount, hobject, ht.charged hobject] at hcharged
  have hall := (hbefore.trans hown).trans hafter
  rw [List.nil_append, List.append_nil, hsum] at hall
  exact ⟨hlast.trans hcharged, hall.mono (sum_zoneCost_le s)⟩

end Sys2Proof.Machine
end

section
/-! ## The rollover and the evaluation of every pace state (R70, R74) -/

namespace Sys2Proof.Machine

open Sys2Proof

set_option Elab.async false

/-- The accounts of a period that is over (R74). -/
def State.closeAccounts (s : State) : State :=
  s.forObjects fun o s => s.modObject o fun ob => { ob with acct := ob.acct.rollover }

/-- The ROLLOVER record of an object as it stood in `s`, if it is ON (R74). -/
def State.offerRollover (t s : State) (o : ObjId) : State :=
  if (s.object o).cfg.use then t.offer (.rollover t.clock o (s.object o).cfg.zone (s.object o).acct.consumed) else t

/-- The rollover up to the evaluation of the pace states (R74). -/
def State.rolledOver (s : State) : State :=
  { s.closeAccounts.forObjects fun o t => t.offerRollover s o with periodStart := s.clock.day }

/-- The ROLLOVER record of an object, if a rollover makes one (R74). -/
def State.rolloverRecord (s : State) (o : ObjId) : List Record :=
  if (s.object o).cfg.use = true then [.rollover s.clock o (s.object o).cfg.zone (s.object o).acct.consumed] else []

theorem closeAccounts_touches (s : State) : Touches [.acct] s s.closeAccounts :=
  forObjects_touches s _ fun o s => modObject_touches s o _

theorem closeAccounts_object (s : State) (o : ObjId) :
    s.closeAccounts.object o = { s.object o with acct := (s.object o).acct.rollover } := by
  obtain ⟨t, -, hobject, hclosed⟩ := forObjects_object (F := [.acct])
    (f := fun o s => s.modObject o fun ob => { ob with acct := ob.acct.rollover })
    (fun o s => modObject_touches s o _) (fun o s _ hx => State.object_modObject_ne s _ hx) s o
  rw [State.closeAccounts, hclosed, State.object_modObject_self, hobject]

theorem modObject_logs (s : State) (o : ObjId) (f : Object → Object) : Logs s (s.modObject o f) [] := .of_same rfl rfl

theorem closeAccounts_logs (s : State) : Logs s s.closeAccounts [] :=
  foldl_keeps _ (fun t => Logs s t []) (fun t o ht => ht.trans (modObject_logs t o _)) _ s (.refl s)

theorem offerRollover_signalled (t s : State) (o : ObjId) : Signalled t (t.offerRollover s o) := by
  unfold State.offerRollover
  split
  · exact offer_signalled t _
  · exact .refl t

theorem offerRollover_logs {t s : State} (hclock : t.clock = s.clock) (o : ObjId) :
    Logs t (t.offerRollover s o) (s.rolloverRecord o) := by
  unfold State.offerRollover State.rolloverRecord
  rw [hclock]
  split
  · exact .offer t _
  · exact .refl t

theorem totalSize_rolloverRecord (s : State) (o : ObjId) : totalSize (s.rolloverRecord o) ≤ 11 := by
  unfold State.rolloverRecord
  split
  · exact le_rfl
  · exact Nat.zero_le _

theorem OwnTest.rolloverRecord_other {o x : ObjId} {test : Record → Bool} (h : OwnTest o test) (hx : x ≠ o) (s : State) :
    (s.rolloverRecord x).filter test = [] := by
  unfold State.rolloverRecord
  split
  · rw [List.filter_cons_of_neg (by rw [h.rollovers x hx]; exact Bool.false_ne_true)]
    rfl
  · rfl

/-- The ROLLOVER records of all objects. -/
theorem offerRollovers_signalled (t s : State) : Signalled t (t.forObjects fun o t => t.offerRollover s o) :=
  foldl_keeps _ (Signalled t) (fun u o hu => hu.trans (offerRollover_signalled u s o)) _ t (.refl t)

/-- The bytes the ROLLOVER records can take. -/
def rolloverBudget : Nat := 352

theorem offerRollovers_logsOf {t s : State} (hclock : t.clock = s.clock) {o : ObjId} {test : Record → Bool} (htest : OwnTest o test) :
    LogsOf test rolloverBudget t (t.forObjects fun o t => t.offerRollover s o) ((s.rolloverRecord o).filter test) := by
  have hoffer : ∀ x u, Touches reporting t u → LogsOf test 11 u (u.offerRollover s x) ((s.rolloverRecord x).filter test) :=
    fun x u hu => .of_logs (offerRollover_logs ((hu .clock (by decide)).trans hclock) x) (totalSize_rolloverRecord s x)
  have hbudget : (allObjects.map fun _ => 11).sum = rolloverBudget := by decide
  rw [← hbudget]
  refine forObjects_logsOf (o := o) (fun x u => (offerRollover_signalled u s x).touches)
    (fun x u y _ => (offerRollover_signalled u s x).reported.object y) (fun x hx u hu => ?_) fun u hu _ => hoffer o u hu
  have hlogs := hoffer x u hu
  rwa [htest.rolloverRecord_other hx] at hlogs

/-- What a rollover touches. -/
abbrev rolloverParts : List Part := [.acct, .periodStart] ++ reporting

theorem rolledOver_touches (s : State) : Touches rolloverParts s s.rolledOver :=
  (((closeAccounts_touches s).mono (by decide)).then_mono (offerRollovers_signalled _ s).touches (by decide)).then_mono
    (periodStart_touches _ _) (by decide)

theorem rolledOver_periodStart (s : State) : s.rolledOver.periodStart = s.clock.day := rfl

theorem rolledOver_object (s : State) (o : ObjId) :
    s.rolledOver.object o = { s.object o with acct := (s.object o).acct.rollover } := by
  rw [← closeAccounts_object]
  exact (offerRollovers_signalled s.closeAccounts s).reported.object o

theorem rolledOver_logsOf (s : State) {o : ObjId} {test : Record → Bool} (htest : OwnTest o test) :
    LogsOf test rolloverBudget s s.rolledOver ((s.rolloverRecord o).filter test) := by
  have hclock : s.closeAccounts.clock = s.clock := closeAccounts_touches s .clock (by decide)
  have hstart : Logs (s.closeAccounts.forObjects fun o t => t.offerRollover s o) s.rolledOver [] := .of_same rfl rfl
  have hall := ((LogsOf.of_silent (closeAccounts_logs s) 0).trans (offerRollovers_logsOf hclock htest)).trans (.of_silent hstart 0)
  rw [List.nil_append, List.append_nil, Nat.zero_add] at hall
  exact hall

theorem rollover_due {s : State} (h : s.periodN ≤ s.clock.day - s.periodStart) : s.rollover = s.rolledOver.reevalAll := by
  have hclock : (s.closeAccounts.forObjects fun o t => t.offerRollover s o).clock = s.clock :=
    ((offerRollovers_signalled _ s).reported.clock).trans (closeAccounts_touches s .clock (by decide))
  have hrolled : s.rollover = State.reevalAll { s.closeAccounts.forObjects fun o t => t.offerRollover s o with
      periodStart := (s.closeAccounts.forObjects fun o t => t.offerRollover s o).clock.day } := if_pos h
  rw [hrolled, hclock, State.rolledOver]

theorem rollover_not_due {s : State} (h : s.clock.day - s.periodStart < s.periodN) : s.rollover = s := if_neg h.not_ge

/-! ### Every pace state evaluated -/

/-- A second evaluation finds every pace state as it is. -/
theorem paceRecord_reevalAll (s : State) (o : ObjId) : s.reevalAll.paceRecord o = [] := by
  rw [State.paceRecord, ← reevalAll_paceCurrent s o, paceChange_self]

theorem paceRecord_eq (s : State) (o : ObjId) : s.paceRecord o = paceChange s.clock o (s.object o).cfg.zone (s.object o).pace
    (s.reevalAll.object o).pace (s.object o).acct.consumed := by
  rw [reevalAll_object]
  rfl

/-! ### The work of a minute mark after its charges (R78) -/

/-- The rollover of a mark that is a day boundary, and the evaluation of every pace state. -/
def State.turned (s : State) (m : GTime) : State := (if m.isDayStart then s.rollover else s).reevalAll

/-- Whether the mark `m` ends the period (R74). -/
def State.rolls (s : State) (m : GTime) : Bool := m.isDayStart && decide (s.periodN ≤ s.clock.day - s.periodStart)

theorem rolls_iff {s : State} {m : GTime} : s.rolls m = true ↔ m.sec = 0 ∧ s.periodN ≤ s.clock.day - s.periodStart := by
  simp [State.rolls, GTime.isDayStart]

theorem turned_rolls {s : State} {m : GTime} (h : s.rolls m = true) : s.turned m = s.rolledOver.reevalAll.reevalAll := by
  obtain ⟨hday, hover⟩ := rolls_iff.mp h
  rw [State.turned, GTime.isDayStart, hday, if_pos (by rfl), rollover_due hover]

theorem turned_not_rolls {s : State} {m : GTime} (h : ¬ s.rolls m = true) : s.turned m = s.reevalAll := by
  rw [State.turned]
  split
  · next hday => rw [rollover_not_due (Nat.lt_of_not_le fun hover => h (rolls_iff.mpr ⟨beq_iff_eq.mp hday, hover⟩))]
  · rfl

/-- What a minute mark touches, besides the marks and the store. -/
abbrev turnParts : List Part := [.acct, .periodStart] ++ paceEffects

theorem turned_touches (s : State) (m : GTime) : Touches turnParts s (s.turned m) := by
  by_cases h : s.rolls m = true
  · rw [turned_rolls h]
    exact (((rolledOver_touches s).mono (by decide)).then_mono (reevalAll_effects _) (by decide)).then_mono (reevalAll_effects _)
      (by decide)
  · rw [turned_not_rolls h]
    exact (reevalAll_effects s).mono (by decide)

theorem turned_paceCurrent (s : State) (m : GTime) : PaceCurrent (s.turned m) := reevalAll_paceCurrent _

/-- The bytes the records of a turn can take. -/
def turnBudget : Nat := rolloverBudget + paceBudget + paceBudget

/-- What the rest of a minute mark makes of the period and of an object. -/
structure Turned (s t : State) (o : ObjId) (rolls : Bool) : Prop where
  periodStart : t.periodStart = if rolls then s.clock.day else s.periodStart
  acct        : (t.object o).acct = if rolls then (s.object o).acct.rollover else (s.object o).acct
  logs        : ∀ test, OwnTest o test → LogsOf test turnBudget s t (((if rolls then s.rolloverRecord o else []) ++
    paceChange s.clock o (s.object o).cfg.zone (s.object o).pace (t.object o).pace (t.object o).acct.consumed).filter test)

theorem turned_turned (s : State) (m : GTime) (o : ObjId) : Turned s (s.turned m) o (s.rolls m) := by
  by_cases h : s.rolls m = true
  · rw [turned_rolls h]
    have hobject : s.rolledOver.reevalAll.reevalAll.object o = s.rolledOver.reevalAll.object o := by
      rw [reevalAll_object, ← reevalAll_paceCurrent]
    have hclock : s.rolledOver.clock = s.clock := rolledOver_touches s .clock (by decide)
    refine ⟨?_, ?_, fun test htest => ?_⟩
    · rw [if_pos h]
      exact (reevalAll_effects _ .periodStart (by decide)).trans ((reevalAll_effects _ .periodStart (by decide)).trans
        (rolledOver_periodStart s))
    · rw [if_pos h, hobject, reevalAll_object, rolledOver_object]
    · have hlogs := ((rolledOver_logsOf s htest).trans (reevalAll_logsOf _ htest)).trans (reevalAll_logsOf _ htest)
      rw [paceRecord_reevalAll, List.filter_nil, List.append_nil, paceRecord_eq, hclock, rolledOver_object] at hlogs
      rw [if_pos h, List.filter_append, hobject, (reevalAll_effects _).objectAcct o, rolledOver_object]
      exact hlogs
  · rw [turned_not_rolls h]
    refine ⟨?_, ?_, fun test htest => ?_⟩
    · rw [if_neg h]
      exact reevalAll_effects s .periodStart (by decide)
    · rw [if_neg h]
      exact (reevalAll_effects s).objectAcct o
    · have hlogs := reevalAll_logsOf s htest
      rw [paceRecord_eq] at hlogs
      rw [if_neg h, List.nil_append, (reevalAll_effects s).objectAcct o]
      exact hlogs.mono (by unfold turnBudget; omega)

end Sys2Proof.Machine
end

section
/-! ## The minute mark (R78) -/

namespace Sys2Proof.Machine

open Sys2Proof

set_option Elab.async false

/-! ### The checkpoint (R77, R186) -/

/-- The checkpoint that a mark at a quarter-hour hands the writer (R77). -/
def State.checkpointAt (s : State) (m : GTime) : State := if m.isQuarter then s.requestCheckpoint else s

section

variable {s : State} {m : GTime}

theorem checkpointAt_touches (s : State) (m : GTime) : Touches [.store] s (s.checkpointAt m) := by
  unfold State.checkpointAt
  split
  · exact requestCheckpoint_touches s
  · exact .refl _ s

theorem checkpointAt_logs (s : State) (m : GTime) : Logs s (s.checkpointAt m) [] := by
  have hstore : ∀ st : Store, Logs s { s with store := st } [] := fun _ => .of_same rfl rfl
  unfold State.checkpointAt State.requestCheckpoint State.beginCheckpoint
  split
  · split
    · exact hstore _
    · exact hstore _
  · exact .refl s

theorem checkpointAt_store_other (h : m.sec % 900 ≠ 0) : (s.checkpointAt m).store = s.store := by
  rw [State.checkpointAt, if_neg (by rwa [GTime.isQuarter, beq_iff_eq])]

theorem checkpointAt_quarter (h : m.sec % 900 = 0) : s.checkpointAt m = s.requestCheckpoint :=
  if_pos (beq_iff_eq.mpr h)

/-- An idle writer begins the checkpoint at once (R186). -/
theorem checkpointAt_idle (h : m.sec % 900 = 0) (hidle : s.store.writing = none) :
    (s.checkpointAt m).store.dose = none ∧ (s.checkpointAt m).store.writing = some (.checkpoint (s.checkpointAt m).doseImage) := by
  have hbegins : s.requestCheckpoint = s.beginCheckpoint := if_neg (by rw [hidle]; exact Bool.false_ne_true)
  rw [checkpointAt_quarter h, hbegins]
  exact ⟨rfl, rfl⟩

/-- A busy writer keeps the checkpoint pending (R186). -/
theorem checkpointAt_busy (h : m.sec % 900 = 0) (hbusy : s.store.writing ≠ none) :
    (s.checkpointAt m).store = { s.store with pendingCheck := true } := by
  have hkeeps : s.requestCheckpoint = { s with store := { s.store with pendingCheck := true } } :=
    if_pos (Option.isSome_iff_ne_none.mpr hbusy)
  rw [checkpointAt_quarter h, hkeeps]

end

/-! ### The work as a whole -/

theorem minuteWork_eq (s : State) (m : GTime) : s.minuteWork m = ((s.blindCharges m).turned m).checkpointAt m := rfl

/-- What the work of a minute mark touches. -/
abbrev minuteParts : List Part := paceEffects ++ [.horizon, .acct, .periodStart, .store]

section

variable (s : State) (m : GTime)

theorem turned_blindCharges_touches : Touches (paceEffects ++ [.horizon, .acct, .periodStart]) s ((s.blindCharges m).turned m) :=
  ((blindCharges_touches s m).mono (by decide)).then_mono (turned_touches _ m) (by decide)

theorem minuteWork_effects : Touches minuteParts s (s.minuteWork m) :=
  ((turned_blindCharges_touches s m).mono (by decide)).then_mono (checkpointAt_touches _ m) (by decide)

theorem rolls_blindCharges : (s.blindCharges m).rolls m = s.rolls m := by
  have htouch := blindCharges_touches s m
  have hn : (s.blindCharges m).periodN = s.periodN := htouch .periodN (by decide)
  have hclock : (s.blindCharges m).clock = s.clock := htouch .clock (by decide)
  have hstart : (s.blindCharges m).periodStart = s.periodStart := htouch .periodStart (by decide)
  rw [State.rolls, State.rolls, hn, hclock, hstart]

theorem minuteWork_paceCurrent : PaceCurrent (s.minuteWork m) := fun o =>
  PaceAt.of_touches (turned_paceCurrent _ m o) (checkpointAt_touches _ m)

theorem minuteWork_horizon (z : ZoneId) : ((s.minuteWork m).zone z).horizon =
    if s.chargesBlind z = true ∧ (s.zone z).horizon.toSeconds ≤ m.toSeconds then m else (s.zone z).horizon := by
  rw [minuteWork_eq, (checkpointAt_touches _ m).zoneHorizon, (turned_touches _ m).zoneHorizon, blindCharges_horizon]

theorem blindCharges_object (o : ObjId) : (s.blindCharges m).object o = s.charged o (blindAccount s m o) :=
  (blindCharges_charged s m (ownTest_pace o)).1

/-- A change of the store alone comes after. -/
theorem Turned.of_store {s t u : State} {o : ObjId} {rolls : Bool} (h : Turned s t o rolls) (ht : Touches [.store] t u)
    (hlogs : Logs t u []) : Turned s u o rolls := by
  refine ⟨?_, ?_, fun test htest => ?_⟩
  · rw [← h.periodStart]
    exact ht .periodStart (by decide)
  · rw [← h.acct, ht.objectAcct]
  · have hall := (h.logs test htest).trans (.of_silent hlogs 0)
    rw [List.append_nil] at hall
    rw [ht.object]
    exact hall

theorem minuteWork_turned (o : ObjId) : Turned (s.blindCharges m) (s.minuteWork m) o (s.rolls m) := by
  rw [← rolls_blindCharges, minuteWork_eq]
  exact (turned_turned _ m o).of_store (checkpointAt_touches _ m) (checkpointAt_logs _ m)

theorem minuteWork_periodStart :
    (s.minuteWork m).periodStart = if s.rolls m then s.clock.day else s.periodStart := by
  have htouch := blindCharges_touches s m
  have hclock : (s.blindCharges m).clock = s.clock := htouch .clock (by decide)
  have hstart : (s.blindCharges m).periodStart = s.periodStart := htouch .periodStart (by decide)
  rw [(minuteWork_turned s m 0).periodStart, hclock, hstart]

theorem minuteWork_acct (o : ObjId) : ((s.minuteWork m).object o).acct =
    if s.rolls m then (blindAccount s m o).rollover else blindAccount s m o := by
  rw [(minuteWork_turned s m o).acct, blindCharges_object]
  rfl

/-- The ROLLOVER record of a mark that ends the period, for an ON object (R74). -/
def markRollover (o : ObjId) : List Record :=
  if m.sec = 0 ∧ s.periodN ≤ s.clock.day - s.periodStart ∧ (s.object o).cfg.use = true then
    [.rollover s.clock o (s.object o).cfg.zone (blindAccount s m o).consumed] else []

theorem rolloverRecord_blindCharges (o : ObjId) :
    (if s.rolls m then (s.blindCharges m).rolloverRecord o else []) = markRollover s m o := by
  have hclock : (s.blindCharges m).clock = s.clock := blindCharges_touches s m .clock (by decide)
  rw [State.rolloverRecord, blindCharges_object, hclock, markRollover, ← ite_and]
  simp only [rolls_iff, and_assoc]
  rfl

/-- The PACE record of the last evaluation of a minute mark (R70). -/
def turnRecord (o : ObjId) : List Record :=
  paceChange s.clock o (s.object o).cfg.zone (blindPace s m o) ((s.minuteWork m).object o).pace
    ((s.minuteWork m).object o).acct.consumed

theorem paceChange_blindCharges (o : ObjId) : paceChange (s.blindCharges m).clock o ((s.blindCharges m).object o).cfg.zone
    ((s.blindCharges m).object o).pace ((s.minuteWork m).object o).pace ((s.minuteWork m).object o).acct.consumed =
      turnRecord s m o := by
  have hclock : (s.blindCharges m).clock = s.clock := blindCharges_touches s m .clock (by decide)
  rw [blindCharges_object, hclock]
  rfl

theorem minuteWork_recordsOf {o : ObjId} {test : Record → Bool} (htest : OwnTest o test) : RecordsOf test s (s.minuteWork m)
    ((s.chargeRecord o (blindAccount s m o) ++ (markRollover s m o ++ turnRecord s m o)).filter test) := by
  have hlogs := (blindCharges_charged s m htest).2.trans ((minuteWork_turned s m o).logs test htest)
  rw [rolloverRecord_blindCharges, paceChange_blindCharges, ← List.filter_append] at hlogs
  exact hlogs.recordsOf (by unfold turnBudget rolloverBudget paceBudget queueCapacity; omega)

theorem minuteWork_rollovers (o : ObjId) : RecordsOf (Record.isRolloverOf o) s (s.minuteWork m) (markRollover s m o) := by
  have hrollover : (markRollover s m o).filter (Record.isRolloverOf o) = markRollover s m o := by
    unfold markRollover
    split
    · exact List.filter_cons_of_pos (beq_self_eq_true o)
    · rfl
  have hrecords := minuteWork_recordsOf s m (ownTest_rollover o)
  rwa [List.filter_append, List.filter_append, State.chargeRecord, filter_isRolloverOf_paceChange, turnRecord,
    filter_isRolloverOf_paceChange, hrollover, List.nil_append, List.append_nil] at hrecords

theorem minuteWork_paces (o : ObjId) : RecordsOf (Record.isPaceOf o) s (s.minuteWork m)
    (s.chargeRecord o (blindAccount s m o) ++ turnRecord s m o) := by
  have hrollover : (markRollover s m o).filter (Record.isPaceOf o) = [] := by
    unfold markRollover
    split <;> rfl
  have hrecords := minuteWork_recordsOf s m (ownTest_pace o)
  rwa [List.filter_append, List.filter_append, State.chargeRecord, filter_isPaceOf_paceChange, turnRecord,
    filter_isPaceOf_paceChange, hrollover, List.nil_append] at hrecords

end

/-! ### The command -/

theorem minuteMarks_touches (s : State) (ms : List GTime) : Touches [.marks] s { s with minuteMarks := ms } := by
  intro k hk
  cases k with
  | marks => exact absurd List.mem_cons_self hk
  | _ => rfl

theorem exec_minuteMark_none {s : State} (h : s.minuteMarks = []) : exec .minuteMark s = .next s := by
  show execMinuteMark s = _
  simp only [execMinuteMark, h]

theorem exec_minuteMark_some {s : State} {m : GTime} {ms : List GTime} (h : s.minuteMarks = m :: ms) :
    exec .minuteMark s = .next ({ s with minuteMarks := ms }.minuteWork m) := by
  show execMinuteMark s = _
  simp only [execMinuteMark, h]

/-- What a minute mark leaves of the store (R77, R186). -/
theorem minuteWork_store (s : State) (m : GTime) :
    (m.sec % 900 ≠ 0 → (s.minuteWork m).store = s.store) ∧
    (m.sec % 900 = 0 → s.store.writing = none → (s.minuteWork m).store.dose = none ∧
      (s.minuteWork m).store.writing = some (.checkpoint (s.minuteWork m).doseImage)) ∧
    (m.sec % 900 = 0 → s.store.writing ≠ none → (s.minuteWork m).store = { s.store with pendingCheck := true }) := by
  have hstore : ((s.blindCharges m).turned m).store = s.store := turned_blindCharges_touches s m .store (by decide)
  rw [minuteWork_eq, ← hstore]
  exact ⟨checkpointAt_store_other, checkpointAt_idle, checkpointAt_busy⟩

end Sys2Proof.Machine

open Sys2Proof Sys2Proof.Machine

set_option Elab.async false

/-- Settles O44: the mark's work is blind charges, then rollover and every pace state, then the checkpoint. -/
theorem minuteMarkDoesTheDoseWork : Obligations.MinuteMarkDoesTheDoseWork := by
  intro s
  refine ⟨exec_minuteMark_none, fun m ms hmarks => ?_⟩
  have hexec := exec_minuteMark_some hmarks
  have htouch := minuteWork_effects { s with minuteMarks := ms } m
  have hpace := minuteWork_paceCurrent { s with minuteMarks := ms } m
  have hhorizon := minuteWork_horizon { s with minuteMarks := ms } m
  have hstart := minuteWork_periodStart { s with minuteMarks := ms } m
  have hacct : ∀ o, _ = if s.rolls m then (blindAccount s m o).rollover else blindAccount s m o :=
    minuteWork_acct { s with minuteMarks := ms } m
  have hstore := minuteWork_store { s with minuteMarks := ms } m
  have hrollovers := minuteWork_rollovers { s with minuteMarks := ms } m
  have hpaces := minuteWork_paces { s with minuteMarks := ms } m
  unfold turnRecord at hpaces
  generalize State.minuteWork { s with minuteMarks := ms } m = t at *
  have hwaiting : (t.minuteMarks, t.fiveMarks) = (ms, s.fiveMarks) := htouch .marks (by decide)
  obtain ⟨hminute, hfive⟩ := Prod.mk.inj hwaiting
  obtain ⟨hother, hidle, hbusy⟩ := hstore
  refine ⟨t, hexec, hminute, hfive, hpace, hhorizon, chargesBlind_iff s, fun hday hover => ?_, fun hstands => ?_, hother, hidle, hbusy,
    hrollovers, hpaces, ((minuteMarks_touches s ms).mono (by decide)).then_mono htouch (by decide)⟩
  · have hrolls : s.rolls m = true := rolls_iff.mpr ⟨hday, hover⟩
    exact ⟨hstart.trans (if_pos hrolls), fun o => (hacct o).trans (if_pos hrolls)⟩
  · have hrolls : ¬ s.rolls m = true := fun hrolls => by
      obtain ⟨hday, hover⟩ := rolls_iff.mp hrolls
      omega
    exact ⟨hstart.trans (if_neg hrolls), fun o => (hacct o).trans (if_neg hrolls)⟩

end

section
/-! ## What a command can do to sets, grants, overrides and LC

Every command is a run of operations that leave the parts that admission rests on, and of the few that do not. A property of those
parts is kept by every command once it is kept by each of these few. -/

namespace Sys2Proof.Machine

open Sys2Proof

set_option Elab.async false

/-- The parts that admission, override and delivery rest on. -/
abbrev admissionParts : List Part := [.supervised, .cfg, .link, .txn, .ovr, .granted, .delivery, .commands]

/-- No port that has no set open gets one. -/
def OpensNone (s t : State) : Prop := ∀ q, (s.port q).link = none → (t.port q).link = none

/-- A property that every operation on the parts of admission keeps. -/
structure AdmissionInvariant (P : State → Prop) : Prop where
  still : ∀ {F : List Part} {s t : State}, P s → Touches F s t → (∀ k ∈ admissionParts, k ∉ F) → P t
  startUp : ∀ (s : State) straps running flag lost byPin, P (s.startUp straps running flag lost byPin)
  links : ∀ {s t : State}, P s → Touches receivers s t → (s.supervised = false → OpensNone s t) → P t
  closeMembers : ∀ {s : State} {p l} z, P s → (s.port p).link = some l → P (s.closeMembers p z l)
  admitAlone : ∀ {s : State} p tag z ch v, P s → s.supervised = true → P (s.admitAlone p tag z ch v)
  recomputeCeiling : ∀ {s : State} z, P s → P (s.recomputeCeiling z)
  endParts : ∀ {s : State} z k, P s → P (s.modZone z fun zn => { zn with ovr := zn.ovr.endWith k })
  computeOverride : ∀ {s : State} z, P s → P (s.computeOverride z)
  rewire : ∀ {s : State} z new, P s → P ((s.switchUse z new).rebindAll z (s.zone z).cfg new)
  enterSupervised : ∀ {s : State}, P s → s.supervised = false → P s.enterSupervised
  enterStandby : ∀ {s : State}, P s → P s.enterStandby
  abandon : ∀ {s : State} n, P s → P (s.abandon n)
  free : ∀ {s : State}, P s → P { s with txn := none }
  outcome : ∀ {s t : State} {x}, P s → s.txn = some x → x.abandoned = false → x.op ≠ .read →
    Touches (.txn :: actuatorOutcomes) s t → t.txn = none → P t
  begin : ∀ {s : State} {c}, P s → s.choice = some c → P (s.begin c)
  prune : ∀ {s : State}, P s → P s.pruneCommands
  retry : ∀ {s : State} {n}, P s → s.actuatorOpen n = true → P (s.retryNode n)

theorem dropLink_link (s : State) (p q : PortId) : ((s.dropLink p).port q).link = if q = p then none else (s.port q).link := by
  rw [State.dropLink, State.port_modPort]
  split <;> rfl

/-- R107: a set that breaks is closed, and no other is. -/
theorem breakLink_link (s : State) (p q : PortId) (b : Bool) :
    ((s.breakLink p b).port q).link = if q = p then none else (s.port q).link := by
  unfold State.breakLink
  split
  · next hnone =>
    split
    · next hq => rw [hq, hnone]
    · rfl
  · next l _ =>
    have hlinks : ∀ t, Touches reports (s.dropLink p) t → (t.port q).link = if q = p then none else (s.port q).link := fun t ht =>
      (congrFun (ht .link (by decide)) q).trans (dropLink_link s p q)
    have hmembers := foldl_touches (fun s m => s.breakMember p l.zone m) (fun s m => breakMember_touches s p l.zone m) l.members
      (s.dropLink p)
    dsimp only
    split
    · exact hlinks _ (hmembers.trans (noteRefusal_touches _ p _ _ _ _))
    · exact hlinks _ hmembers

/-- A change that at most closes one port's set opens none. -/
theorem OpensNone.of_close {s t : State} {p : PortId}
    (h : ∀ q, (t.port q).link = if q = p then none else (s.port q).link) : OpensNone s t := fun q hq => by
  rw [h, hq, ite_self]

namespace AdmissionInvariant

variable {P : State → Prop} {s : State}

theorem of_touches (K : AdmissionInvariant P) (h : P s) {F : List Part} {t : State} (ht : Touches F s t)
    (hF : ∀ k ∈ admissionParts, k ∉ F := by decide) : P t := K.still h ht hF

/-! ### Linked sets -/

theorem breakLink (K : AdmissionInvariant P) (h : P s) (p : PortId) (b : Bool) : P (s.breakLink p b) :=
  K.links h ((breakLink_touches s p b).mono (by decide)) fun _ => .of_close (breakLink_link s p · b)

theorem dropLink (K : AdmissionInvariant P) (h : P s) (p : PortId) : P (s.dropLink p) :=
  K.links h ((dropLink_touches s p).mono (by decide)) fun _ => .of_close (dropLink_link s p)

theorem closeLink (K : AdmissionInvariant P) (h : P s) (p : PortId) : P (s.closeLink p) := by
  unfold State.closeLink
  split
  · exact h
  · next hl =>
    split
    · exact K.dropLink (K.closeMembers _ h hl) p
    · exact K.dropLink h p

theorem countRequest (K : AdmissionInvariant P) (h : P s) (p : PortId) : P (s.countRequest p) := by
  unfold State.countRequest
  split
  · exact h
  · next l hl =>
    split
    · exact K.closeLink h p
    · refine K.links h (modPort_touches s p _) fun _ q hq => ?_
      rw [State.port_modPort, if_neg fun e => ?_]
      · exact hq
      · rw [e, hl] at hq
        cases hq

/-! ### The shapes of a request -/

theorem refuse (K : AdmissionInvariant P) (h : P s) (p : PortId) (f : Frame) (code : Status) : P (s.refuse p f code) :=
  K.of_touches h (refuse_touches s p f code)

theorem answer (K : AdmissionInvariant P) (h : P s) (p : PortId) (f : Frame) (st : Status) (pl : List Byte) :
    P (s.answer p f st pl) := K.of_touches h (answer_touches s p f st pl)

theorem takeFrame (K : AdmissionInvariant P) (h : P s) {p : PortId} {row : ReqRow} {f : Frame} {t : State}
    (ht : s.takeFrame p row = some (f, t)) : P t := by
  unfold State.takeFrame at ht
  split at ht
  · cases ht
  · split at ht
    · cases ht
      exact K.of_touches h (taken_touches s p _)
    · cases ht

theorem serve (K : AdmissionInvariant P) (h : P s) (p : PortId) (row : ReqRow) (handle : Frame → State → State)
    (hh : ∀ f t, P t → P (handle f t)) : P (s.serve p row handle) := by
  unfold State.serve
  split
  · next ht => exact K.countRequest (hh _ _ (K.takeFrame h ht)) p
  · exact h

theorem withArg {α : Type} (K : AdmissionInvariant P) (h : P s) (p : PortId) (f : Frame) (arg : Option α)
    (act : α → State → State) (ha : ∀ a, P (act a s)) : P (s.withArg p f arg act) := by
  unfold State.withArg
  split
  · exact K.refuse h p f _
  · exact ha _

theorem withRight (K : AdmissionInvariant P) (h : P s) (p : PortId) (f : Frame) (z : ZoneId) (r : Right) (act : State → State)
    (ha : P (act s)) : P (s.withRight p f z r act) := by
  unfold State.withRight
  split
  · exact ha
  · exact K.refuse h p f _

theorem withSub (K : AdmissionInvariant P) (h : P s) (p : PortId) (f : Frame) (act : Subscription → State → State)
    (ha : ∀ sub, P (act sub s)) : P (s.withSub p f act) := by
  unfold State.withSub
  split
  · exact K.refuse h p f _
  · exact ha _

theorem asSystem (K : AdmissionInvariant P) (h : P s) (p : PortId) (f : Frame) (act : State → State) (ha : P (act s)) :
    P (s.asSystem p f act) := by
  unfold State.asSystem
  split
  · exact ha
  · exact K.refuse h p f _

theorem writeFields {α : Type} (K : AdmissionInvariant P) (h : P s) (p : PortId) (f : Frame) (mask : Nat) (fields : List Byte)
    (field : Nat → List Byte → α → Option (α × List Byte)) (held : α) (ok : α → Bool) (apply : α → State → State)
    (bytes : State → List Byte) (ha : ∀ a, P (apply a s)) : P (s.writeFields p f mask fields field held ok apply bytes) := by
  unfold State.writeFields
  split
  · exact K.refuse h p f _
  · split
    · exact K.answer (ha _) p f _ _
    · exact K.refuse h p f _

/-! ### Receivers -/

theorem discard (K : AdmissionInvariant P) (h : P s) (p : PortId) : P (s.discard p) :=
  K.breakLink (K.of_touches (F := [.rx, .counters]) h (modPort_touches s p _)) p false

theorem receiveFrame (K : AdmissionInvariant P) (h : P s) (p : PortId) (f : Frame) : P (s.receiveFrame p f) := by
  unfold State.receiveFrame
  split
  · exact K.of_touches (F := [.queue]) h (modPort_touches s p _)
  · have hcounted : Touches [.counters] s (s.modPort p fun pt => { pt with portFull := bump 1 pt.portFull }) :=
      modPort_touches s p _
    exact K.breakLink (K.of_touches (K.of_touches (K.of_touches h hcounted) (noteRefusal_touches _ p _ _ _ _))
      (respond_touches _ p _ _ _)) p false

theorem takeByte (K : AdmissionInvariant P) (h : P s) (p : PortId) (b : Byte) : P (s.takeByte p b) := by
  unfold State.takeByte
  split
  · split
    · exact K.of_touches h (setReceiver_touches s p _)
    · exact h
  · unfold State.takeBytes
    split
    · exact h
    · split
      · exact K.discard h p
      · split
        · exact K.of_touches h (setReceiver_touches s p _)
        · unfold State.endFrame
          dsimp only
          split
          · split
            · exact K.receiveFrame (K.of_touches h (setReceiver_touches s p _)) p _
            · exact K.discard h p
          · exact K.discard h p

/-! ### SET_POINT and LINK -/

theorem refusedAndBroken (K : AdmissionInvariant P) (h : P s) (p : PortId) (tag : Byte) (chan : Option (ZoneId × ChanKind))
    (r : Option Int) (code : Status) : P ((s.refuseSetPoint p tag chan r code 0).breakLink p true) :=
  K.breakLink (K.of_touches h (refuseSetPoint_touches s p tag chan r code 0)) p true

theorem setPointStanding (K : AdmissionInvariant P) (h : P s) (hsup : s.supervised = true) (p : PortId) (tag : Byte) (z : ZoneId)
    (ch : ChanKind) (v : Int) : P (s.setPointStanding p tag z ch v) := by
  unfold State.setPointStanding
  split
  · exact K.admitAlone p tag z ch v h hsup
  · split
    · exact K.refusedAndBroken h p tag _ _ _
    · exact K.countRequest (K.links h (modPort_touches s p _) fun hoff => absurd (hsup.symm.trans hoff) (by decide)) p

theorem setPointRequest (K : AdmissionInvariant P) (h : P s) (p : PortId) (f : Frame) : P (s.setPointRequest p f) := by
  unfold State.setPointRequest
  split
  · exact K.refusedAndBroken h p _ _ _ _
  · next z ch v _ =>
    split
    · exact K.refusedAndBroken h p _ _ _ _
    · next hsup =>
      have ht := standing_touches s p z ch
      generalize s.standing p z ch = r at ht ⊢
      obtain ⟨t, code⟩ := r
      have hstood := K.of_touches h ht
      cases code with
      | some code => exact K.refusedAndBroken hstood p _ _ _ _
      | none =>
        refine K.setPointStanding hstood ?_ p _ z ch v
        have hon : s.supervised = true := by simpa using hsup
        exact Eq.trans (ht .supervised (by decide)) hon

theorem linkRequest (K : AdmissionInvariant P) (h : P s) (p : PortId) (f : Frame) : P (s.linkRequest p f) := by
  unfold State.linkRequest
  split
  · have hrefused := K.refuse h p f .badArg
    refine K.countRequest (K.links hrefused (modPort_touches _ p _) fun _ q hq => ?_) p
    rw [State.port_modPort]
    split
    · next e =>
      rw [e] at hq
      simp only [hq, Option.map_none]
    · exact hq
  · split
    · exact K.refuse h p f _
    · next hsup =>
      refine K.answer (K.links h (modPort_touches s p _) fun hoff => ?_) p f _ _
      simp [hoff] at hsup

/-! ### Excursions -/

theorem setExc (K : AdmissionInvariant P) (h : P s) (z : ZoneId) (k : ExcKind) (e : Option Excursion) : P (s.setExc z k e) :=
  K.of_touches h (setExc_touches s z k e)

theorem openExc (K : AdmissionInvariant P) (h : P s) (z : ZoneId) (k : ExcKind) (e : Excursion) : P (s.openExc z k e) :=
  K.of_touches (K.of_touches (K.setExc h z k _) (offer_touches _ _)) (pendZone_touches _ z _)

theorem closeExc (K : AdmissionInvariant P) (h : P s) (z : ZoneId) (k : ExcKind) (r : CloseReason) : P (s.closeExc z k r) := by
  unfold State.closeExc
  split
  · exact h
  · exact K.of_touches (K.of_touches (K.setExc (K.endParts z k h) z k none) (offer_touches _ _)) (pendZone_touches _ z _)

theorem testBand (K : AdmissionInvariant P) (h : P s) (z : ZoneId) (k : ExcKind) (lo hi v : Int) : P (s.testBand z k lo hi v) := by
  unfold State.testBand
  split
  · split
    · exact K.openExc h z k _
    · exact h
  · split
    · exact K.closeExc h z k _
    · split
      · exact K.setExc h z k _
      · exact h

theorem testSwing (K : AdmissionInvariant P) (h : P s) (m : Bool) (z : ZoneId) (k : ExcKind) (a b : Int) :
    P (s.testSwing m z k a b) := by
  unfold State.testSwing
  split
  · split
    · exact K.openExc h z k _
    · exact h
  · split
    · exact K.closeExc h z k _
    · exact K.setExc h z k _

theorem testSwings (K : AdmissionInvariant P) (h : P s) (m : Bool) (z : ZoneId) : P (s.testSwings m z) := by
  unfold State.testSwings
  split
  · exact h
  · exact K.testSwing (K.testSwing h m z _ _ _) m z _ _ _

theorem testClimate (K : AdmissionInvariant P) (h : P s) (z : ZoneId) : P (s.testClimate z) := by
  unfold State.testClimate
  split
  · split
    · exact h
    · dsimp only
      have htemp := fun lo hi v => K.testBand h z .tBand lo hi v
      split
      · exact K.testSwings (htemp _ _ _) false z
      · exact K.testSwings (K.testBand (htemp _ _ _) z _ _ _ _) false z
  · exact h

theorem modDet (K : AdmissionInvariant P) (h : P s) (z : ZoneId) (f : Zone → Detection) :
    P (s.modZone z fun zn => { zn with det := f zn }) := K.of_touches (F := [.det]) h (modZone_touches s z _)

theorem testLux (K : AdmissionInvariant P) (h : P s) (z : ZoneId) (e : Nat) : P (s.testLux z e) := by
  unfold State.testLux
  dsimp only
  split
  · split
    · exact K.setExc h z _ _
    · exact K.closeExc h z _ _
  · split
    · split
      · exact K.openExc h z _ _
      · exact K.modDet h z _
    · exact h
  · next q _ _ =>
    split
    · generalize (if q.peak < e - (s.zone z).ceiling then
        { q with peak := e - (s.zone z).ceiling, peakTime := s.clock } else q) = q'
      split
      · exact K.openExc (K.modDet h z _) z _ _
      · exact K.modDet h z _
    · exact K.modDet h z _

theorem testUv (K : AdmissionInvariant P) (h : P s) (z : ZoneId) (uv : Nat) : P (s.testUv z uv) := by
  unfold State.testUv
  dsimp only
  split
  · split
    · exact K.setExc h z _ _
    · exact K.modDet h z _
    · exact K.openExc (K.modDet h z _) z _ _
  · exact K.closeExc (K.modDet h z _) z _ _

/-! ### Envelopes, C and pace -/

theorem updateConflict (K : AdmissionInvariant P) (h : P s) (z : ZoneId) : P (s.updateConflict z) := by
  have hset : ∀ b : Bool, P (s.modZone z fun zn => { zn with conflict := b }) := fun b =>
    K.of_touches (F := [.conflict]) h (modZone_touches s z _)
  unfold State.updateConflict
  dsimp only
  split
  · exact K.closeExc (K.closeExc (K.of_touches (hset _) (addSticky_touches _ z _)) z _ _) z _ _
  · exact hset _

theorem recomputeZone (K : AdmissionInvariant P) (h : P s) (z : ZoneId) : P (s.recomputeZone z) :=
  K.updateConflict (K.recomputeCeiling z (K.of_touches (F := [.eff]) h (modZone_touches s z _))) z

theorem reevalPace (K : AdmissionInvariant P) (h : P s) (o : ObjId) : P (s.reevalPace o) := by
  unfold State.reevalPace
  dsimp only
  split
  · exact h
  · have hset : P (s.modObject o fun ob => { ob with pace := s.paceNow o }) :=
      K.of_touches (F := [.pace]) h (modObject_touches s o _)
    split
    · exact K.recomputeCeiling _ (K.of_touches hset (offer_touches _ _))
    · exact K.of_touches hset (offer_touches _ _)

theorem reevalAll (K : AdmissionInvariant P) (h : P s) : P s.reevalAll :=
  foldl_keeps (fun t o => t.reevalPace o) P (fun _ o ht => K.reevalPace ht o) _ s h

/-! ### Charges -/

theorem modAcct (K : AdmissionInvariant P) (h : P s) (o : ObjId) (a : Account → Account) :
    P (s.modObject o fun ob => { ob with acct := a ob.acct }) := K.of_touches (F := [.acct]) h (modObject_touches s o _)

theorem chargeObject (K : AdmissionInvariant P) (h : P s) (o : ObjId) (inc : Nat) : P (s.chargeObject o inc) := by
  have hcharged := K.modAcct h o fun a => a.charge inc
  unfold State.chargeObject
  dsimp only
  split
  · exact hcharged
  · exact K.reevalPace hcharged o

theorem chargeZone (K : AdmissionInvariant P) (h : P s) (z : ZoneId) (upTo : GTime) (e : Nat) : P (s.chargeZone z upTo e) := by
  refine K.of_touches ?_ (horizonTo_touches _ z upTo)
  refine foldl_keeps _ P (fun t o ht => ?_) _ s h
  show P (if _ then _ else _)
  split
  · exact K.chargeObject ht o _
  · exact ht

theorem blindCharge (K : AdmissionInvariant P) (h : P s) (z : ZoneId) (mark : GTime) : P (s.blindCharge z mark) := by
  unfold State.blindCharge
  split
  · exact K.chargeZone h z _ _
  · exact h

theorem rollover (K : AdmissionInvariant P) (h : P s) : P s.rollover := by
  unfold State.rollover
  split
  · have hrolled := foldl_keeps (fun t o => t.modObject o fun ob => { ob with acct := ob.acct.rollover }) P
      (fun t o ht => K.modAcct ht o fun a => a.rollover) allObjects s h
    refine K.reevalAll (K.of_touches ?_ (periodStart_touches _ _))
    refine foldl_keeps _ P (fun t o ht => ?_) allObjects _ hrolled
    show P (if _ then _ else _)
    split
    · exact K.of_touches ht (offer_touches _ _)
    · exact ht
  · exact h

theorem minuteWork (K : AdmissionInvariant P) (h : P s) (mark : GTime) : P (s.minuteWork mark) := by
  have hcharged := foldl_keeps (fun t z => t.blindCharge z mark) P (fun t z ht => K.blindCharge ht z mark) allZones s h
  have hrolled : ∀ t : State, P t → P (if mark.isDayStart then t.rollover else t) := fun t ht => by
    split
    · exact K.rollover ht
    · exact ht
  have hpaced := K.reevalAll (hrolled _ hcharged)
  unfold State.minuteWork
  dsimp only
  split
  · exact K.of_touches hpaced (requestCheckpoint_touches _)
  · exact hpaced

/-! ### Samples -/

theorem modEst (K : AdmissionInvariant P) (h : P s) (z : ZoneId) (f : Zone → Estimate) :
    P (s.modZone z fun zn => { zn with est := f zn }) := K.of_touches (F := [.est]) h (modZone_touches s z _)

theorem climateSample (K : AdmissionInvariant P) (h : P s) (z : ZoneId) (t rh : Int) : P (s.climateSample z t rh) :=
  K.of_touches (K.testClimate (K.modEst h z _) z) (countClimate_touches _ z)

theorem lightSample (K : AdmissionInvariant P) (h : P s) (z : ZoneId) (e uv : Nat) : P (s.lightSample z e uv) := by
  unfold State.lightSample
  dsimp only
  split
  · exact K.of_touches (K.computeOverride z (K.testUv (K.testLux (K.chargeZone (K.modEst h z _) z _ _) z _) z _))
      (countLight_touches _ z)
  · exact K.of_touches (K.modEst h z _) (countLight_touches _ z)

theorem markZone (K : AdmissionInvariant P) (h : P s) (z : ZoneId) : P (s.markZone z) := by
  unfold State.markZone
  dsimp only
  split
  · exact K.testSwings (K.modEst h z _) true z
  · exact K.modEst h z _

/-! ### The loop -/

theorem endRead (K : AdmissionInvariant P) (h : P s) (n : NodeId) (d : Option ReplyData) : P (s.endRead n d) := by
  have hnoted : ∀ (f : Node → Node) (st : NodeState), P (((s.modNode n f).setNodeState n st).rescheduleRead n) := fun f st =>
    K.of_touches (K.of_touches (K.of_touches h (modNode_touches s n f)) (setNodeState_touches _ n st)) (rescheduleRead_touches _ n)
  unfold State.endRead
  split
  · exact hnoted _ _
  · dsimp only
    split
    · exact K.climateSample (hnoted _ _) _ _ _
    · exact K.lightSample (hnoted _ _) _ _ _
    · exact hnoted _ _

theorem endTransaction (K : AdmissionInvariant P) (h : P s) {x : Transaction} (hx : s.txn = some x) (hlive : x.abandoned = false)
    (d : Option ReplyData) : P (s.endTransaction x d) := by
  have hfree : Touches (.txn :: actuatorOutcomes) s { s with txn := none } := (txn_touches s none).mono (by decide)
  unfold State.endTransaction
  dsimp only
  split
  · exact K.endRead (K.free h) _ d
  · next hop =>
    have hend := endCommand_touches { s with txn := none } x.node d
    exact K.outcome h hx hlive (by simp [hop]) (hfree.then_mono hend (by decide)) (hend .txn (by decide))
  · next hop =>
    have hend := endStatus_touches { s with txn := none } x.node d
    exact K.outcome h hx hlive (by simp [hop]) (hfree.then_mono hend (by decide)) (hend .txn (by decide))

theorem changeKind (K : AdmissionInvariant P) (h : P s) (n : NodeId) (kind : NodeKind) (code : Nat) :
    P (s.changeKind n kind code) := by
  have habandoned := fun f => K.abandon n (K.of_touches (K.of_touches h (setNodeState_touches s n .absent)) (modNode_touches _ n f))
  unfold State.changeKind
  dsimp only
  split
  · exact K.of_touches (habandoned _) (setDue_touches _ n _)
  · exact habandoned _

theorem changeCode (K : AdmissionInvariant P) (h : P s) (n : NodeId) (code : Nat) : P (s.changeCode n code) := by
  have hset : P (s.modNode n fun nd => { nd with code := code }) := K.of_touches h (modNode_touches s n _)
  unfold State.changeCode
  dsimp only
  split
  · exact K.of_touches (K.of_touches (K.of_touches hset (setNodeState_touches _ n _)) (modNode_touches _ n _)) (flagRate_touches _ n)
  · exact K.of_touches (K.of_touches hset (setDue_touches _ n _)) (flagRate_touches _ n)

theorem applyNode (K : AdmissionInvariant P) (h : P s) (n : NodeId) (kind : NodeKind) (code : Nat) : P (s.applyNode n kind code) := by
  have hkind : P (if (s.node n).kind = kind then s else s.changeKind n kind code) := by
    split
    · exact h
    · exact K.changeKind h n kind code
  unfold State.applyNode
  dsimp only
  split
  · exact K.changeCode hkind n code
  · exact hkind

/-! ### Writes and the clock -/

theorem applyZone (K : AdmissionInvariant P) (h : P s) (z : ZoneId) (new : ZoneRec) : P (s.applyZone z new) := by
  rw [applyZone_eq]
  exact K.recomputeZone (K.of_touches (K.of_touches (K.rewire z new h) (wakeZone_touches _ z _ new))
    (sensorChanges_touches _ z _ new)) z

theorem applyEnvelope (K : AdmissionInvariant P) (h : P s) (z : ZoneId) (new : Envelope) : P (s.applyEnvelope z new) :=
  K.recomputeZone (K.of_touches (F := [.env]) h (modZone_touches s z _)) z

theorem applyObject (K : AdmissionInvariant P) (h : P s) (o : ObjId) (new : ObjConf) : P (s.applyObject o new) := by
  have hwritten : P (s.modObject o fun ob => { ob with cfg := new }) := K.of_touches (F := [.objCfg]) h (modObject_touches s o _)
  have hzones := foldl_keeps (fun t z => t.recomputeZone z) P (fun t z ht => K.recomputeZone ht z)
    (touchedZones (s.object o).cfg new) _ hwritten
  have hpaced : ∀ t, P t → P (if (s.object o).cfg.allowance = new.allowance ∧ (s.object o).cfg.slack = new.slack then t
      else t.reevalPace o) := fun t ht => by
    split
    · exact ht
    · exact K.reevalPace ht o
  unfold State.applyObject
  dsimp only
  split
  · exact foldl_keeps (fun t z => t.recomputeCeiling z) P (fun t z ht => K.recomputeCeiling z ht) _ _ (hpaced _ hzones)
  · exact hpaced _ hzones

theorem setClock (K : AdmissionInvariant P) (h : P s) (t : GTime) : P (s.setClock t) := by
  have hset : Touches [.clock, .clockLost, .marks] s
      { s with clock := t, clockLost := false, minuteMarks := [], fiveMarks := [] } := by
    intro k hk
    cases k <;> first | rfl | simp at hk
  have hrings : ∀ u : State, P u →
      P (u.forZones fun z s => s.modZone z fun zn => { zn with est := { zn.est with ring := [] } }) := fun u hu =>
    K.of_touches (F := [.est]) hu (forZones_touches u _ fun z s => modZone_touches s z _)
  have hdose : ∀ u : State, P u → P u.clockDose := fun u hu => by
    have hh : Touches [.horizon] u (u.forZones fun z s => s.modZone z fun zn => { zn with horizon := s.clock }) :=
      forZones_touches u _ fun z s => modZone_touches s z _
    exact K.reevalAll (K.of_touches (K.of_touches hu hh) (periodStart_touches _ _))
  have hrecorded := K.of_touches (K.of_touches h hset) (offer_touches _ (.clock s.clock t))
  exact K.of_touches (F := [.det]) (K.of_touches (K.of_touches (hdose _ (hrings _ hrecorded)) (touchAll_touches _))
    (clockLoop_touches _)) (forZones_touches _ _ fun z s => modZone_touches s z _)

theorem setPeriod (K : AdmissionInvariant P) (h : P s) (n : Nat) (start : Option Nat) : P (s.setPeriod n start) := by
  rw [setPeriod_eq]
  exact K.reevalAll (K.of_touches h (periodSet_touches s n start))

/-! ### Each request -/

theorem execTakeTenure (K : AdmissionInvariant P) (h : P s) (p : PortId) : NextHas P (execTakeTenure p s) :=
  K.serve h p _ _ fun f t ht => K.withArg ht p f _ _ fun (z, ch, pre) => K.withRight ht p f z _ _ <| by
    have htaken := K.answer (K.of_touches ht (takeChannel_touches t p z ch pre)) p f (t.takeChannel p z ch pre).2
      (tenureBytes ((t.takeChannel p z ch pre).1.chan z ch))
    dsimp only
    split
    · exact K.of_touches htaken (takeLapse_touches _ z ch)
    · exact htaken

theorem execReleaseTenure (K : AdmissionInvariant P) (h : P s) (p : PortId) : NextHas P (execReleaseTenure p s) :=
  K.serve h p _ _ fun f t ht => K.withArg ht p f _ _ fun (z, ch) =>
    K.answer (K.of_touches ht (releaseChannel_touches t p z ch)) p f _ _

theorem execSetHold (K : AdmissionInvariant P) (h : P s) (p : PortId) : NextHas P (execSetHold p s) :=
  K.serve h p _ _ fun f t ht => K.asSystem ht p f _ <| K.withArg ht p f _ _ fun (ch, n) => by
    have hset : Touches [.holds] t { t with holds := t.holds.set (chanIdx ch) n } := by
      intro k hk
      cases k <;> first | rfl | simp at hk
    exact foldl_keeps (fun u z => u.takeLapse z ch) P (fun u z hu => K.of_touches hu (takeLapse_touches u z ch)) allZones _
      (K.answer (K.of_touches ht hset) p f _ _)

theorem execClearConditions (K : AdmissionInvariant P) (h : P s) (p : PortId) : NextHas P (execClearConditions p s) :=
  K.serve h p _ _ fun f t ht => K.withArg ht p f _ _ fun (z, cs) => K.withRight ht p f z _ _ <|
    K.answer (K.of_touches (F := [.sticky]) ht (modZone_touches t z fun zn => { zn with sticky := zn.sticky &&& ~~~cs })) p f _ _

theorem execWriteZone (K : AdmissionInvariant P) (h : P s) (p : PortId) : NextHas P (execWriteZone p s) :=
  K.serve h p _ _ fun f t ht => by
    unfold State.writeZoneRequest
    split
    · split
      · exact K.refuse ht p f _
      · dsimp only
        split
        · exact K.withRight ht p f _ _ _ (K.answer ht p f _ _)
        · exact K.withRight ht p f _ _ _ (K.writeFields ht p f _ _ _ _ _ _ _ fun new => K.applyZone ht _ new)
    · exact K.refuse ht p f _

theorem execWriteEnvelope (K : AdmissionInvariant P) (h : P s) (p : PortId) : NextHas P (execWriteEnvelope p s) :=
  K.serve h p _ _ fun f t ht => by
    unfold State.writeEnvelopeRequest
    split
    · split
      · exact K.refuse ht p f _
      · dsimp only
        split
        · exact K.withRight ht p f _ _ _ (K.answer ht p f _ _)
        · exact K.withRight ht p f _ _ _ (K.writeFields ht p f _ _ _ _ _ _ _ fun new => K.applyEnvelope ht _ new)
    · exact K.refuse ht p f _

theorem execWriteObject (K : AdmissionInvariant P) (h : P s) (p : PortId) : NextHas P (execWriteObject p s) :=
  K.serve h p _ _ fun f t ht => by
    unfold State.writeObjectRequest
    split
    · split
      · exact K.refuse ht p f _
      · dsimp only
        split
        · exact K.withRight ht p f _ _ _ (K.answer ht p f _ _)
        · split
          · exact K.writeFields ht p f _ _ _ _ _ _ _ fun new => K.applyObject ht _ new
          · exact K.refuse ht p f _
    · exact K.refuse ht p f _

theorem execReadNode (K : AdmissionInvariant P) (h : P s) (p : PortId) : NextHas P (execReadNode p s) :=
  K.serve h p _ _ fun f t ht => K.withArg ht p f _ _ fun n => by
    split
    · exact K.withRight ht p f _ _ _ (K.answer ht p f _ _)
    · exact K.answer ht p f _ _

theorem execDrain (K : AdmissionInvariant P) (h : P s) (p : PortId) : NextHas P (execDrain p s) :=
  K.serve h p _ _ fun f t ht => by
    split
    · exact K.refuse ht p f _
    · exact K.withSub ht p f _ fun sub => K.withArg ht p f _ _ fun n => K.of_touches ht (drainRequest_touches t p f sub n)

theorem execScan (K : AdmissionInvariant P) (h : P s) (p : PortId) : NextHas P (execScan p s) :=
  K.serve h p _ _ fun f t ht => by
    split
    · exact K.refuse ht p f _
    · exact K.withSub ht p f _ fun sub => K.withArg ht p f _ _ fun sel => K.of_touches ht (scanRequest_touches t p f sub sel)

theorem execSetWatchOn (K : AdmissionInvariant P) (h : P s) (p : PortId) : NextHas P (execSetWatchOn p s) :=
  K.serve h p _ _ fun f t ht => by
    split
    · exact K.refuse ht p f _
    · exact K.withSub ht p f _ fun _ => K.withArg ht p f _ _ fun sel =>
        K.answer (K.of_touches ht (setWatch_touches t p (some sel))) p f _ _

theorem execMark (K : AdmissionInvariant P) (h : P s) (p : PortId) : NextHas P (execMark p s) :=
  K.serve h p _ _ fun f t ht => K.withArg ht p f _ _ fun zs => by
    split
    · exact K.answer (K.of_touches ht (markZones_touches t zs)) p f _ _
    · exact K.refuse ht p f _

theorem execSetAttention (K : AdmissionInvariant P) (h : P s) (p : PortId) : NextHas P (execSetAttention p s) :=
  K.serve h p _ _ fun f t ht => K.withArg ht p f _ _ fun (enable, zones, conds, mode) =>
    K.answer (K.of_touches (F := [.attn, .settings]) ht
      (modPort_touches t p fun pt => pt.setAttention enable zones conds mode)) p f _ _

theorem execAckAttention (K : AdmissionInvariant P) (h : P s) (p : PortId) : NextHas P (execAckAttention p s) :=
  K.serve h p _ _ fun f t ht => K.withArg ht p f _ _ fun bits =>
    K.answer (K.of_touches (F := [.attn]) ht (modPort_touches t p fun pt => { pt with attn := pt.attn &&& ~~~bits })) p f _ _

theorem execSuperviseOn (K : AdmissionInvariant P) (h : P s) (p : PortId) : NextHas P (execSuperviseOn p s) :=
  K.serve h p _ _ fun f t ht => K.asSystem ht p f _ <| K.withArg ht p f _ _ fun _ => by
    split
    · exact K.answer ht p f _ _
    · next hoff => exact K.answer (K.enterSupervised ht (by simpa using hoff)) p f _ _

theorem execSuperviseOff (K : AdmissionInvariant P) (h : P s) (p : PortId) : NextHas P (execSuperviseOff p s) :=
  K.serve h p _ _ fun f t ht => K.asSystem ht p f _ <| by
    split
    · exact K.answer (K.enterStandby ht) p f _ _
    · exact K.answer ht p f _ _

theorem execWriteAuthority (K : AdmissionInvariant P) (h : P s) (p : PortId) : NextHas P (execWriteAuthority p s) :=
  K.serve h p _ _ fun f t ht => K.asSystem ht p f _ <| K.withArg ht p f _ _ fun (q, zs, rs) => by
    dsimp only
    split
    · exact K.refuse ht p f _
    · refine K.answer (foldl_keeps _ P (fun u z hu => ?_) _ t ht) p f _ _
      show P (if _ then _ else _)
      split
      · exact K.of_touches hu (writeRights_touches u q z rs)
      · exact hu

theorem execWriteNode (K : AdmissionInvariant P) (h : P s) (p : PortId) : NextHas P (execWriteNode p s) :=
  K.serve h p _ _ fun f t ht => K.asSystem ht p f _ <| K.withArg ht p f _ _ fun (n, kind, code) => by
    dsimp only
    split
    · exact K.answer (K.applyNode ht n kind code) p f _ _
    · exact K.refuse ht p f _

theorem execSetPeriod (K : AdmissionInvariant P) (h : P s) (p : PortId) : NextHas P (execSetPeriod p s) :=
  K.serve h p _ _ fun f t ht => K.asSystem ht p f _ <| K.withArg ht p f _ _ fun (n, start) => by
    dsimp only
    split
    · exact K.answer (K.setPeriod ht n start) p f _ _
    · exact K.refuse ht p f _

theorem execSetPoint (K : AdmissionInvariant P) (h : P s) (p : PortId) : NextHas P (execSetPoint p s) := by
  unfold Machine.execSetPoint
  split
  · next ht => exact K.setPointRequest (K.takeFrame h ht) p _
  · exact h

theorem execLink (K : AdmissionInvariant P) (h : P s) (p : PortId) : NextHas P (execLink p s) := by
  unfold Machine.execLink
  split
  · next ht => exact K.linkRequest (K.takeFrame h ht) p _
  · exact h

/-! ### Each event -/

theorem execLinkTimeout (K : AdmissionInvariant P) (h : P s) (p : PortId) : NextHas P (execLinkTimeout p s) := by
  show P (if _ then _ else _)
  split
  · exact K.breakLink h p _
  · exact h

theorem execInterByteGap (K : AdmissionInvariant P) (h : P s) (p : PortId) : NextHas P (execInterByteGap p s) := by
  unfold Machine.execInterByteGap
  split
  · exact h
  · exact K.discard h p

theorem execPowerOn (K : AdmissionInvariant P) (s : State) (straps : Straps) (kept : Option Nat) :
    NextHas P (execPowerOn straps kept s) := by
  unfold Machine.execPowerOn
  split
  · exact K.startUp s straps _ _ _ _
  · exact K.startUp s straps _ _ _ _

theorem execMinuteMark (K : AdmissionInvariant P) (h : P s) : NextHas P (execMinuteMark s) := by
  unfold Machine.execMinuteMark
  split
  · exact h
  · next rest _ => exact K.minuteWork (K.of_touches h (minuteMarks_touches s rest)) _

theorem execFiveMinuteMark (K : AdmissionInvariant P) (h : P s) : NextHas P (execFiveMinuteMark s) := by
  unfold Machine.execFiveMinuteMark
  split
  · exact h
  · next rest _ =>
    exact foldl_keeps (fun t z => t.markZone z) P (fun t z ht => K.markZone ht z) _ _ (K.of_touches h (fiveMarks_touches s rest))

theorem execSensorPollDue (K : AdmissionInvariant P) (h : P s) (addr : Nat) : NextHas P (execSensorPollDue addr s) := by
  unfold Machine.execSensorPollDue
  split
  · exact h
  · dsimp only
    split
    · exact K.of_touches h (modNode_touches s _ _)
    · exact h

theorem execStatusDue (K : AdmissionInvariant P) (h : P s) (addr : Nat) : NextHas P (execStatusDue addr s) := by
  unfold Machine.execStatusDue
  split
  · exact h
  · split
    · exact K.of_touches h (modNode_touches s _ _)
    · exact h

theorem execActuatorRetry (K : AdmissionInvariant P) (h : P s) (addr : Nat) : NextHas P (execActuatorRetry addr s) := by
  unfold Machine.execActuatorRetry
  split
  · exact h
  · split
    · next hdue =>
      simp only [Bool.and_eq_true] at hdue
      exact K.retry h hdue.1.1
    · exact h

theorem execLoopTransactionStart (K : AdmissionInvariant P) (h : P s) : NextHas P (execLoopTransactionStart s) := by
  unfold Machine.execLoopTransactionStart
  split
  · exact h
  · dsimp only
    split
    · next hchoice => exact K.begin (K.prune h) hchoice
    · exact K.prune h

theorem execLoopReply (K : AdmissionInvariant P) (h : P s) (bytes : List Byte) : NextHas P (execLoopReply bytes s) := by
  unfold Machine.execLoopReply
  split
  · exact h
  · next hx =>
    split
    · exact h
    · next hlive => exact K.endTransaction h hx (by simpa using hlive) _

theorem execLoopReplyTimeout (K : AdmissionInvariant P) (h : P s) : NextHas P (execLoopReplyTimeout s) := by
  unfold Machine.execLoopReplyTimeout
  split
  · exact h
  · next hx =>
    split
    · exact K.free h
    · next hlive => exact K.endTransaction h hx (by simpa using hlive) _

/-- Every command keeps what the operations on the parts of admission keep. -/
theorem exec (K : AdmissionInvariant P) (h : P s) (i : Instr) : NextHas P (exec i s) := by
  cases i with
  | powerOn straps kept => exact K.execPowerOn s straps kept
  | resetPin straps => exact K.startUp s straps s.clock s.clockLost false true
  | frame p bytes => exact foldl_keeps (fun t b => t.takeByte p b) P (fun t b ht => K.takeByte ht p b) bytes s h
  | interByteGap p => exact K.execInterByteGap h p
  | responseSent p => exact K.of_touches (F := [.tx]) h (modPort_touches s p fun pt => { pt with tx := pt.tx.drop 1 })
  | attentionPulseEnd p => exact K.of_touches (F := [.attn]) h (modPort_touches s p fun pt => { pt with pulse := false })
  | badCmd p => exact K.serve h p _ _ fun f t ht => K.refuse ht p f _
  | setPoint p => exact K.execSetPoint h p
  | link p => exact K.execLink h p
  | linkTimeout p => exact K.execLinkTimeout h p
  | takeTenure p => exact K.execTakeTenure h p
  | releaseTenure p => exact K.execReleaseTenure h p
  | tenureLapse z ch => exact K.of_touches h (takeLapse_touches s z ch)
  | clearConditions p => exact K.execClearConditions h p
  | writeZone p => exact K.execWriteZone h p
  | writeEnvelope p => exact K.execWriteEnvelope h p
  | writeObject p => exact K.execWriteObject h p
  | readObject p =>
    exact K.serve h p _ _ fun f _ ht => K.withArg ht p f _ _ fun _ => K.withRight ht p f _ _ _ (K.answer ht p f _ _)
  | readZone p =>
    exact K.serve h p _ _ fun f _ ht => K.withArg ht p f _ _ fun (z, _) => K.withRight ht p f z _ _ (K.answer ht p f _ _)
  | readNode p => exact K.execReadNode h p
  | readPort p =>
    exact K.serve h p _ _ fun f t ht => K.withArg ht p f _ _ fun q =>
      K.answer (K.of_touches ht (Current.drawFor_touches t q)) p f _ _
  | readSystem p => exact K.serve h p _ _ fun f _ ht => K.withArg ht p f _ _ fun _ => K.answer ht p f _ _
  | subscribeOn p =>
    exact K.serve h p _ _ fun f t ht => K.withArg ht p f _ _ fun w => K.answer (K.of_touches ht (subscribe_touches t p w)) p f _ _
  | subscribeOff p => exact K.serve h p _ _ fun f t ht => K.answer (K.of_touches ht (unsubscribe_touches t p)) p f _ _
  | drain p => exact K.execDrain h p
  | scan p => exact K.execScan h p
  | setWatchOn p => exact K.execSetWatchOn h p
  | setWatchOff p =>
    exact K.serve h p _ _ fun f t ht => K.withSub ht p f _ fun _ =>
      K.answer (K.of_touches ht (setWatch_touches t p none)) p f _ _
  | mark p => exact K.execMark h p
  | setAttention p => exact K.execSetAttention h p
  | ackAttention p => exact K.execAckAttention h p
  | superviseOn p => exact K.execSuperviseOn h p
  | superviseOff p => exact K.execSuperviseOff h p
  | setClock p =>
    exact K.serve h p _ _ fun f _ ht => K.asSystem ht p f _ <| K.withArg ht p f _ _ fun time =>
      K.answer (K.setClock ht time) p f _ _
  | save p =>
    exact K.serve h p _ _ fun f t ht => K.asSystem ht p f _ <| K.withArg ht p f _ _ fun _ =>
      K.answer (K.of_touches ht (requestSave_touches t)) p f _ _
  | writeAuthority p => exact K.execWriteAuthority h p
  | writeNode p => exact K.execWriteNode h p
  | resetDose p =>
    exact K.serve h p _ _ fun f t ht => K.asSystem ht p f _ <| K.withArg ht p f _ _ fun (o, dose) =>
      K.answer (K.reevalPace (K.modAcct ht o fun a => { a with consumed := dose, frac := 0 }) o) p f _ _
  | setPeriod p => exact K.execSetPeriod h p
  | setHold p => exact K.execSetHold h p
  | clockSecond => exact K.of_touches h (tick_touches s)
  | minuteMark => exact K.execMinuteMark h
  | fiveMinuteMark => exact K.execFiveMinuteMark h
  | storeWriteEnd verified => exact K.of_touches h (endSection_touches s verified)
  | sensorPollDue addr => exact K.execSensorPollDue h addr
  | statusDue addr => exact K.execStatusDue h addr
  | actuatorRetry addr => exact K.execActuatorRetry h addr
  | loopTransactionStart => exact K.execLoopTransactionStart h
  | loopReply bytes => exact K.execLoopReply h bytes
  | loopReplyTimeout => exact K.execLoopReplyTimeout h

theorem step (K : AdmissionInvariant P) (h : P s) : NextHas P (step s) := by
  unfold Machine.step
  split
  · exact h
  · next rest _ =>
    have hrest : Touches [.pending] s { s with pending := rest } := by
      intro k hk
      cases k <;> first | rfl | simp at hk
    exact K.exec (K.of_touches h hrest) _

end AdmissionInvariant

end Sys2Proof.Machine
end

section
/-! ## The values an evaluation gives (R83, R84, R109) -/

namespace Sys2Proof.Machine

open Sys2Proof

set_option Elab.async false

/-- A climate computation answers the channels it is asked about (R54). -/
theorem climateCandidate_isSome (s : State) (z : ZoneId) (heat moist : Option Int) :
    (s.climateCandidate z heat moist).heat.isSome = heat.isSome ∧
      (s.climateCandidate z heat moist).moist.isSome = moist.isSome := by
  unfold State.climateCandidate
  dsimp only
  split
  · exact ⟨Option.isSome_map, Option.isSome_map⟩
  · exact ⟨Option.isSome_map, Option.isSome_map⟩

theorem climatePart_isSome (s : State) (z : ZoneId) (v : Setpoints) :
    (s.climatePart z v).heat.isSome = v.heat.isSome ∧ (s.climatePart z v).moist.isSome = v.moist.isSome := by
  unfold State.climatePart
  split
  · exact climateCandidate_isSome s z v.heat v.moist
  · next h =>
    simp only [Bool.or_eq_true, not_or, Bool.not_eq_true] at h
    exact ⟨h.1.symm, h.2.symm⟩

/-- A light computation answers the channels it is asked about (R61). -/
theorem lightPart_isSome (s : State) (z : ZoneId) (v : Setpoints) :
    (s.lightPart z v).1.isSome = v.shade.isSome ∧ (s.lightPart z v).2.1.isSome = v.light.isSome := by
  unfold State.lightPart
  split
  · simp only [run_shade, run_light, Option.isSome_map, and_self]
  · next h =>
    simp only [Bool.or_eq_true, not_or, Bool.not_eq_true] at h
    exact ⟨h.1.symm, h.2.symm⟩

/-- The candidate held to its ranges asks for the same channels (R83 step 1). -/
theorem ranged_get_isSome (v : Setpoints) (ch : ChanKind) : (v.ranged.get ch).isSome = (v.get ch).isSome := by
  cases ch <;> exact Option.isSome_map

theorem only_get (ch : ChanKind) (x : Int) : (Setpoints.only ch x).get ch = some x := by cases ch <;> rfl

/-- A value held under an active override (R84): never brighter, never more open. -/
def Override.cap (o : Override) : ChanKind → Int → Int
  | .light, v => o.capLight v
  | .shade, v => o.capShade v
  | _, v => v

/-- What a passing evaluation gives a channel, before the override cap. -/
def State.uncapped (s : State) (z : ZoneId) (v : Setpoints) : ChanKind → Option Int
  | .heat => (s.climatePart z v.ranged).heat
  | .moist => (s.climatePart z v.ranged).moist
  | .shade => (s.lightPart z v.ranged).1
  | .light => (s.lightPart z v.ranged).2.1

theorem uncapped_isSome (s : State) (z : ZoneId) (v : Setpoints) (ch : ChanKind) :
    (s.uncapped z v ch).isSome = (v.get ch).isSome := by
  obtain ⟨hheat, hmoist⟩ := climatePart_isSome s z v.ranged
  obtain ⟨hshade, hlight⟩ := lightPart_isSome s z v.ranged
  rw [← ranged_get_isSome]
  cases ch
  · exact hlight
  · exact hshade
  · exact hheat
  · exact hmoist

theorem evaluate_pass (s : State) (z : ZoneId) (v : Setpoints) : (s.evaluate z v).pass = (s.climatePart z v.ranged).pass := by
  unfold State.evaluate
  dsimp only
  split
  · next h => exact h.symm
  · next h => simpa using h

/-- The override cap comes last, and nothing that passes leaves it out (R84). -/
theorem evaluate_get {s : State} {z : ZoneId} {v : Setpoints} (h : (s.evaluate z v).pass = true) (ch : ChanKind) :
    (s.evaluate z v).values.get ch = (s.uncapped z v ch).map ((s.zone z).ovr.cap ch) := by
  rw [evaluate_pass] at h
  unfold State.evaluate
  dsimp only
  rw [if_pos h]
  cases ch
  · rfl
  · rfl
  · exact Option.map_id'.symm
  · exact Option.map_id'.symm

theorem evaluate_get_isSome {s : State} {z : ZoneId} {v : Setpoints} (h : (s.evaluate z v).pass = true) (ch : ChanKind) :
    ((s.evaluate z v).values.get ch).isSome = (v.get ch).isSome := by
  rw [evaluate_get h, Option.isSome_map, uncapped_isSome]

theorem lightInput_congr {a b : Zone} (hest : b.est = a.est) (hcfg : b.cfg = a.cfg) (hceiling : b.ceiling = a.ceiling)
    (hchan : ∀ ch, (b.chan ch).granted = (a.chan ch).granted ∧ (b.chan ch).applied = (a.chan ch).applied) :
    b.lightInput = a.lightInput := by
  unfold Zone.lightInput Channel.prospect
  simp only [hest, hcfg, hceiling, hchan]

end Sys2Proof.Machine
end

section
/-! ## Grants under an override (R84, R97, R140) -/

namespace Sys2Proof.Machine

open Sys2Proof

set_option Elab.async false

/-- No granted value of a zone lies on the brighter or more open side of its override. -/
def Zone.UnderOverride (zn : Zone) : Prop :=
  (∀ v g, zn.ovr.light = some v → (zn.chan .light).granted = some g → g ≤ (v : Int)) ∧
    ∀ v g, zn.ovr.shade = some v → (zn.chan .shade).granted = some g → (v : Int) ≤ g

theorem overrideHolds_iff (s : State) : OverrideHolds s ↔ ∀ z, (s.zone z).UnderOverride := .rfl

/-- A value that an override lets a channel be granted (R84). -/
def Override.Allows (o : Override) : ChanKind → Int → Prop
  | .light, v => ∀ x, o.light = some x → v ≤ (x : Int)
  | .shade, v => ∀ x, o.shade = some x → (x : Int) ≤ v
  | _, _ => True

theorem cap_allowed (o : Override) (ch : ChanKind) (v : Int) : o.Allows ch (o.cap ch v) := by
  cases ch
  · intro x hx
    simp only [Override.cap, Override.capLight, hx]
    exact min_le_right v _
  · intro x hx
    simp only [Override.cap, Override.capShade, hx]
    exact le_max_right v _
  · trivial
  · trivial

/-- What a passing evaluation gives is under the zone's override (R84). -/
theorem evaluate_allowed {s : State} {z : ZoneId} {v : Setpoints} {ch : ChanKind} {g : Int} (h : (s.evaluate z v).pass = true)
    (hg : (s.evaluate z v).values.get ch = some g) : (s.zone z).ovr.Allows ch g := by
  rw [evaluate_get h, Option.map_eq_some_iff] at hg
  obtain ⟨x, -, rfl⟩ := hg
  exact cap_allowed _ ch x

theorem Zone.UnderOverride.of_idle {zn : Zone} (h : zn.ovr = .empty) : zn.UnderOverride := by
  constructor
  · intro v g hv
    rw [h] at hv
    cases hv
  · intro v g hv
    rw [h] at hv
    cases hv

theorem Zone.UnderOverride.congr {a b : Zone} (h : a.UnderOverride) (hovr : b.ovr = a.ovr)
    (hg : ∀ ch, (b.chan ch).granted = (a.chan ch).granted) : b.UnderOverride := by
  unfold Zone.UnderOverride
  rw [hovr, hg, hg]
  exact h

/-- The SHADE override in force is no more open than each of its parts (R137). -/
theorem parts_le_shade (o : Override) : (∀ v, o.shadeLux = some v → ∃ w, o.shade = some w ∧ v ≤ w) ∧
    ∀ v, o.shadeUv = some v → ∃ w, o.shade = some w ∧ v ≤ w := by
  obtain ⟨light, lux, uv⟩ := o
  constructor
  · rintro v rfl
    cases uv with
    | none => exact ⟨v, rfl, le_rfl⟩
    | some b => exact ⟨max v b, rfl, le_max_left v b⟩
  · rintro v rfl
    cases lux with
    | none => exact ⟨v, rfl, le_rfl⟩
    | some a => exact ⟨max a v, rfl, le_max_right a v⟩

/-- The parts that stay when an excursion ends leave an override that is no more closed (R141). -/
theorem endWith_shade_le (o : Override) (k : ExcKind) {v : Nat} (h : (o.endWith k).shade = some v) :
    ∃ w, o.shade = some w ∧ v ≤ w := by
  cases k
  case lux => exact (parts_le_shade o).2 v h
  case uv =>
    refine (parts_le_shade o).1 v (h.symm.trans ?_).symm
    simp only [Override.endWith, Override.shade]
    cases o.shadeLux <;> rfl
  all_goals exact ⟨v, h, le_rfl⟩

/-- Parts that end let the others stand (R141). -/
theorem Zone.UnderOverride.endWith {zn : Zone} (h : zn.UnderOverride) (k : ExcKind) :
    ({ zn with ovr := zn.ovr.endWith k } : Zone).UnderOverride := by
  obtain ⟨hlight, hshade⟩ := h
  have hlight' : ∀ v, (zn.ovr.endWith k).light = some v → zn.ovr.light = some v := fun v hv => by
    cases k
    case lux => cases hv
    all_goals exact hv
  refine ⟨fun v g hv hg => hlight v g (hlight' v hv) hg, fun v g hv hg => ?_⟩
  obtain ⟨w, hw, hle⟩ := endWith_shade_le zn.ovr k hv
  have := hshade w g hw hg
  omega

namespace OverrideHolds

variable {s t : State}

theorem of_touches (h : OverrideHolds s) {F : List Part} (ht : Touches F s t)
    (hF : ∀ k ∈ [Part.ovr, .granted], k ∉ F := by decide) : OverrideHolds t := fun z =>
  Zone.UnderOverride.congr (h z) (ht.zoneOvr z (hF _ (by decide))) fun ch => ht.chanGranted z ch (hF _ (by decide))

/-- A change of one zone keeps the promise if that zone does. -/
theorem of_zone (h : OverrideHolds s) {z : ZoneId} (hothers : OtherZones s t z) (hz : (t.zone z).UnderOverride) :
    OverrideHolds t := fun x => by
  by_cases hx : x = z
  · subst hx
    exact hz
  · show (t.zone x).UnderOverride
    rw [hothers x hx]
    exact h x

/-- A grant of a value that the override allows. -/
theorem grant (h : OverrideHolds s) {z : ZoneId} {ch : ChanKind} {v : Int} (hv : (s.zone z).ovr.Allows ch v)
    (port : Option PortId) (r : Option Int) (c : Bool) : OverrideHolds (s.grant port z ch r v c) := by
  have hin := grant_inZone s port z ch r v c
  have hovr := hin.touches.zoneOvr z
  have hgranted : ((s.grant port z ch r v c).chan z ch).granted = some v := grant_granted s port z ch r v c
  have hother : ∀ j, j ≠ ch → (s.grant port z ch r v c).chan z j = s.chan z j := fun j hj => grant_chan_ne s port z ch r v c z hj
  obtain ⟨hlight, hshade⟩ := h z
  refine h.of_zone hin.others ⟨fun x g hx hg => ?_, fun x g hx hg => ?_⟩
  · rw [hovr] at hx
    by_cases hch : ChanKind.light = ch
    · subst hch
      cases hgranted.symm.trans hg
      exact hv x hx
    · exact hlight x g hx ((congrArg Channel.granted (hother _ hch)).symm.trans hg)
  · rw [hovr] at hx
    by_cases hch : ChanKind.shade = ch
    · subst hch
      cases hgranted.symm.trans hg
      exact hv x hx
    · exact hshade x g hx ((congrArg Channel.granted (hother _ hch)).symm.trans hg)

/-! ### What admission grants -/

theorem admitAlone (h : OverrideHolds s) (p : PortId) (tag : Byte) (z : ZoneId) (ch : ChanKind) (v : Int) :
    OverrideHolds (s.admitAlone p tag z ch v) := by
  unfold State.admitAlone
  split
  · exact h.of_touches (refuseSetPoint_touches s p tag _ _ _ _)
  · dsimp only
    have heval := recordEvaluation_touches s z (s.evaluate z (.only ch v)).conds
    have hrecorded := h.of_touches heval
    split
    · next hpass =>
      obtain ⟨g, hg⟩ := Option.isSome_iff_exists.mp
        ((evaluate_get_isSome hpass ch).trans (congrArg Option.isSome (only_get ch v)))
      rw [hg]
      refine (hrecorded.grant ?_ _ _ _).of_touches (respond_touches _ p tag _ _)
      rw [heval.zoneOvr z]
      exact evaluate_allowed hpass hg
    · exact hrecorded.of_touches (refuseSetPoint_touches _ p tag _ _ _ _)

/-- Grants in one zone, each of a value that its override allows. -/
theorem grants (h : OverrideHolds s) (p : PortId) (z : ZoneId) (final : Member → Int) (ms : List Member)
    (hall : ∀ m ∈ ms, (s.zone z).ovr.Allows m.ch (final m)) :
    OverrideHolds (ms.foldl (fun s m => s.grant (some p) z m.ch (some m.value) (final m) (decide (final m ≠ m.value))) s) := by
  induction ms generalizing s with
  | nil => exact h
  | cons m ms ih =>
    have hovr := (grant_touches s (some p) z m.ch (some m.value) (final m) (decide (final m ≠ m.value))).zoneOvr z
    exact ih (h.grant (hall m List.mem_cons_self) _ _ _) fun m' hm' => hovr ▸ hall m' (List.mem_cons_of_mem m hm')

end OverrideHolds

theorem mem_ordered {l : LinkRecord} {m : Member} (h : m ∈ l.ordered) : l.member m.ch = some m := by
  obtain ⟨ch, -, hch⟩ := List.mem_filterMap.mp h
  have hkind : (m.ch == ch) = true := List.find?_some (p := fun m : Member => m.ch == ch) hch
  rw [eq_of_beq hkind]
  exact hch

theorem values_get (l : LinkRecord) (ch : ChanKind) : l.values.get ch = (l.member ch).map Member.value := by cases ch <;> rfl

theorem OverrideHolds.closeMembers {s : State} (h : OverrideHolds s) (p : PortId) (z : ZoneId) (l : LinkRecord) :
    OverrideHolds (s.closeMembers p z l) := by
  have hcleared : OverrideHolds (s.modZone z fun zn => { zn with cause := 0 }) := h.of_touches (F := [.cause]) (modZone_touches s z _)
  have hchecked := hcleared.of_touches (recheck_touches p z l.ordered _)
  unfold State.closeMembers
  generalize State.recheck p z l.ordered (s.modZone z fun zn => { zn with cause := 0 }) = r at hchecked ⊢
  obtain ⟨t, failed⟩ := r
  cases failed with
  | some f => exact hchecked.of_touches (refuseLinked_touches t p z l _ _ _)
  | none =>
    dsimp only at hchecked ⊢
    have heval := recordEvaluation_touches t z (t.evaluate z l.values).conds
    have hrecorded := hchecked.of_touches heval
    split
    · next hpass =>
      refine OverrideHolds.of_touches (hrecorded.grants p z _ l.ordered fun m hm => ?_)
        (foldl_touches (F := reports) _ (fun s _ => respond_touches s p _ _ _) _ _)
      obtain ⟨g, hg⟩ := Option.isSome_iff_exists.mp ((evaluate_get_isSome hpass m.ch).trans (by
        rw [values_get, mem_ordered hm]
        rfl))
      rw [hg, heval.zoneOvr z]
      exact evaluate_allowed hpass hg
    · exact hrecorded.of_touches (refuseLinked_touches _ p z l _ _ _)

/-! ### What the part grants by itself -/

theorem UnderOverride.of_entering {t : State} {z : ZoneId} {o : Override} {light shade : Option Int} (hovr : (t.zone z).ovr = o)
    (hlight : (t.chan z .light).granted = (lightEntering o light).orElse fun _ => light)
    (hshade : (t.chan z .shade).granted = (shadeEntering o shade).orElse fun _ => shade) : (t.zone z).UnderOverride := by
  constructor
  · intro v g hv hg
    rw [hovr] at hv
    replace hg := hlight.symm.trans hg
    unfold lightEntering at hg
    rw [hv] at hg
    cases light with
    | none => cases hg; exact le_rfl
    | some old =>
      by_cases hbright : (v : Int) < old
      · simp only [hbright, if_true, Option.orElse_some, Option.some.injEq] at hg
        omega
      · simp only [hbright, if_false, Option.orElse_none, Option.some.injEq] at hg
        omega
  · intro v g hv hg
    rw [hovr] at hv
    replace hg := hshade.symm.trans hg
    have hv' : shadeInForce o = some v := hv
    unfold shadeEntering at hg
    rw [hv'] at hg
    cases shade with
    | none => cases hg; exact le_rfl
    | some old =>
      by_cases hopen : old < (v : Int)
      · simp only [hopen, if_true, Option.orElse_some, Option.some.injEq] at hg
        omega
      · simp only [hopen, if_false, Option.orElse_none, Option.some.injEq] at hg
        omega

/-- The override computation grants what its new parts call for (R97, R139). -/
theorem OverrideHolds.computeOverride {s : State} (h : OverrideHolds s) (z : ZoneId) : OverrideHolds (s.computeOverride z) := by
  obtain ⟨-, hcompute, -⟩ := partLowersTheLight
  obtain ⟨hidle, hchanges⟩ := hcompute s z
  by_cases hi : s.supervised = false ∨ (s.zone z).cfg.use = false ∨
      (((s.zone z).exc .lux).isSome = false ∧ (s.zone z).exc .uv = none) ∨ newParts (s.zone z) = (s.zone z).ovr
  · exact (hidle hi).symm ▸ h
  · simp only [not_or, Bool.not_eq_false, not_and] at hi
    obtain ⟨hsup, huse, hopen, hnew⟩ := hi
    have hopen' : ((s.zone z).exc .lux).isSome = true ∨ ((s.zone z).exc .uv).isSome = true := by
      cases hlux : ((s.zone z).exc .lux).isSome
      · exact .inr (Option.isSome_iff_ne_none.mpr (hopen hlux))
      · exact .inl rfl
    obtain ⟨hovr, hgrants, -⟩ := hchanges hsup huse hopen' hnew
    exact h.of_zone hgrants.zones (UnderOverride.of_entering hovr hgrants.lightIs hgrants.shadeIs)

/-- Ceiling follow grants no more than what was granted (R94). -/
theorem OverrideHolds.recomputeCeiling {s : State} (h : OverrideHolds s) (z : ZoneId) : OverrideHolds (s.recomputeCeiling z) := by
  obtain ⟨-, -, hceiling⟩ := partLowersTheLight
  obtain ⟨-, hfollows, hstands⟩ := hceiling s z
  have hovr := (recomputeCeiling_touches s z).zoneOvr z
  by_cases hf : ∃ g, Follows s z (s.ceilingOf z) g
  · obtain ⟨g, hg⟩ := hf
    obtain ⟨l, hle, -, -, hgrants, -⟩ := hfollows g hg
    obtain ⟨hlight, hshade⟩ := h z
    refine h.of_zone hgrants.zones ⟨fun v x hv hx => ?_, fun v x hv hx => ?_⟩
    · cases hgrants.lightIs.symm.trans hx
      exact hle.trans (hlight v g (hovr ▸ hv) hg.1)
    · exact hshade v x (hovr ▸ hv) (hgrants.shadeIs.symm.trans hx)
  · rw [hstands (not_exists.mp hf)]
    exact h.of_touches (F := [.ceiling]) (modZone_touches s z _)

/-! ### What ends overrides -/

theorem OverrideHolds.endParts {s : State} (h : OverrideHolds s) (z : ZoneId) (k : ExcKind) :
    OverrideHolds (s.modZone z fun zn => { zn with ovr := zn.ovr.endWith k }) :=
  h.of_zone (fun _ hx => State.zone_modZone_ne s _ hx) (by
    rw [State.zone_modZone_self]
    exact Zone.UnderOverride.endWith (h z) k)

section

variable {s : State} {z : ZoneId} {new : ZoneRec}

theorem switchUse_stays (h : (s.zone z).cfg.use = new.use) :
    s.switchUse z new = s.modZone z fun zn => { zn with cfg := new } := by
  unfold State.switchUse
  dsimp only
  rw [h]
  cases new.use <;> rfl

theorem turnOn_ovr (s : State) (z : ZoneId) : ((s.turnOn z).zone z).ovr = .empty := by
  unfold State.turnOn
  rw [(touchZone_touches _ z).zoneOvr z, State.zone_modZone_self]

/-- A zone whose `use` turns, either way, has no override after it (R8, R9, R142). -/
theorem switchUse_ovr (h : (s.zone z).cfg.use ≠ new.use) : ((s.switchUse z new).zone z).ovr = .empty := by
  cases hold : (s.zone z).cfg.use with
  | true =>
    have hnew : new.use = false := by rw [hold] at h; simpa using h
    exact (switchUse_off_stopped hold hnew).ovr
  | false =>
    have hnew : new.use = true := by rw [hold] at h; simpa using h
    rw [switchUse_on hold hnew]
    exact turnOn_ovr _ z

end

theorem OverrideHolds.rewire {s : State} (h : OverrideHolds s) (z : ZoneId) (new : ZoneRec) :
    OverrideHolds ((s.switchUse z new).rebindAll z (s.zone z).cfg new) := by
  refine OverrideHolds.of_touches ?_ (rebindAll_inZone _ z (s.zone z).cfg new).touches
  by_cases huse : (s.zone z).cfg.use = new.use
  · rw [switchUse_stays huse]
    exact h.of_touches (setCfg_touches s z new)
  · exact h.of_zone (switchUse_inZone s z new).others (.of_idle (switchUse_ovr huse))

theorem clearGrants_inZone (s : State) (z : ZoneId) : InZone z [.ovr, .granted] s (s.clearGrants z) :=
  .of_modZone (clearGrants_touches s z)

theorem clearStop_inZone (s : State) (z : ZoneId) : InZone z ([.ovr, .granted] ++ drops') s ((s.clearGrants z).stopZone z) :=
  ((clearGrants_inZone s z).mono (by decide)).then_mono (stopZone_inZone _ z) (by decide)

/-- STANDBY clears and stops each zone: what that brings about in a zone, and leaves in the others, holds of all of them. -/
theorem enterStandby_each (P : ZoneId → State → Prop) (own : ∀ (z : ZoneId) (s : State), P z ((s.clearGrants z).stopZone z))
    (keep : ∀ (z : ZoneId) (s : State) (x : ZoneId), P x s → P x ((s.clearGrants z).stopZone z)) (s : State) (z : ZoneId) :
    P z s.enterStandby := by
  unfold State.enterStandby
  exact forZones_each _ _ P own keep z

theorem enterStandby_zone {P : Zone → Prop} (own : ∀ (s : State) z, P (((s.clearGrants z).stopZone z).zone z)) (s : State)
    (z : ZoneId) : P (s.enterStandby.zone z) :=
  enterStandby_each (fun z t => P (t.zone z)) (fun z t => own t z) (fun z t x hx => by
    by_cases e : x = z
    · subst e
      exact own t x
    · exact ((clearStop_inZone t z).others x e).symm ▸ hx) s z

theorem enterStandby_ovr (s : State) (z : ZoneId) : (s.enterStandby.zone z).ovr = .empty :=
  enterStandby_zone (P := fun zn => zn.ovr = .empty) (fun s z => by
    rw [(stopZone_touches _ z).zoneOvr z, State.clearGrants, State.zone_modZone_self]) s z

theorem loaded_zone (s : State) (straps : Straps) (cfg : ConfigImage) (dose : Option DoseImage) (t : GTime) (flag : Bool)
    (z : ZoneId) : (s.loaded straps cfg dose t flag).zone z = startZone straps.roles cfg t z := by
  simp only [State.zone, State.loaded, Fin.getElem_fin, Vector.getElem_ofFn]

/-- Start-up adds its evaluations and its reports to what it loads (R189). -/
theorem startUp_touches (s : State) (straps : Straps) (running : GTime) (flag lost byPin : Bool) :
    Touches (startParts ++ reports) (s.loaded straps (s.store.config.getD (defaultConfig straps.roles)) s.store.dose
      (startClock lost s.store.dose running) (flag || lost)) (s.startUp straps running flag lost byPin) :=
  ((evaluateStart_touches _ s.store.dose lost).mono (by decide)).then_mono
    (startUp_reported s straps running flag lost byPin).touches (by decide)

theorem startUp_ovr (s : State) (straps : Straps) (running : GTime) (flag lost byPin : Bool) (z : ZoneId) :
    ((s.startUp straps running flag lost byPin).zone z).ovr = .empty := by
  rw [(startUp_touches s straps running flag lost byPin).zoneOvr z, loaded_zone]
  rfl

/-! ### Every operation on the parts of admission -/

theorem overrideHolds_invariant : AdmissionInvariant OverrideHolds where
  still h ht hF := h.of_touches ht fun k hk => hF k (by revert hk; cases k <;> decide)
  startUp s straps running flag lost byPin z := Zone.UnderOverride.of_idle (startUp_ovr s straps running flag lost byPin z)
  links h ht _ := h.of_touches ht
  closeMembers z h _ := h.closeMembers _ z _
  admitAlone p tag z ch v h _ := h.admitAlone p tag z ch v
  recomputeCeiling z h := h.recomputeCeiling z
  endParts z k h := h.endParts z k
  computeOverride z h := h.computeOverride z
  rewire z new h := h.rewire z new
  enterSupervised h _ := h.of_touches (enterSupervised_touches _)
  enterStandby _ z := Zone.UnderOverride.of_idle (enterStandby_ovr _ z)
  abandon n h := h.of_touches (abandon_touches _ n)
  free h := h.of_touches (txn_touches _ none)
  outcome h _ _ _ ht _ := h.of_touches ht
  begin h _ := h.of_touches (begin_touches _ _)
  prune h := h.of_touches (pruneCommands_touches _)
  retry h _ := h.of_touches (retryNode_touches _ _)

end Sys2Proof.Machine

open Sys2Proof Sys2Proof.Machine

set_option Elab.async false

/-- Settles O58: each source of a grant grants under the override in force, and an override that changes enters its channels. -/
theorem stepKeepsGrantsUnderOverrides : Obligations.StepKeepsGrantsUnderOverrides := by
  intro s t hs hstep
  exact (overrideHolds_invariant.step hs).of_next hstep

end

section
/-! ## Transactions that LC may not address are abandoned (R7, R156, R157) -/

namespace Sys2Proof.Machine

open Sys2Proof

set_option Elab.async false

/-- The transaction under way is the one there was, or that one abandoned. -/
def Abandons (s t : State) : Prop := t.txn = s.txn ∨ ∃ x, s.txn = some x ∧ t.txn = some { x with abandoned := true }

/-- No live transaction goes to the node. -/
def Unaddressed (n : NodeId) (s : State) : Prop := ∀ x, s.txn = some x → x.node = n → x.abandoned = true

theorem Abandons.refl (s : State) : Abandons s s := .inl rfl

theorem Abandons.trans {s t u : State} (h : Abandons s t) (k : Abandons t u) : Abandons s u := by
  rcases k with hu | ⟨x, ht, hu⟩
  · rcases h with ht | ⟨x, hs, ht⟩
    · exact .inl (hu.trans ht)
    · exact .inr ⟨x, hs, hu.trans ht⟩
  · rcases h with hs | ⟨y, hs, hy⟩
    · exact .inr ⟨x, hs.symm.trans ht, hu⟩
    · cases hy.symm.trans ht
      exact .inr ⟨y, hs, hu⟩

theorem Abandons.of_touches {F : List Part} {s t : State} (h : Touches F s t) (hF : Part.txn ∉ F := by decide) : Abandons s t :=
  .inl (h .txn hF)

theorem Unaddressed.of_abandons {n : NodeId} {s t : State} (h : Unaddressed n s) (k : Abandons s t) : Unaddressed n t := by
  rcases k with ht | ⟨x, -, ht⟩
  · unfold Unaddressed
    rw [ht]
    exact h
  · rintro y hy -
    cases ht.symm.trans hy
    rfl

theorem abandon_abandons (s : State) (n : NodeId) : Abandons s (s.abandon n) := by
  unfold State.abandon
  split
  · next x hx =>
    split
    · exact .inr ⟨x, hx, rfl⟩
    · exact .refl s
  · exact .refl s

theorem abandon_unaddressed (s : State) (n : NodeId) : Unaddressed n (s.abandon n) := by
  intro y hy hn
  unfold State.abandon at hy
  split at hy
  · next x hx =>
    split at hy
    · cases hy
      rfl
    · next hne =>
      cases hx.symm.trans hy
      exact absurd hn hne
  · next hx => cases hx.symm.trans hy

theorem dropNode_abandons (s : State) (o : Option NodeId) : Abandons s (s.dropNode o) := by
  cases o with
  | none => exact .refl s
  | some n => exact (abandon_abandons s n).trans (.of_touches (clearTimes_touches _ n))

theorem dropNode_unaddressed (s : State) (n : NodeId) : Unaddressed n (s.dropNode (some n)) :=
  (abandon_unaddressed s n).of_abandons (.of_touches (clearTimes_touches _ n))

/-! ### A zone that LC stops addressing -/

theorem forChans_abandons (s : State) (F : ChanKind → State → State) (h : ∀ ch t, Abandons t (F ch t)) :
    Abandons s (s.forChans F) := forChans_keeps s F (Abandons s) (fun ch t ht => ht.trans (h ch t)) (.refl s)

theorem stopChannel_abandons (s : State) (z : ZoneId) (ch : ChanKind) (o : Option NodeId) :
    Abandons s ((s.dropChannel z ch).dropNode o) := (Abandons.of_touches (dropChannel_touches s z ch)).trans (dropNode_abandons _ o)

theorem stopZone_abandons (s : State) (z : ZoneId) : Abandons s (s.stopZone z) := by
  rw [stopZone_eq]
  exact forChans_abandons s _ fun ch t => stopChannel_abandons t z ch _

theorem stopZone_unaddressed {s : State} {z : ZoneId} {ch : ChanKind} {n : NodeId} (h : s.actNode z ch = some n) :
    Unaddressed n (s.stopZone z) := by
  have hact : ∀ (t : State) (ch j : ChanKind) (o : Option NodeId),
      ((t.dropChannel z ch).dropNode o).actNode z j = t.actNode z j := fun t ch j o => by
    simp only [State.actNode, (dropNode_touches _ o).zoneCfg z, (dropChannel_touches t z ch).zoneCfg z]
  have hcfg : (s.stopZone z).actNode z ch = s.actNode z ch := by
    simp only [State.actNode, (stopZone_touches s z).zoneCfg z]
  rw [stopZone_eq] at hcfg ⊢
  refine forChans_each s _ (fun ch t => ∀ n, t.actNode z ch = some n → Unaddressed n t) (fun ch t n hn => ?_)
    (fun ch t x hx n hn => ?_) ch n (hcfg.trans h)
  · rw [hact] at hn
    have hdrop : (t.dropChannel z ch).actNode z ch = some n := (hact t ch ch none).trans hn
    rw [hdrop]
    exact dropNode_unaddressed _ n
  · rw [hact] at hn
    exact (hx n hn).of_abandons (stopChannel_abandons t z ch _)

/-! ### An actuator field that changes -/

theorem rebind_abandons (s : State) (z : ZoneId) (ch : ChanKind) (old new : Option NodeId) :
    Abandons s (s.rebind z ch old new) := by
  by_cases h : old = new
  · simp only [State.rebind, h, if_true]
    exact .refl s
  · have hwoken := (stopChannel_abandons s z ch old).trans (.of_touches (wakeNode_touches _ z new))
    rw [rebind_eq h]
    split
    · exact hwoken.trans (.of_touches (touch_touches _ z ch))
    · exact hwoken

theorem rebind_unaddressed (s : State) (z : ZoneId) (ch : ChanKind) {n : NodeId} {new : Option NodeId} (h : some n ≠ new) :
    Unaddressed n (s.rebind z ch (some n) new) := by
  rw [rebind_eq h]
  exact (dropNode_unaddressed _ n).of_abandons (.of_touches (wakeNode_touches _ z new))

theorem rebindAll_unaddressed (s : State) (z : ZoneId) {old new : ZoneRec} {ch : ChanKind} {n : NodeId}
    (hold : old.act ch = some n) (hne : old.act ch ≠ new.act ch) : Unaddressed n (s.rebindAll z old new) := by
  refine forChans_each s _ (fun ch t => ∀ n, old.act ch = some n → old.act ch ≠ new.act ch → Unaddressed n t)
    (fun ch t n hold hne => ?_) (fun ch t x hx n hold hne => ?_) ch n hold hne
  · rw [hold] at hne ⊢
    exact rebind_unaddressed t z ch hne
  · exact (hx n hold hne).of_abandons (rebind_abandons t z ch _ _)

theorem rebindAll_abandons (s : State) (z : ZoneId) (old new : ZoneRec) : Abandons s (s.rebindAll z old new) :=
  forChans_abandons s _ fun ch t => rebind_abandons t z ch _ _

/-! ### The turn of `use` -/

theorem turnOff_abandons (s : State) (z : ZoneId) : Abandons s (s.turnOff z) := by
  rw [turnOff_eq]
  exact ((Abandons.of_touches (closeAll_inZone s z .zoneOff allKinds).touches).trans
    (.of_touches (modCleared_touches _ z))).trans (stopZone_abandons _ z)

theorem turnOff_unaddressed {s : State} {z : ZoneId} {ch : ChanKind} {n : NodeId} (h : s.actNode z ch = some n) :
    Unaddressed n (s.turnOff z) := by
  have hcfg := ((closeAll_inZone s z .zoneOff allKinds).touches.mono (by decide : _ ⊆ .granted :: [Part.det, .ovr] ++ reporting)).then_mono
    (modCleared_touches _ z) (by decide)
  rw [turnOff_eq]
  exact stopZone_unaddressed ((congrArg (ZoneRec.act · ch) (hcfg.zoneCfg z)).trans h)

section

variable {s : State} {z : ZoneId} {new : ZoneRec}

theorem switchUse_abandons : Abandons s (s.switchUse z new) := by
  by_cases huse : (s.zone z).cfg.use = new.use
  · rw [switchUse_stays huse]
    exact .of_touches (setCfg_touches s z new)
  · cases hold : (s.zone z).cfg.use with
    | true =>
      rw [switchUse_off hold (by rw [hold] at huse; simpa using huse)]
      exact (turnOff_abandons s z).trans (.of_touches (setCfg_touches _ z new))
    | false =>
      rw [switchUse_on hold (by rw [hold] at huse; simpa using huse)]
      exact (Abandons.of_touches (setCfg_touches s z new)).trans (.of_touches (turnOn_touches _ z))

theorem switchUse_off_unaddressed (hold : (s.zone z).cfg.use = true) (hnew : new.use = false) {ch : ChanKind} {n : NodeId}
    (h : s.actNode z ch = some n) : Unaddressed n (s.switchUse z new) := by
  rw [switchUse_off hold hnew]
  exact (turnOff_unaddressed h).of_abandons (.of_touches (setCfg_touches _ z new))

end

/-! ### The promise -/

theorem addressable_iff {s : State} {z : ZoneId} {ch : ChanKind} : s.addressable z ch = true ↔
    s.supervised = true ∧ (s.zone z).cfg.use = true ∧ (s.actNode z ch).isSome = true := by
  simp only [State.addressable, Bool.and_eq_true, and_assoc]

namespace TransactionsAddressed

variable {s t : State}

/-- A change that abandons the transactions to channels that it makes unaddressable. -/
theorem of_abandons (h : TransactionsAddressed s) (ha : Abandons s t)
    (hk : ∀ z ch n, s.addressable z ch = true → s.actNode z ch = some n →
      Unaddressed n t ∨ t.addressable z ch = true ∧ t.actNode z ch = some n) : TransactionsAddressed t := by
  intro x hx
  rcases ha with ht | ⟨y, -, ht⟩
  · obtain hread | habandoned | ⟨z, ch, haddr, hnode⟩ := h x (ht.symm.trans hx)
    · exact .inl hread
    · exact .inr (.inl habandoned)
    · obtain hnone | hstill := hk z ch x.node haddr hnode
      · exact .inr (.inl (hnone x hx rfl))
      · exact .inr (.inr ⟨z, ch, hstill⟩)
  · cases ht.symm.trans hx
    exact .inr (.inl rfl)

theorem of_same (h : TransactionsAddressed s) (ha : Abandons s t) (hsup : t.supervised = s.supervised)
    (hcfg : ∀ z, (t.zone z).cfg = (s.zone z).cfg) : TransactionsAddressed t :=
  h.of_abandons ha fun z ch n haddr hnode => .inr (by
    simp only [State.addressable, State.actNode, hsup, hcfg] at haddr hnode ⊢
    exact ⟨haddr, hnode⟩)

theorem of_touches (h : TransactionsAddressed s) {F : List Part} (ht : Touches F s t)
    (hF : ∀ k ∈ [Part.supervised, .cfg, .txn], k ∉ F := by decide) : TransactionsAddressed t :=
  h.of_same (.of_touches ht (hF _ (by decide))) (ht .supervised (hF _ (by decide))) fun z => ht.zoneCfg z (hF _ (by decide))

/-- A live transaction to an actuator goes on only in SUPERVISED. -/
theorem supervised (h : TransactionsAddressed s) {x : Transaction} (hx : s.txn = some x) (hlive : x.abandoned = false)
    (hop : x.op ≠ .read) : s.supervised = true := by
  obtain hread | habandoned | ⟨z, ch, haddr, -⟩ := h x hx
  · exact absurd hread hop
  · exact absurd (hlive.symm.trans habandoned) (by decide)
  · exact (addressable_iff.mp haddr).1

theorem of_idle (h : t.txn = none) : TransactionsAddressed t := fun x hx => by cases h.symm.trans hx

/-- A zone write abandons what it takes from a channel or puts out of LC's reach (R7, R157). -/
theorem rewire (h : TransactionsAddressed s) (z : ZoneId) (new : ZoneRec) :
    TransactionsAddressed ((s.switchUse z new).rebindAll z (s.zone z).cfg new) := by
  have hrebound := rebindAll_inZone (s.switchUse z new) z (s.zone z).cfg new
  have hswitched := switchUse_inZone s z new
  have hsup : ((s.switchUse z new).rebindAll z (s.zone z).cfg new).supervised = s.supervised :=
    (hrebound.touches .supervised (by decide)).trans (hswitched.touches .supervised (by decide))
  have hcfg : (((s.switchUse z new).rebindAll z (s.zone z).cfg new).zone z).cfg = new :=
    (hrebound.touches.zoneCfg z).trans (switchUse_cfg s z new)
  refine h.of_abandons (switchUse_abandons.trans (rebindAll_abandons _ z _ new)) fun x ch n haddr hnode => ?_
  by_cases hx : x = z
  · subst hx
    obtain ⟨hon, huse, -⟩ := addressable_iff.mp haddr
    by_cases hoff : new.use = false
    · exact .inl ((switchUse_off_unaddressed huse hoff hnode).of_abandons (rebindAll_abandons _ x _ new))
    · by_cases hact : (s.zone x).cfg.act ch = new.act ch
      · refine .inr ⟨addressable_iff.mpr ⟨hsup.trans hon, ?_, ?_⟩, ?_⟩
        · rw [hcfg]
          simpa using hoff
        · rw [State.actNode, hcfg, ← hact]
          exact Option.isSome_iff_exists.mpr ⟨n, hnode⟩
        · rw [State.actNode, hcfg, ← hact]
          exact hnode
      · exact .inl (rebindAll_unaddressed _ x hnode hact)
  · have hzone := (hrebound.others x hx).trans (hswitched.others x hx)
    refine .inr ?_
    simp only [State.addressable, State.actNode, hsup, hzone] at haddr hnode ⊢
    exact ⟨haddr, hnode⟩

/-- STANDBY abandons every transaction to an actuator (R156). -/
theorem enterStandby (h : TransactionsAddressed s) : TransactionsAddressed s.enterStandby := by
  have hlinks : Touches (.supervised :: .link :: reports) s
      (({ s with supervised := false } : State).forPorts fun p s => s.breakLink p false) :=
    ((supervised_touches s false).mono (by decide)).then_mono (forPorts_touches _ _ fun p s => breakLink_touches s p false)
      (by decide)
  unfold State.enterStandby
  dsimp only
  generalize (({ s with supervised := false } : State).forPorts fun p s => s.breakLink p false) = t at hlinks ⊢
  have hzone : ∀ (u : State) z, Abandons u ((u.clearGrants z).stopZone z) := fun u z =>
    (Abandons.of_touches (clearGrants_touches u z)).trans (stopZone_abandons _ z)
  have hcfg : Touches ([.ovr, .granted] ++ drops') t (t.forZones fun z s => (s.clearGrants z).stopZone z) :=
    forZones_touches t _ fun z s => (clearStop_inZone s z).touches
  refine h.of_abandons ((Abandons.of_touches hlinks).trans (foldl_keeps _ (Abandons t) (fun u z hu => hu.trans (hzone u z)) _ t
    (.refl t))) fun z ch n _ hnode => .inl ?_
  refine forZones_each t _ (fun z u => ∀ ch n, u.actNode z ch = some n → Unaddressed n u) (fun z u ch n hn => ?_)
    (fun z u x hx ch n hn => ?_) z ch n ?_
  · refine stopZone_unaddressed (ch := ch) ?_
    rwa [State.actNode, (stopZone_touches _ z).zoneCfg z] at hn
  · refine (hx ch n ?_).of_abandons (hzone u z)
    rwa [State.actNode, (clearStop_inZone u z).touches.zoneCfg x] at hn
  · rw [State.actNode, hcfg.zoneCfg z, hlinks.zoneCfg z]
    exact hnode

end TransactionsAddressed

/-! ### What the arbiter begins (R154) -/

theorem act_of_fieldOf {r : ZoneRec} {n : NodeId} :
    (r.fieldOf n = some 4 → r.lightAct = some n) ∧ (r.fieldOf n = some 5 → r.shadeAct = some n) ∧
      (r.fieldOf n = some 6 → r.heatAct = some n) ∧ (r.fieldOf n = some 7 → r.moistAct = some n) := by
  unfold ZoneRec.fieldOf
  grind

/-- A node drives the channel whose field names it (R1). -/
theorem boundChan_act {s : State} {n : NodeId} {z : ZoneId} {ch : ChanKind} (h : s.boundChan n = some (z, ch)) :
    s.actNode z ch = some n := by
  have hfield : ∀ k, s.boundAt n = some (z, k) → (s.zone z).cfg.fieldOf n = some k := fun k hk => by
    obtain ⟨x, -, hx⟩ := List.exists_of_findSome?_eq_some hk
    obtain ⟨j, hj, heq⟩ := Option.map_eq_some_iff.mp hx
    cases heq
    exact hj
  obtain ⟨hlight, hshade, hheat, hmoist⟩ := act_of_fieldOf (r := (s.zone z).cfg) (n := n)
  unfold State.boundChan at h
  split at h
  · next hb => cases h; exact hlight (hfield _ hb)
  · next hb => cases h; exact hshade (hfield _ hb)
  · next hb => cases h; exact hheat (hfield _ hb)
  · next hb => cases h; exact hmoist (hfield _ hb)
  · cases h

theorem commandOf_addressable {s : State} {zc : ZoneId × ChanKind} {c : Choice} (h : s.commandOf zc = some c) :
    s.addressable zc.1 zc.2 = true ∧ ∃ n v, c = .command zc.1 zc.2 n v ∧ s.actNode zc.1 zc.2 = some n := by
  unfold State.commandOf at h
  split at h
  · next haddr =>
    split at h
    · next n v hnode _ =>
      cases h
      exact ⟨haddr, n, v, rfl, hnode⟩
    · cases h
  · cases h

theorem earliest_waits {s : State} {waits : NodeId → Bool} {n : NodeId} (h : s.earliest waits = some n) : waits n = true := by
  refine List.foldlRecOn (motive := fun best => ∀ b, best = some b → waits b = true) allNodes _ (fun b hb => by cases hb)
    (fun best hbest a _ => ?_) n h
  by_cases ha : waits a = true
  · simp only [ha, if_true]
    cases best with
    | none => rintro b ⟨⟩; exact ha
    | some c =>
      dsimp only
      split
      · rintro b ⟨⟩; exact ha
      · exact hbest
  · simp only [ha]
    exact hbest

theorem statusWaits_addressable {s : State} {n : NodeId} (h : s.statusWaits n = true) :
    ∃ z ch, s.addressable z ch = true ∧ s.actNode z ch = some n := by
  unfold State.statusWaits at h
  rw [Bool.and_eq_true] at h
  obtain ⟨-, h⟩ := h
  split at h
  · next z ch hbound => exact ⟨z, ch, h, boundChan_act hbound⟩
  · cases h

/-- What the arbiter chooses is a READ, or goes to a channel that LC may address. -/
theorem choice_addressable {s : State} {c : Choice} (h : s.choice = some c) : (∃ n, c = .read n) ∨
    ∃ z ch n, s.addressable z ch = true ∧ s.actNode z ch = some n ∧ ((∃ v, c = .command z ch n v) ∨ c = .status n) := by
  unfold State.choice at h
  split at h
  · next hcommand =>
    cases h
    obtain ⟨zc, -, hzc⟩ := List.exists_of_findSome?_eq_some hcommand
    obtain ⟨haddr, n, v, rfl, hnode⟩ := commandOf_addressable hzc
    exact .inr ⟨zc.1, zc.2, n, haddr, hnode, .inl ⟨v, rfl⟩⟩
  · split at h
    · next n hstatus =>
      cases h
      obtain ⟨z, ch, haddr, hnode⟩ := statusWaits_addressable (earliest_waits hstatus)
      exact .inr ⟨z, ch, n, haddr, hnode, .inr rfl⟩
    · obtain ⟨n, -, rfl⟩ := Option.map_eq_some_iff.mp h
      exact .inl ⟨n, rfl⟩

/-- What the arbiter begins is a READ, or goes to a channel that LC may address. -/
theorem begin_addressed {s : State} {c : Choice} (h : s.choice = some c) : TransactionsAddressed (s.begin c) := by
  obtain ⟨n, rfl⟩ | ⟨z, ch, n, haddr, hnode, hc⟩ := choice_addressable h
  · rintro x ⟨⟩
    exact .inl rfl
  · have htouch := begin_touches s c
    have hnode' : (s.begin c).actNode z ch = some n := by
      rw [State.actNode, htouch.zoneCfg z]
      exact hnode
    obtain ⟨hon, huse, -⟩ := addressable_iff.mp haddr
    have haddr' : (s.begin c).addressable z ch = true := by
      refine addressable_iff.mpr ⟨(htouch .supervised (by decide)).trans hon, ?_, Option.isSome_iff_exists.mpr ⟨n, hnode'⟩⟩
      rw [htouch.zoneCfg z]
      exact huse
    have htarget : ∀ x, (s.begin c).txn = some x → x.node = n := fun x hx => by
      obtain ⟨v, rfl⟩ | rfl := hc
      · cases hx; rfl
      · cases hx; rfl
    exact fun x hx => .inr (.inr ⟨z, ch, haddr', by rw [hnode', htarget x hx]⟩)

end Sys2Proof.Machine
end

section
/-! ## STANDBY (R98, R106, R142, R156, R190) -/

namespace Sys2Proof.Machine

open Sys2Proof

set_option Elab.async false

/-- A channel of which LC holds nothing, not even that a sent value was replaced (R156). -/
def Channel.Undelivered (c : Channel) : Prop := c.pending = none ∧ c.sent = none ∧ c.replaced = false ∧ c.applied = none

/-- No set is open, nothing is granted, no override stands, and LC holds nothing. -/
structure Idle (s : State) : Prop where
  links       : ∀ p, (s.port p).link = none
  ovr         : ∀ z, (s.zone z).ovr = .empty
  granted     : ∀ z ch, (s.chan z ch).granted = none
  undelivered : ∀ z ch, (s.chan z ch).Undelivered
  commands    : s.commands = []

theorem standbyIsQuiet_iff (s : State) : StandbyIsQuiet s ↔ (s.supervised = false → Idle s) :=
  ⟨fun h hoff => by
    obtain ⟨hlinks, hovr, hchans, hcommands⟩ := h hoff
    exact ⟨hlinks, hovr, fun z ch => (hchans z ch).1, fun z ch => (hchans z ch).2, hcommands⟩,
  fun h hoff => by
    obtain ⟨hlinks, hovr, hgranted, hundelivered, hcommands⟩ := h hoff
    exact ⟨hlinks, hovr, fun z ch => ⟨hgranted z ch, hundelivered z ch⟩, hcommands⟩⟩

theorem Touches.chanUndelivered {F : List Part} {s t : State} (h : Touches F s t) {z : ZoneId} {ch : ChanKind}
    (c : (s.chan z ch).Undelivered) (hF : Part.delivery ∉ F := by decide) : (t.chan z ch).Undelivered := by
  have hd := congrFun (congrFun (h .delivery hF) z) ch
  simp only [State.part, Prod.mk.injEq] at hd
  obtain ⟨hp, hs, hr, ha⟩ := hd
  unfold Channel.Undelivered
  rw [hp, hs, hr, ha]
  exact c

theorem stopZone_undelivered (s : State) (z : ZoneId) (ch : ChanKind) : ((s.stopZone z).chan z ch).Undelivered := by
  have hchan : ∀ (t : State) (j : ChanKind) (o : Option NodeId) (ch : ChanKind),
      ((t.dropChannel z j).dropNode o).chan z ch = (t.dropChannel z j).chan z ch := fun t j o ch => (dropNode_touches _ o).chan z ch
  rw [stopZone_eq]
  refine forChans_each s _ (fun ch t => (t.chan z ch).Undelivered) (fun ch t => ?_) (fun ch t x hx => ?_) ch
  · rw [hchan, dropChannel_chan, if_pos ⟨rfl, rfl⟩]
    exact ⟨rfl, rfl, rfl, rfl⟩
  · rw [hchan, dropChannel_chan]
    split
    · exact ⟨rfl, rfl, rfl, rfl⟩
    · exact hx

theorem stopZone_commands {s : State} {z : ZoneId} {c : ZoneId × ChanKind} (h : c ∉ s.commands) : c ∉ (s.stopZone z).commands := by
  rw [stopZone_eq]
  refine forChans_keeps s _ (c ∉ ·.commands) (fun ch t ht => ?_) h
  rw [(dropNode_loopOnly _ _).commands]
  exact fun hc => ht (mem_dropChannel_commands.mp hc).1

namespace Idle

variable {s t : State}

theorem of_touches (h : Idle s) {F : List Part} (ht : Touches F s t)
    (hF : ∀ k ∈ [Part.link, .ovr, .granted, .delivery, .commands], k ∉ F := by decide) : Idle t where
  links p := (congrFun (ht .link (hF _ (by decide))) p).trans (h.links p)
  ovr z := (ht.zoneOvr z (hF _ (by decide))).trans (h.ovr z)
  granted z ch := (ht.chanGranted z ch (hF _ (by decide))).trans (h.granted z ch)
  undelivered z ch := ht.chanUndelivered (h.undelivered z ch) (hF _ (by decide))
  commands := Eq.trans (ht .commands (hF _ (by decide))) h.commands

theorem of_links (h : Idle s) (ht : Touches receivers s t) (hn : OpensNone s t) : Idle t where
  links p := hn p (h.links p)
  ovr z := (ht.zoneOvr z).trans (h.ovr z)
  granted z ch := (ht.chanGranted z ch).trans (h.granted z ch)
  undelivered z ch := ht.chanUndelivered (h.undelivered z ch)
  commands := Eq.trans (ht .commands (by decide)) h.commands

/-- A change of overrides alone that leaves none. -/
theorem of_overrides (h : Idle s) (ht : Touches [.ovr, .horizon, .det, .activity, .cfg] s t) (hovr : ∀ z, (t.zone z).ovr = .empty) :
    Idle t where
  links p := (congrFun (ht .link (by decide)) p).trans (h.links p)
  ovr := hovr
  granted z ch := (ht.chanGranted z ch).trans (h.granted z ch)
  undelivered z ch := ht.chanUndelivered (h.undelivered z ch)
  commands := Eq.trans (ht .commands (by decide)) h.commands

theorem endParts (h : Idle s) (z : ZoneId) (k : ExcKind) : Idle (s.modZone z fun zn => { zn with ovr := zn.ovr.endWith k }) := by
  refine h.of_overrides (modZone_touches s z _) fun x => ?_
  rw [State.zone_modZone]
  split
  · show (s.zone z).ovr.endWith k = .empty
    rw [h.ovr z]
    cases k <;> rfl
  · exact h.ovr x

theorem dropChannel (h : Idle s) (z : ZoneId) (ch : ChanKind) : Idle (s.dropChannel z ch) where
  links := h.links
  ovr x := ((dropChannel_touches s z ch).zoneOvr x).trans (h.ovr x)
  granted x j := ((dropChannel_touches s z ch).chanGranted x j).trans (h.granted x j)
  undelivered x j := by
    rw [dropChannel_chan]
    split
    · exact ⟨rfl, rfl, rfl, rfl⟩
    · exact h.undelivered x j
  commands := List.eq_nil_iff_forall_not_mem.mpr fun c hc => by
    have := (mem_dropChannel_commands.mp hc).1
    rw [h.commands] at this
    cases this

theorem rebind (h : Idle s) (z : ZoneId) (ch : ChanKind) (old new : Option NodeId) : Idle (s.rebind z ch old new) := by
  by_cases he : old = new
  · simpa only [State.rebind, he, if_true] using h
  · have hwoken := ((h.dropChannel z ch).of_touches (dropNode_touches _ old)).of_touches (wakeNode_touches _ z new)
    rw [rebind_eq he]
    split
    · exact hwoken.of_touches (touch_touches _ z ch)
    · exact hwoken

theorem stopZone (h : Idle s) (z : ZoneId) : Idle (s.stopZone z) := by
  rw [stopZone_eq]
  exact forChans_keeps s _ Idle (fun ch t ht => (ht.dropChannel z ch).of_touches (dropNode_touches _ _)) h

theorem turnOff (h : Idle s) (z : ZoneId) : Idle (s.turnOff z) := by
  have hclosed : Idle (allKinds.foldl (fun s k => s.closeExc z k .zoneOff) s) := by
    refine foldl_keeps _ Idle (fun t k ht => ?_) _ s h
    show Idle (t.closeExc z k .zoneOff)
    unfold State.closeExc
    split
    · exact ht
    · exact (((ht.endParts z k).of_touches (setExc_touches _ z k none)).of_touches (offer_touches _ _)).of_touches
        (pendZone_touches _ z _)
  rw [turnOff_eq]
  generalize allKinds.foldl (fun s k => s.closeExc z k .zoneOff) s = t at hclosed ⊢
  have hcleared := modCleared_touches t z
  have hlinks : ∀ p, ((t.modZone z Zone.cleared).port p).link = none := hclosed.links
  have hcommands : (t.modZone z Zone.cleared).commands = [] := hclosed.commands
  refine Idle.stopZone (s := t.modZone z Zone.cleared) ⟨hlinks, fun x => ?_, fun x ch => ?_,
    fun x ch => hcleared.chanUndelivered (hclosed.undelivered x ch), hcommands⟩ z
  · rw [State.zone_modZone]
    split
    · rfl
    · exact hclosed.ovr x
  · rw [State.chan, State.zone_modZone]
    split
    · rw [cleared_chan]
    · exact hclosed.granted x ch

theorem switchUse (h : Idle s) (z : ZoneId) (new : ZoneRec) : Idle (s.switchUse z new) := by
  by_cases huse : (s.zone z).cfg.use = new.use
  · rw [switchUse_stays huse]
    exact h.of_touches (setCfg_touches s z new)
  · cases hold : (s.zone z).cfg.use with
    | true =>
      rw [switchUse_off hold (by rw [hold] at huse; simpa using huse)]
      exact (h.turnOff z).of_touches (setCfg_touches _ z new)
    | false =>
      have hset := h.of_touches (setCfg_touches s z new)
      rw [switchUse_on hold (by rw [hold] at huse; simpa using huse)]
      refine hset.of_overrides ((turnOn_touches _ z).mono (by decide)) fun x => ?_
      by_cases hx : x = z
      · subst hx
        exact turnOn_ovr _ x
      · rw [(turnOn_inZone _ z).others x hx]
        exact hset.ovr x

theorem rewire (h : Idle s) (z : ZoneId) (new : ZoneRec) : Idle ((s.switchUse z new).rebindAll z (s.zone z).cfg new) :=
  forChans_keeps _ _ Idle (fun ch _ ht => ht.rebind z ch _ _) (h.switchUse z new)

theorem prune (h : Idle s) : Idle s.pruneCommands where
  links := h.links
  ovr := h.ovr
  granted := h.granted
  undelivered := h.undelivered
  commands := by
    show s.commands.dropWhile _ = []
    rw [h.commands]
    rfl

end Idle

/-- Entering STANDBY leaves the part idle from any state (R98, R106, R142, R156). -/
theorem enterStandby_idle (s : State) : Idle s.enterStandby where
  links p := by
    have hzones := forZones_touches (({ s with supervised := false } : State).forPorts fun p s => s.breakLink p false)
      (fun z s => (s.clearGrants z).stopZone z) fun z s => (clearStop_inZone s z).touches
    refine (congrFun (hzones .link (by decide)) p).trans ?_
    refine foldl_each (fun s p => s.breakLink p false) (fun p t => (t.port p).link = none) (fun t q => ?_)
      (fun t q x hx => ?_) allPorts _ p (List.mem_finRange p)
    · rw [breakLink_link, if_pos rfl]
    · rw [breakLink_link, hx, ite_self]
  ovr := enterStandby_ovr s
  granted z ch := enterStandby_zone (P := fun zn => (zn.chan ch).granted = none) (fun s z => by
    refine ((stopZone_touches _ z).chanGranted z ch).trans ?_
    rw [State.chan, State.clearGrants, State.zone_modZone_self, Zone.chan_ungranted rfl]) s z
  undelivered z ch := enterStandby_zone (P := fun zn => (zn.chan ch).Undelivered) (fun _ z => stopZone_undelivered _ z ch) s z
  commands := List.eq_nil_iff_forall_not_mem.mpr fun (z, ch) =>
    enterStandby_each (fun z t => (z, ch) ∉ t.commands) (fun z t => (stopZone_channel (t.clearGrants z) z ch).2)
      (fun z t x hx => stopZone_commands (s := t.clearGrants z) hx) s z

theorem loaded_idle (s : State) (straps : Straps) (cfg : ConfigImage) (dose : Option DoseImage) (t : GTime) (flag : Bool) :
    Idle (s.loaded straps cfg dose t flag) where
  links p := by
    simp only [State.port, State.loaded, Fin.getElem_fin, Vector.getElem_ofFn]
    rfl
  ovr z := by
    rw [loaded_zone]
    rfl
  granted z ch := by
    rw [State.chan, loaded_zone]
    simp only [startZone, Zone.chan, Fin.getElem_fin, Vector.getElem_ofFn]
    rfl
  undelivered z ch := by
    rw [State.chan, loaded_zone]
    simp only [startZone, Zone.chan, Fin.getElem_fin, Vector.getElem_ofFn]
    exact ⟨rfl, rfl, rfl, rfl⟩
  commands := rfl

/-- Start-up leaves the part idle from any state (R189). -/
theorem startUp_idle (s : State) (straps : Straps) (running : GTime) (flag lost byPin : Bool) :
    Idle (s.startUp straps running flag lost byPin) :=
  (loaded_idle s straps _ _ _ _).of_touches (startUp_touches s straps running flag lost byPin)

theorem startUp_txn (s : State) (straps : Straps) (running : GTime) (flag lost byPin : Bool) :
    (s.startUp straps running flag lost byPin).txn = none := startUp_touches s straps running flag lost byPin .txn (by decide)

/-! ### Every operation on the parts of admission -/

/-- What STANDBY promises, with the addressing that it rests on. -/
structure StandbyKept (s : State) : Prop where
  addressed : TransactionsAddressed s
  idle      : s.supervised = false → Idle s

theorem standbyKept_iff (s : State) : StandbyKept s ↔ TransactionsAddressed s ∧ StandbyIsQuiet s :=
  ⟨fun h => ⟨h.addressed, (standbyIsQuiet_iff s).mpr h.idle⟩, fun ⟨ha, hq⟩ => ⟨ha, (standbyIsQuiet_iff s).mp hq⟩⟩

namespace StandbyKept

variable {s t : State}

/-- In SUPERVISED the promise is on transactions alone. -/
theorem of_supervised (h : StandbyKept s) (hsup : s.supervised = true) {F : List Part} (ht : Touches F s t)
    (hF : ∀ k ∈ [Part.supervised, .cfg, .txn], k ∉ F := by decide) : StandbyKept t where
  addressed := h.addressed.of_touches ht hF
  idle hoff := by
    have : t.supervised = s.supervised := ht .supervised (hF _ (by decide))
    simp [this, hsup] at hoff

theorem of_touches (h : StandbyKept s) {F : List Part} (ht : Touches F s t)
    (hF : ∀ k ∈ admissionParts, k ∉ F := by decide) : StandbyKept t where
  addressed := h.addressed.of_touches ht fun k hk => hF k (by revert hk; cases k <;> decide)
  idle hoff := (h.idle ((ht .supervised (hF _ (by decide))).symm.trans hoff)).of_touches ht fun k hk =>
    hF k (by revert hk; cases k <;> decide)

theorem links (h : StandbyKept s) (ht : Touches receivers s t) (hn : s.supervised = false → OpensNone s t) : StandbyKept t where
  addressed := h.addressed.of_touches ht
  idle hoff := by
    have hoff' : s.supervised = false := Eq.trans (ht .supervised (by decide)).symm hoff
    exact (h.idle hoff').of_links ht (hn hoff')

theorem closeMembers (h : StandbyKept s) {p : PortId} {l : LinkRecord} (hl : (s.port p).link = some l) (z : ZoneId) :
    StandbyKept (s.closeMembers p z l) := by
  refine h.of_supervised ?_ (closeMembers_touches s p z l)
  cases hsup : s.supervised with
  | true => rfl
  | false => cases hl.symm.trans ((h.idle hsup).links p)

theorem recomputeCeiling (h : StandbyKept s) (z : ZoneId) : StandbyKept (s.recomputeCeiling z) := by
  cases hsup : s.supervised with
  | true => exact h.of_supervised hsup (recomputeCeiling_touches s z)
  | false =>
    have hstands : ∀ g, ¬ Follows s z (s.ceilingOf z) g := fun g ⟨_, hon, _⟩ => by simp [hsup] at hon
    rw [recomputeCeiling_stands hstands]
    exact h.of_touches (F := [.ceiling]) (modZone_touches s z _)

theorem computeOverride (h : StandbyKept s) (z : ZoneId) : StandbyKept (s.computeOverride z) := by
  cases hsup : s.supervised with
  | true => exact h.of_supervised hsup (computeOverride_touches s z)
  | false => rwa [computeOverride_idle (.inl hsup)]

theorem rewire (h : StandbyKept s) (z : ZoneId) (new : ZoneRec) :
    StandbyKept ((s.switchUse z new).rebindAll z (s.zone z).cfg new) where
  addressed := h.addressed.rewire z new
  idle hoff := by
    have hsup : ((s.switchUse z new).rebindAll z (s.zone z).cfg new).supervised = s.supervised :=
      Eq.trans ((rebindAll_inZone _ z _ new).touches .supervised (by decide)) ((switchUse_inZone s z new).touches .supervised (by decide))
    exact (h.idle (hsup.symm.trans hoff)).rewire z new

theorem enterSupervised_supervised (s : State) : s.enterSupervised.supervised = true := by
  have hactivity := touchAll_touches { s with supervised := true }
  have hnodes : ∀ t : State, Touches [.nodes] t (t.forZones fun z s => if (s.zone z).cfg.use then s.makeZoneDue z else s) := fun t =>
    forZones_touches t _ fun z s => by
      split
      · exact makeZoneDue_touches s z
      · exact .refl _ s
  exact Eq.trans (hnodes _ .supervised (by decide)) (hactivity .supervised (by decide))

/-- In STANDBY the transaction under way is a READ or abandoned, and SUPERVISED lets it be. -/
theorem enterSupervised (h : StandbyKept s) (hsup : s.supervised = false) : StandbyKept s.enterSupervised where
  addressed := h.addressed.of_abandons (.of_touches (enterSupervised_touches s)) fun z ch n haddr _ =>
    absurd ((addressable_iff.mp haddr).1.symm.trans hsup) (by decide)
  idle hoff := by
    have hon : s.enterSupervised.supervised = true := enterSupervised_supervised s
    simp [hon] at hoff

theorem outcome (h : StandbyKept s) {x : Transaction} (hx : s.txn = some x) (hlive : x.abandoned = false) (hop : x.op ≠ .read)
    (ht : Touches (.txn :: actuatorOutcomes) s t) (hfree : t.txn = none) : StandbyKept t where
  addressed := .of_idle hfree
  idle hoff := by
    have hsup : t.supervised = s.supervised := ht .supervised (by decide)
    simp [hsup, h.addressed.supervised hx hlive hop] at hoff

theorem begin (h : StandbyKept s) {c : Choice} (hc : s.choice = some c) : StandbyKept (s.begin c) where
  addressed := begin_addressed hc
  idle hoff := by
    have hoff' : s.supervised = false := Eq.trans ((begin_touches s c) .supervised (by decide)).symm hoff
    obtain ⟨n, rfl⟩ | ⟨z, ch, n, haddr, -⟩ := choice_addressable hc
    · have hread : Touches [.txn, .nodes] s (s.begin (.read n)) := by
        exact ((modNode_touches s n _).mono (by decide)).then_mono (txn_touches _ _) (by decide)
      exact (h.idle hoff').of_touches hread
    · exact absurd ((addressable_iff.mp haddr).1.symm.trans hoff') (by decide)

theorem retry (h : StandbyKept s) {n : NodeId} (hopen : s.actuatorOpen n = true) : StandbyKept (s.retryNode n) := by
  refine h.of_supervised ?_ (retryNode_touches s n)
  unfold State.actuatorOpen at hopen
  split at hopen
  · exact (addressable_iff.mp hopen).1
  · cases hopen

end StandbyKept

theorem standbyKept_invariant : AdmissionInvariant StandbyKept where
  still h ht hF := h.of_touches ht hF
  startUp s straps running flag lost byPin :=
    ⟨.of_idle (startUp_txn s straps running flag lost byPin), fun _ => startUp_idle s straps running flag lost byPin⟩
  links h ht hn := h.links ht hn
  closeMembers z h hl := h.closeMembers hl z
  admitAlone p tag z ch v h hsup := h.of_supervised hsup (admitAlone_touches _ p tag z ch v)
  recomputeCeiling z h := h.recomputeCeiling z
  endParts {s} z k h :=
    ⟨h.addressed.of_touches (F := [.ovr]) (modZone_touches s z _), fun hoff => (h.idle hoff).endParts z k⟩
  computeOverride z h := h.computeOverride z
  rewire z new h := h.rewire z new
  enterSupervised h hsup := h.enterSupervised hsup
  enterStandby {s} h := ⟨h.addressed.enterStandby, fun _ => enterStandby_idle s⟩
  abandon {s} n h := ⟨h.addressed.of_same (abandon_abandons s n) (abandon_touches s n .supervised (by decide))
    fun z => (abandon_touches s n).zoneCfg z, fun hoff => (h.idle (Eq.trans (abandon_touches s n .supervised (by decide)).symm
      hoff)).of_touches (abandon_touches s n)⟩
  free {s} h := ⟨.of_idle rfl, fun hoff => (h.idle hoff).of_touches (txn_touches s none)⟩
  outcome h hx hlive hop ht hfree := h.outcome hx hlive hop ht hfree
  begin h hc := h.begin hc
  prune {s} h := ⟨h.addressed.of_touches (pruneCommands_touches s), fun hoff => (h.idle hoff).prune⟩
  retry h hopen := h.retry hopen

end Sys2Proof.Machine

open Sys2Proof Sys2Proof.Machine

set_option Elab.async false

/-- Settles O60: nothing is opened, granted, overridden or sent in STANDBY, and what enters STANDBY clears all of it. -/
theorem stepKeepsStandbyQuiet : Obligations.StepKeepsStandbyQuiet := by
  intro s t haddressed hquiet hstep
  have h : StandbyKept s := (standbyKept_iff s).mpr ⟨haddressed, hquiet⟩
  exact (standbyKept_iff t).mp ((standbyKept_invariant.step h).of_next hstep)

end

section
/-! ## Clearing the sticky set

CLEAR_CONDITIONS (R93) is one row of the request table: its payload names a zone and a set of conditions, and its effect is one
change of that zone. -/

namespace Sys2Proof.Machine
open Sys2Proof
set_option Elab.async false

theorem clearOf?_eq (zb : Byte) (cs : CondSet) :
    clearOf? (zb :: u2 cs.toNat) = (zoneOf? zb).map fun z => (z, cs) := by
  show (zoneOf? zb).map (fun z => (z, BitVec.ofNat 16 (u16 (u1 (cs.toNat / 0x100)) (u1 cs.toNat)))) = _
  rw [u16_bytes cs.isLt, BitVec.ofNat_toNat, BitVec.setWidth_eq]

theorem withTaken_modZone (s : State) (p : PortId) (rest : List Frame) (z : ZoneId) (g : Zone → Zone) :
    (s.withTaken p rest).modZone z g = (s.modZone z g).withTaken p rest := rfl

section

variable {s : State} {p : PortId} {f : Frame} {rest : List Frame} {cs : CondSet}

theorem clearConditions_answers {z : ZoneId} (h : NextRequest s p 0x05 f rest) (hf : f.payload = u1 z.val :: u2 cs.toNat) :
    exec (.clearConditions p) s = .next ((if s.may p z .envelope then
      (s.modZone z fun zn => { zn with sticky := zn.sticky &&& ~~~cs }).answered p f rest .done
        (u2 ((s.zone z).sticky &&& ~~~cs).toNat)
      else s.refusedWith p f rest .noRight (some z) none).countRequest p) := by
  have hrow : rowOf f = .clearConditions := by simp [rowOf, h.2]
  have hnamed : namedBy f = (some z, none) := by
    rw [namedBy, hrow, hf]
    exact congrArg (·, none) (zoneOf?_u1 z)
  show Host.Outcome.next (s.serve p _ _) = _
  rw [h.serve hrow, hf, clearOf?_eq, zoneOf?_u1]
  simp only [Option.map_some, State.withArg, withTaken_withRight, withTaken_modZone, withTaken_zone, State.zone_modZone_self,
    answer_withTaken, refuse_withTaken, hnamed]

theorem clearConditions_refusesZone {zb : Byte} (h : NextRequest s p 0x05 f rest) (hf : f.payload = zb :: u2 cs.toNat)
    (hz : 8 ≤ zb.toNat) :
    exec (.clearConditions p) s = .next ((s.refusedWith p f rest .badArg none none).countRequest p) := by
  have hrow : rowOf f = .clearConditions := by simp [rowOf, h.2]
  have hnamed : namedBy f = (none, none) := by
    rw [namedBy, hrow, hf]
    exact congrArg (·, none) (zoneOf?_eq_none hz)
  show Host.Outcome.next (s.serve p _ _) = _
  rw [h.serve hrow, hf, clearOf?_eq, zoneOf?_eq_none hz]
  simp only [Option.map_none, State.withArg, refuse_withTaken, hnamed]

end

end Sys2Proof.Machine

open Sys2Proof Sys2Proof.Machine
set_option Elab.async false

/-- Settles O32: the request evaluates to one change of the zone, by the equation of its row of the request table. -/
theorem clearConditionsClearsSticky : Obligations.ClearConditionsClearsSticky := by
  intro s p zb cs f rest h hf
  refine ⟨?_, clearConditions_refusesZone h hf⟩
  rintro z rfl
  rw [clearConditions_answers h hf]
  exact ⟨fun hright => by rw [if_pos hright], fun hright => by rw [hright]; rfl⟩

end

section
/-! ## A SET_POINT up to check 4 (R79 to R81) -/

namespace Sys2Proof.Machine
open Sys2Proof
set_option Elab.async false

/-! ### The payload of a SET_POINT -/

theorem chanOf?_eq_some {b : Byte} {ch : ChanKind} : chanOf? b = some ch ↔ b = u1 (chanIdx ch).val := by
  revert b
  cases ch <;> decide +kernel

theorem setPointOf?_setPointBytes {v : Int} (hv : Sendable v) (z : ZoneId) (ch : ChanKind) :
    setPointOf? (setPointBytes z ch v) = some (z, ch, v) := by
  obtain ⟨hlo, hhi⟩ := hv
  show (match zoneOf? (u1 z.val), chanOf? (u1 (chanIdx ch).val) with
    | some z, some c => if s16 _ _ = -0x8000 then none else some (z, c, s16 _ _)
    | _, _ => none) = _
  rw [zoneOf?_u1, chanOf?_eq_some.mpr rfl, s16_bytes (by omega) (by omega)]
  exact if_neg (by omega)

theorem s16_range (h l : Byte) : -0x8000 ≤ s16 h l ∧ s16 h l < 0x8000 := by
  have := u16_lt h l
  unfold s16
  split <;> omega

/-- A payload that decodes is one that a SET_POINT spells. -/
theorem setPointOf?_spells {bs : List Byte} {z : ZoneId} {ch : ChanKind} {v : Int} (h : setPointOf? bs = some (z, ch, v)) :
    Sendable v ∧ bs = setPointBytes z ch v := by
  unfold setPointOf? at h
  split at h
  · next hi lo =>
    split at h
    · next hz hc =>
      have hrange := s16_range hi lo
      split at h
      · cases h
      · next hne =>
        cases h
        rw [zoneOf?_eq_some] at hz
        rw [chanOf?_eq_some] at hc
        exact ⟨by unfold Sendable; omega, by rw [setPointBytes, s2_s16, hz, hc]; rfl⟩
    · cases h
  · cases h

theorem Misspelt.setPointOf? {f : Frame} (h : Misspelt f) : setPointOf? f.payload = none := by
  cases hdec : Machine.setPointOf? f.payload with
  | none => rfl
  | some r =>
    obtain ⟨z, ch, v⟩ := r
    obtain ⟨hv, hbytes⟩ := setPointOf?_spells hdec
    exact absurd hbytes (h z ch v hv)

/-! ### What an evaluation reads -/

theorem usable_of_touches {F : List Part} {s t : State} (h : Touches F s t) (z : ZoneId)
    (hF : ∀ k ∈ [Part.cfg, .est, .nodes], k ∉ F := by decide) : t.usable z = s.usable z := by
  have hest : (t.zone z).est = (s.zone z).est := congrFun (h .est (hF _ (by decide))) z
  have hnodes : t.nodes = s.nodes := h .nodes (hF _ (by decide))
  exact usable_congr (h.zoneCfg z (hF _ (by decide))) (congrArg Estimate.seeded hest) fun n => by rw [State.node, hnodes]; rfl

/-- An evaluation rests on the zone's configuration, envelope, ceiling, estimate and overrides, on the values granted and applied in
the zone, and on the state of its climate node. -/
theorem Touches.evaluate {F : List Part} {s t : State} (h : Touches F s t) (z : ZoneId) (v : Setpoints)
    (hF : ∀ k ∈ [Part.cfg, .eff, .ceiling, .est, .ovr, .granted, .delivery, .nodes], k ∉ F := by decide) :
    t.evaluate z v = s.evaluate z v := by
  have hcfg := h.zoneCfg z (hF _ (by decide))
  have hest : (t.zone z).est = (s.zone z).est := congrFun (h .est (hF _ (by decide))) z
  have hgranted : ∀ ch, (t.chan z ch).granted = (s.chan z ch).granted := fun ch =>
    congrFun (congrFun (h .granted (hF _ (by decide))) z) ch
  have happlied : ∀ ch, (t.chan z ch).applied = (s.chan z ch).applied := fun ch => by
    have hdelivery := congrFun (congrFun (h .delivery (hF _ (by decide))) z) ch
    simp only [State.part, Prod.mk.injEq] at hdelivery
    obtain ⟨-, -, -, happlied⟩ := hdelivery
    exact happlied
  have hclimate : ∀ heat moist, t.climateCandidate z heat moist = s.climateCandidate z heat moist := fun heat moist => by
    have hheat : ((t.zone z).chan .heat).granted = ((s.zone z).chan .heat).granted := hgranted .heat
    have hmoist : ((t.zone z).chan .moist).granted = ((s.zone z).chan .moist).granted := hgranted .moist
    simp only [State.climateCandidate, hheat, hmoist, hest, hcfg, h.zoneEff z (hF _ (by decide)),
      usable_of_touches h z fun k hk => hF k (by revert hk; cases k <;> decide)]
  have hlight : (t.zone z).lightInput = (s.zone z).lightInput :=
    lightInput_congr hest hcfg (h.zoneCeiling z (hF _ (by decide))) fun ch => ⟨hgranted ch, happlied ch⟩
  simp only [State.evaluate, State.climatePart, State.lightPart, hclimate, hlight, h.zoneOvr z (hF _ (by decide))]

/-! ### Checks 1 to 4 -/

theorem PassesToCheckFour.firstFailed {s : State} {p : PortId} {z : ZoneId} {ch : ChanKind} (h : PassesToCheckFour s p z ch) :
    firstFailed s p z ch = none := by
  obtain ⟨hsup, huse, hbound, hmay, hholder⟩ := h
  have hact : (s.zone z).cfg.act ch ≠ none := Option.isSome_iff_ne_none.mp hbound
  have htenure : ¬ ((s.chan z ch).holder ≠ none ∧ (s.chan z ch).holder ≠ some p) := fun ⟨hn, hp⟩ => hholder.elim hn hp
  simp only [Machine.firstFailed, hsup, huse, hact, hmay, htenure, Bool.true_eq_false, or_self, if_false]

/-- What check 4 leaves of the channels: the port holds the one asked for, active now; the others stand (R81). -/
def HoldsChannel (s t : State) (p : PortId) (z : ZoneId) (ch : ChanKind) : Prop :=
  ∀ x j, t.chan x j = if x = z ∧ j = ch then { s.chan z ch with holder := some p, lastActivity := s.clock } else s.chan x j

/-- What check 4 leaves (R81). -/
structure Stands (s t : State) (p : PortId) (z : ZoneId) (ch : ChanKind) : Prop where
  inZone   : InZone z ([.tenure, .activity] ++ reporting) s t
  raises   : Raises [.tenureGained, .watermark, .watchMatch] s t
  channels : HoldsChannel s t p z ch

theorem HoldsChannel.then_touches {F : List Part} {s t u : State} {p : PortId} {z : ZoneId} {ch : ChanKind}
    (h : HoldsChannel s t p z ch) (k : Touches F t u)
    (hF : ∀ k ∈ [Part.granted, .delivery, .tenure, .activity], k ∉ F := by decide) : HoldsChannel s u p z ch :=
  fun x j => (k.chan x j hF).trans (h x j)

theorem HoldsChannel.holdsNow {s t : State} {p : PortId} {z : ZoneId} {ch : ChanKind} (h : HoldsChannel s t p z ch) :
    HoldsNow s t p z ch := by
  have hchan := h z ch
  rw [if_pos ⟨rfl, rfl⟩] at hchan
  simp only [HoldsNow, hchan, and_self]

theorem modPort_raises {B : List AttnBit} (s : State) (p : PortId) (f : Port → Port) (h : PortRaises B (s.port p) (f (s.port p))) :
    Raises B s (s.modPort p f) := fun q => by
  rw [State.port_modPort]
  split
  · next hq => subst hq; exact h
  · exact .refl _ _

theorem pend_raises (s : State) (p : PortId) (b : AttnBit) : Raises [b] s (s.pend p b) :=
  modPort_raises s p _ (.raise _ (List.mem_singleton_self b))

/-- A free channel that is taken: its holder and last activity, then the TENURE record and the holder's bit (R123). -/
theorem changeHolder_take {s : State} {z : ZoneId} {ch : ChanKind} (hfree : (s.chan z ch).holder = none) (p : PortId) :
    s.changeHolder z ch (some p) .take =
      ((s.modChan z ch fun c => { c with holder := some p, lastActivity := s.clock }).offer
        (.tenure s.clock z ch none (some p) .take)).pend p .tenureGained := by
  unfold State.changeHolder
  simp only [hfree]
  rfl

namespace Stands

variable {s t u : State} {p : PortId} {z : ZoneId} {ch : ChanKind}

theorem of_holder (hheld : (s.chan z ch).holder = some p) : Stands s (s.touch z ch) p z ch where
  inZone := .of_modChan (modChan_touches s z ch _)
  raises := .of_ports _ rfl
  channels x j := by rw [State.touch, State.chan_modChan, ← hheld]

theorem of_modChan (s : State) (p : PortId) (z : ZoneId) (ch : ChanKind) :
    Stands s (s.modChan z ch fun c => { c with holder := some p, lastActivity := s.clock }) p z ch where
  inZone := .of_modChan (modChan_touches s z ch _)
  raises := .of_ports _ rfl
  channels x j := State.chan_modChan s z x ch j _

theorem then_signalled (h : Stands s t p z ch) (k : Signalled t u)
    (r : Raises [.tenureGained, .watermark, .watchMatch] t u) : Stands s u p z ch where
  inZone := h.inZone.then_mono (k.inZone z) (by decide)
  raises := h.raises.trans r
  channels := h.channels.then_touches k.touches

theorem then_touch (h : Stands s t p z ch) : Stands s (t.touch z ch) p z ch where
  inZone := h.inZone.then_mono (.of_modChan (F := [.activity]) (modChan_touches t z ch _)) (by decide)
  raises := h.raises.trans (.of_ports _ rfl)
  channels x j := by
    have hclock : t.clock = s.clock := h.inZone.touches .clock (by decide)
    have hheld := h.channels z ch
    rw [if_pos ⟨rfl, rfl⟩] at hheld
    rw [State.touch, State.chan_modChan, hheld, h.channels x j, hclock]
    split <;> rfl

end Stands

theorem take_stands {s : State} {p : PortId} {z : ZoneId} {ch : ChanKind} (hfree : (s.chan z ch).holder = none) :
    Stands s ((s.changeHolder z ch (some p) .take).touch z ch) p z ch := by
  rw [changeHolder_take hfree]
  exact (((Stands.of_modChan s p z ch).then_signalled (offer_signalled _ _) ((offer_raises _ _).mono (by decide))).then_signalled
    (pend_signalled _ p _) ((pend_raises _ p _).mono (by decide))).then_touch

theorem tenureCheck_stands {s t : State} {p : PortId} {z : ZoneId} {ch : ChanKind} (h : s.tenureCheck p z ch = some t) :
    Stands s t p z ch := by
  unfold State.tenureCheck at h
  split at h
  · next hfree =>
    cases h
    exact take_stands hfree
  · next q hheld =>
    split at h
    · next hq =>
      cases h
      exact .of_holder (hq ▸ hheld)
    · cases h

theorem tenureCheck_eq_none {s : State} {p : PortId} {z : ZoneId} {ch : ChanKind} :
    s.tenureCheck p z ch = none ↔ (s.chan z ch).holder ≠ none ∧ (s.chan z ch).holder ≠ some p := by
  unfold State.tenureCheck
  split
  · next hfree => simp only [hfree, reduceCtorEq, ne_eq, not_true_eq_false, false_and]
  · next q hheld =>
    by_cases hq : q = p
    · simp [hheld, hq]
    · simp [hheld, hq]

/-- Checks 2 to 4 fail with the code of the first that does, and leave the state; or they pass. -/
theorem standing_eq {s : State} {p : PortId} {z : ZoneId} {ch : ChanKind} (hsup : s.supervised = true) :
    (∃ code, firstFailed s p z ch = some code ∧ s.standing p z ch = (s, some code)) ∨
      ∃ t, firstFailed s p z ch = none ∧ Stands s t p z ch ∧ s.standing p z ch = (t, none) := by
  have hchan : (!(s.zone z).cfg.use || ((s.zone z).cfg.act ch).isNone) = true ↔
      (s.zone z).cfg.use = false ∨ (s.zone z).cfg.act ch = none := by simp
  have hmay : (!s.may p z (chanRight ch)) = true ↔ s.may p z (chanRight ch) = false := by simp
  simp only [firstFailed, State.standing, hsup, hchan, hmay, Bool.true_eq_false, if_false]
  by_cases hbad : (s.zone z).cfg.use = false ∨ (s.zone z).cfg.act ch = none
  · exact .inl ⟨.noChannel, if_pos hbad, if_pos hbad⟩
  by_cases hforbidden : s.may p z (chanRight ch) = false
  · exact .inl ⟨.noRight, by rw [if_neg hbad, if_pos hforbidden], by rw [if_neg hbad, if_pos hforbidden]⟩
  simp only [if_neg hbad, if_neg hforbidden]
  cases htenure : s.tenureCheck p z ch with
  | none => exact .inl ⟨.notTenured, if_pos (tenureCheck_eq_none.mp htenure), rfl⟩
  | some t =>
    refine .inr ⟨t, if_neg fun h => ?_, tenureCheck_stands htenure, rfl⟩
    rw [tenureCheck_eq_none.mpr h] at htenure
    cases htenure

/-! ### The request with no set open -/

theorem breakLink_of_none {s : State} {p : PortId} (h : (s.port p).link = none) (b : Bool) : s.breakLink p b = s := by
  simp only [State.breakLink, h]

theorem refuseSetPoint_breakLink {s : State} {p : PortId} (h : (s.port p).link = none) (tag : Byte)
    (asked : Option (ZoneId × ChanKind)) (v : Option Int) (code : Status) (conds : CondSet) :
    (s.refuseSetPoint p tag asked v code conds).breakLink p true = s.refuseSetPoint p tag asked v code conds :=
  breakLink_of_none ((congrFun ((refuseSetPoint_reported s p tag asked v code conds).touches .link (by decide)) p).trans h) _

section

variable {s : State} {p : PortId} {f : Frame} {rest : List Frame} {z : ZoneId} {ch : ChanKind} {v : Int}

theorem NextRequest.exec_setPoint (h : NextRequest s p 0x01 f rest) :
    exec (.setPoint p) s = .next ((s.withTaken p rest).setPointRequest p f) := by
  have hrow : rowOf f = .setPoint := by simp [rowOf, h.2]
  have htake : s.takeFrame p .setPoint = some (f, s.withTaken p rest) := by
    simp only [State.takeFrame, h.1, hrow, if_true]
    rfl
  show execSetPoint p s = _
  rw [execSetPoint, htake]

theorem setPointRequest_misspelt (hlink : (s.port p).link = none) (hf : setPointOf? f.payload = none) :
    s.setPointRequest p f = s.refuseSetPoint p f.tag none (setPointValue f.payload) .badArg 0 := by
  simp only [State.setPointRequest, hf, refuseSetPoint_breakLink hlink]

theorem setPointRequest_fails (hlink : (s.port p).link = none) (hf : setPointOf? f.payload = some (z, ch, v)) {code : Status}
    (hfailed : firstFailed s p z ch = some code) :
    s.setPointRequest p f = s.refuseSetPoint p f.tag (some (z, ch)) (some v) code 0 := by
  simp only [State.setPointRequest, hf]
  cases hsup : s.supervised with
  | false =>
    simp only [firstFailed, hsup, if_true, Option.some.injEq] at hfailed
    simp only [Bool.not_false, if_true, refuseSetPoint_breakLink hlink, hfailed]
  | true =>
    obtain ⟨code', hcode, hstanding⟩ | ⟨t, hnone, -, -⟩ := standing_eq (p := p) (z := z) (ch := ch) hsup
    · cases hcode.symm.trans hfailed
      simp only [hstanding, Bool.not_true, Bool.false_eq_true, if_false, refuseSetPoint_breakLink hlink]
    · cases hnone.symm.trans hfailed

theorem setPointRequest_stands (hlink : (s.port p).link = none) (hf : setPointOf? f.payload = some (z, ch, v))
    (hpasses : firstFailed s p z ch = none) :
    ∃ u, Stands s u p z ch ∧ s.setPointRequest p f = u.admitAlone p f.tag z ch v := by
  have hsup : s.supervised = true := by
    cases hsup : s.supervised with
    | true => rfl
    | false => simp [firstFailed, hsup] at hpasses
  obtain ⟨code, hcode, -⟩ | ⟨u, -, hstands, hstanding⟩ := standing_eq (p := p) (z := z) (ch := ch) hsup
  · cases hcode.symm.trans hpasses
  · have hu : (u.port p).link = none := (congrFun (hstands.inZone.touches .link (by decide)) p).trans hlink
    refine ⟨u, hstands, ?_⟩
    simp only [State.setPointRequest, hf, hsup, hstanding, Bool.not_true, Bool.false_eq_true, if_false, State.setPointStanding, hu]

/-! ### The request as the port's next -/

theorem withTaken_firstFailed : firstFailed (s.withTaken p rest) p z ch = firstFailed s p z ch := by
  unfold firstFailed
  rw [withTaken_may]
  rfl

theorem setPoint_refusesMisspelt (h : NextRequest s p 0x01 f rest) (hlink : (s.port p).link = none) (hf : Misspelt f) :
    exec (.setPoint p) s =
      .next ((s.withTaken p rest).refuseSetPoint p f.tag none (setPointValue f.payload) .badArg 0) := by
  rw [h.exec_setPoint, setPointRequest_misspelt ((withTaken_port_link s p p rest).trans hlink) hf.setPointOf?]

theorem setPoint_refusesFirstFailed (h : NextRequest s p 0x01 f rest) (hlink : (s.port p).link = none)
    (hf : f.payload = setPointBytes z ch v) (hv : Sendable v) {code : Status} (hfailed : firstFailed s p z ch = some code) :
    exec (.setPoint p) s =
      .next ((s.withTaken p rest).refuseSetPoint p f.tag (some (z, ch)) (some v) code 0) := by
  rw [h.exec_setPoint, setPointRequest_fails ((withTaken_port_link s p p rest).trans hlink)
    (by rw [hf, setPointOf?_setPointBytes hv]) (withTaken_firstFailed.trans hfailed)]

theorem setPoint_admits (h : NextRequest s p 0x01 f rest) (hlink : (s.port p).link = none)
    (hf : f.payload = setPointBytes z ch v) (hv : Sendable v) (hpasses : firstFailed s p z ch = none) :
    ∃ u, Stands (s.withTaken p rest) u p z ch ∧ exec (.setPoint p) s = .next (u.admitAlone p f.tag z ch v) := by
  obtain ⟨u, hstands, hrequest⟩ := setPointRequest_stands ((withTaken_port_link s p p rest).trans hlink)
    (by rw [hf, setPointOf?_setPointBytes hv]) (withTaken_firstFailed.trans hpasses)
  exact ⟨u, hstands, by rw [h.exec_setPoint, hrequest]⟩

end

end Sys2Proof.Machine
end

section
/-! ## The answer to a SET_POINT alone (R82 to R89) -/

namespace Sys2Proof.Machine
open Sys2Proof
set_option Elab.async false

/-! ### The last record -/

/-- A record that is offered while a port is subscribed is the last of the list (R163). -/
theorem offer_reports {B : List AttnBit} {s t : State} (h : Raises B s t) (r : Record) : Reports s (t.offer r) r := fun hs => by
  rw [State.offer, if_pos (h.anySubscribed.trans hs), append_records]
  exact ⟨_, rfl⟩

/-! ### A refusal -/

theorem Touches.portRefusal {F : List Part} {s t : State} (h : Touches F s t) (q : PortId)
    (hF : Part.refusal ∉ F := by decide) :
    (t.port q).refusal = (s.port q).refusal ∧ (t.port q).refusals = (s.port q).refusals := by
  simpa only [State.part, Prod.mk.injEq] using congrFun (h .refusal hF) q

theorem RefusalNoted.of_noteRefusal {F : List Part} {s t : State} (h : Touches F s t) (p : PortId)
    (asked : Option (ZoneId × ChanKind)) (code : Status) (hF : ∀ k ∈ [Part.clock, .refusal], k ∉ F := by decide) :
    RefusalNoted s (t.noteRefusal p setPointCmd (asked.map Prod.fst) (asked.map Prod.snd) code) p asked code := by
  have hclock : t.clock = s.clock := h .clock (hF _ (by decide))
  have hrefusal := fun q => h.portRefusal q (hF _ (by decide))
  refine ⟨?_, ?_, fun q hq => ?_⟩
  · rw [State.noteRefusal, State.port_modPort_self, hclock]
    rfl
  · rw [State.noteRefusal, State.port_modPort_self, ← (hrefusal p).2]
    rfl
  · rw [State.noteRefusal, State.port_modPort_ne _ _ hq]
    exact hrefusal q

theorem RefusalNoted.then_answer {s t : State} {p : PortId} {asked : Option (ZoneId × ChanKind)} {code : Status}
    (h : RefusalNoted s t p asked code) (f : Frame) (st : Status) (payload : List Byte) :
    RefusalNoted s (t.answer p f st payload) p asked code := by
  have hanswer := fun q => (answer_touches_tx t p f st payload).portRefusal q
  refine ⟨(hanswer p).1.trans h.refusal, (hanswer p).2.trans h.count, fun q hq => ?_⟩
  obtain ⟨hrecord, hcount⟩ := h.others q hq
  exact ⟨(hanswer q).1.trans hrecord, (hanswer q).2.trans hcount⟩

/-- What a SET_POINT that is refused alone leaves, besides what happened before its refusal (R88). -/
structure RefusedAlone (F : List Part) (s t : State) (p : PortId) (f : Frame) (rest : List Frame)
    (asked : Option (ZoneId × ChanKind)) (v : Option Int) (code : Status) (conds : CondSet) : Prop where
  refused : SetPointRefused s t p f rest asked (refusalChan asked code) code conds
  reports : Reports s t (.refusal s.clock p asked v code)
  touches : Touches (intake ++ (F ++ reporting ++ [.refusal])) s t

/-- The refusal of a SET_POINT that is taken, after changes that are no one's response or refusal. -/
theorem refuseSetPoint_refusedAlone {F : List Part} {B : List AttnBit} {s u : State} {p : PortId} {rest : List Frame}
    (h : Touches F (s.withTaken p rest) u) (r : Raises B (s.withTaken p rest) u) (f : Frame)
    (asked : Option (ZoneId × ChanKind)) (v : Option Int) (code : Status) (conds : CondSet)
    (hF : ∀ k ∈ intake ++ [.clock, .refusal], k ∉ F := by decide) :
    RefusedAlone F s (u.refuseSetPoint p f.tag asked v code conds) p f rest asked v code conds := by
  have hclock : u.clock = s.clock := h .clock (hF _ (by decide))
  have hout : ∀ k ∈ intake ++ [Part.clock, .refusal], k ∉ F ++ reporting := fun k hk =>
    List.not_mem_append (hF k hk) (by revert hk; cases k <;> decide)
  have hreported : Touches (F ++ reporting) (s.withTaken p rest) (u.offer (.refusal s.clock p asked v code)) :=
    (h.mono (List.subset_append_left _ _)).then_mono (offer_signalled _ _).touches (List.subset_append_right _ _)
  have hnoted : Touches (F ++ reporting ++ [.refusal]) (s.withTaken p rest)
      ((u.offer (.refusal s.clock p asked v code)).noteRefusal p setPointCmd (asked.map Prod.fst) (asked.map Prod.snd) code) :=
    (hreported.mono (List.subset_append_left _ _)).then_mono (modPort_touches _ p _) (List.subset_append_right _ _)
  have hbefore : Touches ([.queue, .counters] ++ (F ++ reporting)) s (u.offer (.refusal s.clock p asked v code)) :=
    ((withTaken_touches s p rest).mono (List.subset_append_left _ _)).then_mono hreported (List.subset_append_right _ _)
  have hrecord := RefusalNoted.of_noteRefusal hbefore p asked code fun k hk =>
    List.not_mem_append (by revert hk; cases k <;> decide) (hout k (List.mem_append_right _ hk))
  have hunfold : u.refuseSetPoint p f.tag asked v code conds =
      ((u.offer (.refusal s.clock p asked v code)).noteRefusal p setPointCmd (asked.map Prod.fst) (asked.map Prod.snd) code).answer
        p f code (setPointPayload (refusalChan asked code) none conds) := by
    rw [State.refuseSetPoint, hclock]
    rfl
  rw [hunfold]
  refine ⟨⟨hnoted.accepted f _ _ fun k hk => ?_, ?_⟩, ?_, hnoted.answered f _ _⟩
  · exact List.not_mem_append (hout k (List.mem_append_left _ hk)) (by revert hk; cases k <;> decide)
  · exact hrecord.then_answer f _ _
  · exact offer_reports ((withTaken_raises s p rest).mono (List.nil_subset _) |>.trans r) _

theorem SetPointRefused.of_named {s t : State} {p : PortId} {f : Frame} {rest : List Frame} {asked : Option (ZoneId × ChanKind)}
    {code : Status} {conds : CondSet} (h : SetPointRefused s t p f rest asked (refusalChan asked code) code conds)
    (hcode : code ≠ .badArg) : SetPointRefused s t p f rest asked asked code conds := by
  rwa [refusalChan, if_neg hcode] at h

theorem firstFailed_ne_badArg {s : State} {p : PortId} {z : ZoneId} {ch : ChanKind} {code : Status}
    (h : firstFailed s p z ch = some code) : code ≠ .badArg := by
  rintro rfl
  unfold firstFailed at h
  repeat' split at h
  all_goals cases h

theorem noteRefusal_raises {B : List AttnBit} (s : State) (p : PortId) (cmd : Byte) (zone : Option ZoneId) (ch : Option ChanKind)
    (code : Status) : Raises B s (s.noteRefusal p cmd zone ch code) := modPort_raises s p _ ⟨fun _ _ => rfl, rfl⟩

theorem respond_raises {B : List AttnBit} (s : State) (p : PortId) (tag : Byte) (st : Status) (payload : List Byte) :
    Raises B s (s.respond p tag st payload) := modPort_raises s p _ ⟨fun _ _ => rfl, rfl⟩

theorem refuseSetPoint_raises (s : State) (p : PortId) (tag : Byte) (asked : Option (ZoneId × ChanKind)) (v : Option Int)
    (code : Status) (conds : CondSet) : Raises [.watermark, .watchMatch] s (s.refuseSetPoint p tag asked v code conds) :=
  ((offer_raises s _).trans (noteRefusal_raises _ p _ _ _ code)).trans (respond_raises _ p tag code _)

/-! ### A grant -/

/-- A grant on a channel with a node: the value granted and pending (R87, R150). -/
theorem grant_chan {s : State} {z : ZoneId} {ch : ChanKind} (hbound : (s.zone z).cfg.act ch ≠ none) (port : Option PortId)
    (r : Option Int) (v : Int) (c : Bool) (x : ZoneId) (j : ChanKind) :
    (s.grant port z ch r v c).chan x j = if x = z ∧ j = ch then
      { s.chan z ch with
          granted := some v
          pending := some v
          replaced := (s.chan z ch).replaced || (s.chan z ch).sent.isSome }
      else s.chan x j := by
  have hcfg : ((s.modChan z ch fun c => { c with granted := some v }).zone z).cfg = (s.zone z).cfg := by
    rw [State.modChan, State.zone_modZone_self, Zone.modChan_cfg]
  rw [grant_chan_eq, handToLoop_chan, hcfg, State.chan_modChan_self, State.chan_modChan]
  by_cases hxj : x = z ∧ j = ch
  · rw [if_pos ⟨hxj.1, hxj.2, hbound⟩, if_pos hxj]
  · rw [if_neg fun h => hxj ⟨h.1, h.2.1⟩, if_neg hxj, if_neg hxj]

theorem grant_reports (s : State) (port : Option PortId) (z : ZoneId) (ch : ChanKind) (r : Option Int) (v : Int) (c : Bool) :
    Reports s (s.grant port z ch r v c) (.grant s.clock port z ch r v c) :=
  (grant_logs s port z ch r v c).reportsAll (by simp [totalSize, recordSize, queueCapacity])

/-! ### The evaluation and what follows it -/

section

variable {s u : State} {p : PortId} {rest : List Frame} {z : ZoneId} {ch : ChanKind}

/-- An evaluation past check 4 finds what it would have found before the request was taken. -/
theorem Stands.evaluate (h : Stands (s.withTaken p rest) u p z ch) (v : Setpoints) : u.evaluate z v = s.evaluate z v :=
  (h.inZone.touches.evaluate z v).trans ((withTaken_touches s p rest).evaluate z v)

theorem Stands.inConflict (h : Stands (s.withTaken p rest) u p z ch) : u.inConflict z ch = s.inConflict z ch := by
  rw [State.inConflict, h.inZone.touches.zoneConflict z]
  rfl

/-- Past check 4, an evaluation has been recorded (R89). -/
structure Evaluated (s w : State) (p : PortId) (z : ZoneId) (ch : ChanKind) (conds : CondSet) : Prop where
  inZone   : InZone z ([.tenure, .activity, .cause, .sticky] ++ reporting) s w
  raises   : Raises [.tenureGained, .watermark, .watchMatch, .zoneCondition] s w
  channels : HoldsChannel s w p z ch
  cause    : (w.zone z).cause = conds
  sticky   : (w.zone z).sticky = (s.zone z).sticky ||| conds
  reported : StickyReported s w z

theorem Stands.recordEvaluation (h : Stands s u p z ch) (conds : CondSet) :
    Evaluated s (u.recordEvaluation z conds) p z ch conds where
  inZone := (h.inZone.mono (by decide)).then_mono (recordEvaluation_inZone u z conds) (by decide)
  raises := (h.raises.mono (by decide)).then_mono (recordEvaluation_raises u z conds) (by decide)
  channels := h.channels.then_touches (recordEvaluation_inZone u z conds).touches
  cause := (recordEvaluation_sets u z conds).1
  sticky := by rw [(recordEvaluation_sets u z conds).2, h.inZone.touches.zoneSticky z]
  reported := .trans (.of_same (h.inZone.touches.zoneSticky z) fun q => (h.raises q).others _ (by decide)) h.inZone.touches
    (recordEvaluation_stickyReported u z conds)

theorem StickyReported.of_taken (h : StickyReported (s.withTaken p rest) u z) : StickyReported s u z :=
  have htaken : StickyReported s (s.withTaken p rest) z :=
    .of_same rfl fun q => (withTaken_raises s p rest q).others _ List.not_mem_nil
  htaken.trans (withTaken_touches s p rest) h

/-! ### What is left of a SET_POINT past check 4 -/

variable {v : Int}

theorem admitAlone_conflict (h : Stands (s.withTaken p rest) u p z ch) (hclimate : isClimate ch = true)
    (hconflict : (s.zone z).conflict = true) (tag : Byte) :
    u.admitAlone p tag z ch v = u.refuseSetPoint p tag (some (z, ch)) (some v) .conflict 0 := by
  have hin : u.inConflict z ch = true := by rw [h.inConflict, State.inConflict, hclimate, hconflict]; rfl
  rw [State.admitAlone, if_pos hin]

theorem inConflict_eq_false (h : isClimate ch = true → (s.zone z).conflict = false) : s.inConflict z ch = false := by
  unfold State.inConflict
  cases hclimate : isClimate ch with
  | false => rfl
  | true => exact h hclimate

theorem admitAlone_rhPredict (h : Stands (s.withTaken p rest) u p z ch)
    (hconflict : isClimate ch = true → (s.zone z).conflict = false) (hpass : (s.evaluate z (.only ch v)).pass = false)
    (tag : Byte) :
    u.admitAlone p tag z ch v = (u.recordEvaluation z (s.evaluate z (.only ch v)).conds).refuseSetPoint p tag (some (z, ch))
      (some v) .rhPredict (s.evaluate z (.only ch v)).conds := by
  simp only [State.admitAlone, h.inConflict, inConflict_eq_false hconflict, h.evaluate, hpass, Bool.false_eq_true, if_false]

theorem admitAlone_grants (h : Stands (s.withTaken p rest) u p z ch)
    (hconflict : isClimate ch = true → (s.zone z).conflict = false) (hpass : (s.evaluate z (.only ch v)).pass = true)
    {g : Int} (hg : (s.evaluate z (.only ch v)).values.get ch = some g) (f : Frame) :
    u.admitAlone p f.tag z ch v =
      ((u.recordEvaluation z (s.evaluate z (.only ch v)).conds).grant (some p) z ch (some v) g (decide (g ≠ v))).answer p f
        (if g = v then .done else .clamped) (setPointBytes z ch g ++ u2 (s.evaluate z (.only ch v)).conds.toNat) := by
  simp only [State.admitAlone, h.inConflict, inConflict_eq_false hconflict, h.evaluate, hpass, hg, Option.getD_some,
    Bool.false_eq_true, if_false, if_true]
  rfl

/-- Past check 4, an evaluation has been recorded and its value granted (R87, R89): the channel is held by the port, the value is
granted and pending, and the other channels stand. -/
structure Granted (s w : State) (p : PortId) (z : ZoneId) (ch : ChanKind) (v g : Int) (conds : CondSet) : Prop where
  inZone   : InZone z ([.granted, .delivery, .commands, .cause, .sticky, .tenure, .activity] ++ reporting) s w
  channels : ∀ x j, w.chan x j = if x = z ∧ j = ch then
    { s.chan z ch with
        granted := some g
        pending := some g
        replaced := (s.chan z ch).replaced || (s.chan z ch).sent.isSome
        holder := some p
        lastActivity := s.clock }
    else s.chan x j
  cause    : (w.zone z).cause = conds
  sticky   : (w.zone z).sticky = (s.zone z).sticky ||| conds
  reported : StickyReported s w z
  reports  : Reports s w (.grant s.clock (some p) z ch (some v) g (decide (g ≠ v)))

theorem Evaluated.grant {w : State} {conds : CondSet} (h : Evaluated s w p z ch conds) (hbound : (s.zone z).cfg.act ch ≠ none)
    (v g : Int) : Granted s (w.grant (some p) z ch (some v) g (decide (g ≠ v))) p z ch v g conds := by
  have hgrant := grant_inZone w (some p) z ch (some v) g (decide (g ≠ v))
  have hraises := grant_raises w (some p) z ch (some v) g (decide (g ≠ v))
  have hsticky := hgrant.touches.zoneSticky z
  have hclock : w.clock = s.clock := h.inZone.touches .clock (by decide)
  have hheld := h.channels z ch
  rw [if_pos ⟨rfl, rfl⟩] at hheld
  refine ⟨(h.inZone.mono (by decide)).then_mono hgrant (by decide), fun x j => ?_, (hgrant.touches.zoneCause z).trans h.cause,
    hsticky.trans h.sticky, h.reported.trans h.inZone.touches (.of_same hsticky fun q => (hraises q).others _ (by decide)),
    fun hs => ?_⟩
  · rw [grant_chan (by rwa [h.inZone.touches.zoneCfg z]), hheld, h.channels x j]
    split <;> rfl
  · rw [← hclock]
    exact grant_reports w _ z ch _ g _ (h.raises.anySubscribed.trans hs)

/-- A SET_POINT that passes every check, as the request that is next: its value is granted and the answer says so. -/
theorem setPoint_grants {f : Frame} (h : NextRequest s p 0x01 f rest) (hlink : (s.port p).link = none)
    (hf : f.payload = setPointBytes z ch v) (hv : Sendable v) (hpasses : PassesToCheckFour s p z ch)
    (hconflict : isClimate ch = true → (s.zone z).conflict = false) (hpass : (s.evaluate z (.only ch v)).pass = true) :
    ∃ w g, (s.evaluate z (.only ch v)).values.get ch = some g ∧
      Granted (s.withTaken p rest) w p z ch v g (s.evaluate z (.only ch v)).conds ∧
      exec (.setPoint p) s = .next (w.answer p f (if g = v then .done else .clamped)
        (setPointBytes z ch g ++ u2 (s.evaluate z (.only ch v)).conds.toNat)) := by
  obtain ⟨g, hg⟩ : ∃ g, (s.evaluate z (.only ch v)).values.get ch = some g :=
    Option.isSome_iff_exists.mp (by rw [evaluate_get_isSome hpass, only_get]; rfl)
  obtain ⟨u, hstands, hexec⟩ := setPoint_admits h hlink hf hv hpasses.firstFailed
  obtain ⟨-, -, hbound, -, -⟩ := hpasses
  exact ⟨_, g, hg, (hstands.recordEvaluation _).grant (Option.isSome_iff_ne_none.mp hbound) v g,
    hexec.trans (congrArg _ (admitAlone_grants hstands hconflict hpass hg f))⟩

end

end Sys2Proof.Machine

open Sys2Proof Sys2Proof.Machine
set_option Elab.async false

/-- Settles O28: each check that fails refuses the request as taken, as held at check 4, or as evaluated, and the refusal leaves
what came before it. -/
theorem setPointIsRefusedAtFirstFailure : Obligations.SetPointIsRefusedAtFirstFailure := by
  intro s p f rest h hlink
  have htaken : ∀ asked v code,
      RefusedAlone [] s ((s.withTaken p rest).refuseSetPoint p f.tag asked v code 0) p f rest asked v code 0 :=
    fun asked v code => refuseSetPoint_refusedAlone (.refl _ _) (.refl [] _) f asked v code 0
  refine ⟨fun hf => ?misspelt, fun z ch v hf hv => ⟨fun code hcode => ?firstFailed, fun hpasses hclimate hconflict => ?conflict,
    fun hpasses hconflict hpass => ?rhPredict⟩⟩
  case misspelt =>
    obtain ⟨hrefused, hreports, htouches⟩ := htaken none (setPointValue f.payload) .badArg
    exact ⟨_, setPoint_refusesMisspelt h hlink hf, hrefused, hreports, htouches⟩
  case firstFailed =>
    obtain ⟨hrefused, hreports, htouches⟩ := htaken (some (z, ch)) (some v) code
    have hnamed := hrefused.of_named (firstFailed_ne_badArg hcode)
    exact ⟨_, setPoint_refusesFirstFailed h hlink hf hv hcode, hnamed, hreports, htouches⟩
  case conflict =>
    obtain ⟨u, hstands, hexec⟩ := setPoint_admits h hlink hf hv hpasses
    rw [admitAlone_conflict hstands hclimate hconflict] at hexec
    obtain ⟨hrefused, hreports, htouches⟩ :=
      refuseSetPoint_refusedAlone hstands.inZone.touches hstands.raises f (some (z, ch)) (some v) .conflict 0
    have hlast := (refuseSetPoint_reported u p f.tag (some (z, ch)) (some v) .conflict 0).touches
    have hchannels : HoldsChannel s _ p z ch := hstands.channels.then_touches hlast
    exact ⟨_, hexec, hrefused.of_named (by decide), hchannels.holdsNow, hreports, htouches.mono (by decide)⟩
  case rhPredict =>
    obtain ⟨u, hstands, hexec⟩ := setPoint_admits h hlink hf hv hpasses
    rw [admitAlone_rhPredict hstands hconflict hpass] at hexec
    have hevaluated := hstands.recordEvaluation (s.evaluate z (.only ch v)).conds
    generalize (s.evaluate z (.only ch v)).conds = conds at *
    generalize u.recordEvaluation z conds = w at *
    obtain ⟨hrefused, hreports, htouches⟩ :=
      refuseSetPoint_refusedAlone hevaluated.inZone.touches hevaluated.raises f (some (z, ch)) (some v) .rhPredict conds
    have hlast := (refuseSetPoint_reported w p f.tag (some (z, ch)) (some v) .rhPredict conds).touches
    have hraises := refuseSetPoint_raises w p f.tag (some (z, ch)) (some v) .rhPredict conds
    have hchannels : HoldsChannel s _ p z ch := hevaluated.channels.then_touches hlast
    have hsticky := hlast.zoneSticky z
    have hreported := hevaluated.reported.trans hevaluated.inZone.touches
      (.of_same hsticky fun q => (hraises q).others _ (by decide))
    exact ⟨_, hexec, hrefused.of_named (by decide), hchannels.holdsNow, (hlast.zoneCause z).trans hevaluated.cause,
      hsticky.trans hevaluated.sticky, hreported.of_taken, hreports, htouches.mono (by decide)⟩

/-- Settles O27: the request stands at check 4, its evaluation is the one made before it was taken, and the grant follows; the answer
changes nothing else. -/
theorem setPointIsGranted : Obligations.SetPointIsGranted := by
  intro s p z ch v f rest h hf hv hlink hpasses hconflict hpass
  obtain ⟨w, g, hg, hgranted, hexec⟩ := setPoint_grants h hlink hf hv hpasses hconflict hpass
  generalize (s.evaluate z (.only ch v)).conds = conds at *
  have htouches := hgranted.inZone.touches
  have hchan := hgranted.channels z ch
  rw [if_pos ⟨rfl, rfl⟩] at hchan
  refine ⟨_, g, hexec, hg, congrArg Channel.granted hchan, congrArg Channel.pending hchan, congrArg Channel.replaced hchan,
    (congrArg Channel.sent hchan :), (congrArg Channel.applied hchan :),
    ⟨congrArg Channel.holder hchan, (congrArg Channel.waiters hchan :), congrArg Channel.lastActivity hchan⟩,
    fun x j hxj => ?_,
    hgranted.cause, hgranted.sticky, hgranted.reported.of_answer htouches f _ _, fun x hx => ?_,
    fun hs => hgranted.reports ((withTaken_raises s p rest).anySubscribed.trans hs),
    htouches.accepted f _ _, (htouches.answered f _ _).mono (by decide)⟩
  · exact (hgranted.channels x j).trans (if_neg fun ⟨hx, hj⟩ => hxj (by rw [hx, hj]))
  · have hzone := hgranted.inZone.others x hx
    exact ⟨congrArg Zone.cause hzone, congrArg Zone.sticky hzone⟩

end

section
/-! ## The answers to the members of a set, and what its close and its break touch (R107 to R110) -/

namespace Sys2Proof.Machine

open Sys2Proof

set_option Elab.async false

/-! ### Responses that join a port's line -/

/-- The unsent responses of port `p` grow by `rs`; those of the other ports stand (R171). -/
def Responds (p : PortId) (rs : List Response) (s t : State) : Prop :=
  ∀ q, (t.port q).tx = if q = p then (s.port q).tx ++ rs else (s.port q).tx

namespace Responds

variable {p : PortId} {rs rs' : List Response} {s t u : State}

theorem trans (h : Responds p rs s t) (k : Responds p rs' t u) : Responds p (rs ++ rs') s u := fun q => by
  rw [k q, h q]
  split
  · exact List.append_assoc _ rs rs'
  · rfl

theorem of_touches {F : List Part} (h : Touches F s t) (hF : Part.tx ∉ F := by decide) : Responds p [] s t := fun q => by
  rw [List.append_nil, ite_self]
  exact congrFun (h .tx hF) q

theorem respond (s : State) (p : PortId) (tag : Byte) (st : Status) (payload : List Byte) :
    Responds p [{ tag := tag, status := st, payload := payload }] s (s.respond p tag st payload) := fun q => by
  rw [State.respond, State.port_modPort]
  split
  · next e => rw [e]
  · rfl

/-- Members answered in turn. -/
theorem members {f : State → Member → State} {r : Member → Response} (h : ∀ s m, Responds p [r m] s (f s m)) (ms : List Member)
    (s : State) : Responds p (ms.map r) s (ms.foldl f s) := by
  induction ms generalizing s with
  | nil => exact .of_touches (.refl [] s)
  | cons m ms ih => exact (h s m).trans (ih (f s m))

theorem self (h : Responds p rs s t) : (t.port p).tx = (s.port p).tx ++ rs := (h p).trans (if_pos rfl)

theorem other (h : Responds p rs s t) {q : PortId} (hq : q ≠ p) : (t.port q).tx = (s.port q).tx := (h q).trans (if_neg hq)

end Responds

theorem respond_touches_tx (s : State) (p : PortId) (tag : Byte) (st : Status) (payload : List Byte) :
    Touches [.tx] s (s.respond p tag st payload) := modPort_touches s p _

theorem noteRefusal_touches_refusal (s : State) (p : PortId) (cmd : Byte) (zone : Option ZoneId) (ch : Option ChanKind)
    (code : Status) : Touches [.refusal] s (s.noteRefusal p cmd zone ch code) := modPort_touches s p _

/-! ### A break -/

/-- The members of a set that breaks, refused in arrival order (R107). -/
def State.breakMembers (s : State) (p : PortId) (l : LinkRecord) : State :=
  l.members.foldl (fun s m => s.breakMember p l.zone m) (s.dropLink p)

/-- The answer to a member of a set that breaks (R107). -/
def brokenResponse (l : LinkRecord) (m : Member) : Response :=
  refusedResponse m.tag (l.zone.map fun z => (z, m.ch)) .linkBroken 0

section

variable {s : State} {p : PortId} {l : LinkRecord}

/-- A break by a SET_POINT leaves the refusal record to it. -/
theorem breakLink_bySetPoint (h : (s.port p).link = some l) : s.breakLink p true = s.breakMembers p l := by
  simp only [State.breakLink, h]
  rfl

theorem breakLink_noMembers (h : (s.port p).link = some l) (hl : l.members = []) (b : Bool) : s.breakLink p b = s.dropLink p := by
  simp only [State.breakLink, h, hl]
  cases b <;> rfl

/-- A break by another event notes the refusal of the last member. -/
theorem breakLink_lastMember (h : (s.port p).link = some l) {m : Member} (hl : l.members.getLast? = some m) :
    s.breakLink p false = (s.breakMembers p l).noteRefusal p setPointCmd l.zone (some m.ch) .linkBroken := by
  simp only [State.breakLink, h, hl]
  rfl

theorem breakMember_responds (s : State) (p : PortId) (l : LinkRecord) (m : Member) :
    Responds p [brokenResponse l m] s (s.breakMember p l.zone m) :=
  (Responds.of_touches (offer_signalled s _).touches).trans (.respond _ p _ _ _)

theorem breakMember_reporting (s : State) (p : PortId) (zone : Option ZoneId) (m : Member) :
    Touches (.tx :: reporting) s (s.breakMember p zone m) :=
  ((offer_signalled s _).touches.mono (by decide)).then_mono (respond_touches_tx _ p _ _ _) (by decide)

theorem breakMembers_responds (s : State) (p : PortId) (l : LinkRecord) :
    Responds p (l.members.map (brokenResponse l)) s (s.breakMembers p l) :=
  (Responds.of_touches (dropLink_touches s p)).trans (.members (fun s m => breakMember_responds s p l m) l.members _)

theorem breakMembers_touches (s : State) (p : PortId) (l : LinkRecord) :
    Touches (.link :: .tx :: reporting) s (s.breakMembers p l) :=
  ((dropLink_touches s p).mono (by decide)).then_mono
    (foldl_touches _ (fun s m => breakMember_reporting s p l.zone m) l.members _) (by decide)

end

/-! ### A close -/

/-- What reaching for the channels of a set leaves: tenure and what is reported of it (R108). -/
structure Checked (z : ZoneId) (s t : State) : Prop where
  inZone : InZone z ([.tenure, .activity] ++ reporting) s t
  raises : Raises [.tenureGained, .watermark, .watchMatch] s t

theorem Checked.refl (z : ZoneId) (s : State) : Checked z s s := ⟨.refl z _ s, .refl _ s⟩

theorem Checked.trans {z : ZoneId} {s t u : State} (h : Checked z s t) (k : Checked z t u) : Checked z s u :=
  ⟨h.inZone.trans k.inZone, h.raises.trans k.raises⟩

theorem Stands.checked {s t : State} {p : PortId} {z : ZoneId} {ch : ChanKind} (h : Stands s t p z ch) : Checked z s t :=
  ⟨h.inZone, h.raises⟩

theorem standing_checked (s : State) (p : PortId) (z : ZoneId) (ch : ChanKind) : Checked z s (s.standing p z ch).1 := by
  unfold State.standing
  split
  · exact .refl z s
  · split
    · exact .refl z s
    · split
      · exact .refl z s
      · next h => exact (tenureCheck_stands h).checked

theorem recheck_checked (p : PortId) (z : ZoneId) (ms : List Member) (s : State) : Checked z s (State.recheck p z ms s).1 := by
  induction ms generalizing s with
  | nil => exact .refl z s
  | cons m ms ih =>
    have h := standing_checked s p z m.ch
    unfold State.recheck
    generalize s.standing p z m.ch = r at h ⊢
    obtain ⟨t, code⟩ := r
    cases code with
    | some code => exact h
    | none =>
      dsimp only
      split
      · exact h
      · exact h.trans (ih t)

/-- Members answered in turn with the responses `r`. -/
def State.answerMembers (s : State) (p : PortId) (r : Member → Response) (ms : List Member) : State :=
  ms.foldl (fun s m => s.respond p (r m).tag (r m).status (r m).payload) s

/-- Members granted in turn the values `g`. -/
def State.grantMembers (s : State) (p : PortId) (z : ZoneId) (g : Member → Int) (ms : List Member) : State :=
  ms.foldl (fun s m => s.grant (some p) z m.ch (some m.value) (g m) (decide (g m ≠ m.value))) s

/-- The REFUSAL records of members, in turn. -/
def State.reportRefusals (s : State) (p : PortId) (z : ZoneId) (code : Member → Status) (ms : List Member) : State :=
  ms.foldl (fun s m => s.offer (.refusal s.clock p (some (z, m.ch)) (some m.value) (code m))) s

/-- The answer to a member of a refused set (R110). -/
def refusedMember (z : ZoneId) (culprit : ChanKind) (code : Status) (conds : CondSet) (m : Member) : Response :=
  { tag := m.tag, status := memberCode culprit code m, payload := [u1 z.val, u1 (chanIdx m.ch).val, 0x80, 0] ++ u2 conds.toNat }

/-- The answer to a member of a granted set (R110). -/
def grantedMember (z : ZoneId) (g : Member → Int) (conds : CondSet) (m : Member) : Response :=
  { tag := m.tag, status := if g m = m.value then .done else .clamped, payload := setPointBytes z m.ch (g m) ++ u2 conds.toNat }

section

variable (s : State) (p : PortId) (z : ZoneId) (l : LinkRecord)

theorem refuseLinked_eq (culprit : ChanKind) (code : Status) (conds : CondSet) :
    s.refuseLinked p z l culprit code conds =
      ((s.reportRefusals p z (memberCode culprit code) l.ordered).noteRefusal p setPointCmd (some z) (some culprit)
        code).answerMembers p (refusedMember z culprit code conds) l.members := rfl

theorem grantLinked_eq (e : Evaluation) :
    s.grantLinked p z l e = (s.grantMembers p z (fun m => (e.values.get m.ch).getD m.value) l.ordered).answerMembers p
      (grantedMember z (fun m => (e.values.get m.ch).getD m.value) e.conds) l.members := rfl

theorem answerMembers_responds (r : Member → Response) (ms : List Member) :
    Responds p (ms.map r) s (s.answerMembers p r ms) := .members (fun s _ => .respond s p _ _ _) ms s

theorem answerMembers_touches (r : Member → Response) (ms : List Member) : Touches [.tx] s (s.answerMembers p r ms) :=
  foldl_touches _ (fun s _ => respond_touches_tx s p _ _ _) ms s

theorem reportRefusals_signalled (code : Member → Status) (ms : List Member) :
    Signalled s (s.reportRefusals p z code ms) :=
  foldl_keeps _ (Signalled s) (fun t _ ht => ht.trans (offer_signalled t _)) ms s (.refl s)

theorem grantMembers_inZone (g : Member → Int) (ms : List Member) :
    InZone z ([.granted, .delivery, .commands] ++ reporting) s (s.grantMembers p z g ms) :=
  foldl_keeps _ (InZone z _ s) (fun t m ht => ht.trans (grant_inZone t (some p) z m.ch _ _ _)) ms s (.refl z _ s)

theorem refuseLinked_effects (culprit : ChanKind) (code : Status) (conds : CondSet) :
    Touches (reporting ++ [.tx, .refusal]) s (s.refuseLinked p z l culprit code conds) := by
  rw [refuseLinked_eq]
  exact (((reportRefusals_signalled s p z _ l.ordered).touches.mono (by decide)).then_mono
    (noteRefusal_touches_refusal _ p _ _ _ _) (by decide)).then_mono (answerMembers_touches _ p _ l.members) (by decide)

theorem grantLinked_effects (e : Evaluation) :
    Touches (reporting ++ [.tx, .granted, .delivery, .commands]) s (s.grantLinked p z l e) := by
  rw [grantLinked_eq]
  exact ((grantMembers_inZone s p z _ l.ordered).touches.mono (by decide)).then_mono (answerMembers_touches _ p _ l.members)
    (by decide)

end

/-- What the close of a set with members does, but for the link record (R108 to R110). -/
abbrev closeParts : List Part :=
  reporting ++ [.tx, .refusal, .granted, .delivery, .commands, .cause, .sticky, .tenure, .activity]

theorem closeMembers_effects (s : State) (p : PortId) (z : ZoneId) (l : LinkRecord) :
    Touches closeParts s (s.closeMembers p z l) := by
  have hcleared : Touches closeParts s (s.modZone z fun zn => { zn with cause := 0 }) := modZone_touches s z _
  have hchecked := hcleared.then_mono (recheck_checked p z l.ordered _).inZone.touches (by decide)
  unfold State.closeMembers
  generalize State.recheck p z l.ordered (s.modZone z fun zn => { zn with cause := 0 }) = r at hchecked ⊢
  obtain ⟨t, failed⟩ := r
  cases failed with
  | some f => exact hchecked.then_mono (refuseLinked_effects t p z l _ _ _) (by decide)
  | none =>
    dsimp only
    have hrecorded := hchecked.then_mono (recordEvaluation_inZone t z (t.evaluate z l.values).conds).touches (by decide)
    split
    · exact hrecorded.then_mono (grantLinked_effects _ p z l _) (by decide)
    · exact hrecorded.then_mono (refuseLinked_effects _ p z l _ _ _) (by decide)

theorem closeLink_members {s : State} {p : PortId} {l : LinkRecord} {z : ZoneId} (h : (s.port p).link = some l)
    (hz : l.zone = some z) (hl : l.members ≠ []) : s.closeLink p = (s.closeMembers p z l).dropLink p := by
  obtain ⟨m, ms, hms⟩ := List.exists_cons_of_ne_nil hl
  simp only [State.closeLink, h, hz, hms]

theorem closeLink_noMembers {s : State} {p : PortId} {l : LinkRecord} (h : (s.port p).link = some l) (hl : l.members = []) :
    s.closeLink p = s.dropLink p := by
  simp only [State.closeLink, h, hl]
  cases l.zone <;> rfl

/-- R102: a set that closes is no longer open, and no other is touched. -/
theorem closeLink_link (s : State) (p q : PortId) :
    ((s.closeLink p).port q).link = if q = p then none else (s.port q).link := by
  unfold State.closeLink
  split
  · next hnone =>
    split
    · next hq => rw [hq, hnone]
    · rfl
  · next l _ =>
    split
    · next z _ _ _ _ =>
      have hkept : ((s.closeMembers p z l).port q).link = (s.port q).link :=
        congrFun (closeMembers_effects s p z l .link (by decide)) q
      rw [dropLink_link, hkept]
    · exact dropLink_link s p q

end Sys2Proof.Machine
end

section
/-! ## Every step keeps every open set well formed (R100, R103)

An open link record is written in four places: a LINK opens or restarts it, a SET_POINT joins it, a request taken is counted
against it, and a LINK out of range moves its expiry. Everything else leaves the open sets or closes some. -/

namespace Sys2Proof.Machine

open Sys2Proof

set_option Elab.async false

/-! ### Changes that open no set and write none -/

/-- Every set open after the change was open before it, as it is now. -/
def OnlyCloses (s t : State) : Prop := ∀ q l, (t.port q).link = some l → (s.port q).link = some l

namespace OnlyCloses

variable {s t u : State}

theorem refl (s : State) : OnlyCloses s s := fun _ _ h => h

theorem trans (h : OnlyCloses s t) (k : OnlyCloses t u) : OnlyCloses s u := fun q l hl => h q l (k q l hl)

theorem of_touches {F : List Part} (h : Touches F s t) (hF : Part.link ∉ F := by decide) : OnlyCloses s t := fun q _ hl =>
  (congrFun (h .link hF) q).symm.trans hl

theorem then_touches (h : OnlyCloses s t) {F : List Part} (k : Touches F t u) (hF : Part.link ∉ F := by decide) :
    OnlyCloses s u := h.trans (.of_touches k hF)

/-- A change that closes the set of one port. -/
theorem of_close {p : PortId} (h : ∀ q, (t.port q).link = if q = p then none else (s.port q).link) : OnlyCloses s t :=
  fun q l hl => by
    rw [h] at hl
    split at hl
    · cases hl
    · exact hl

theorem breakLink (h : OnlyCloses s t) (p : PortId) (b : Bool) : OnlyCloses s (t.breakLink p b) :=
  h.trans (.of_close (breakLink_link t p · b))

theorem closeLink (s : State) (p : PortId) : OnlyCloses s (s.closeLink p) := .of_close (closeLink_link s p)

theorem foldl {α : Type} (f : State → α → State) (h : ∀ s a, OnlyCloses s (f s a)) (l : List α) (s : State) :
    OnlyCloses s (l.foldl f s) := foldl_keeps f (OnlyCloses s) (fun t a ht => ht.trans (h t a)) l s (.refl s)

/-! ### The shapes of a request -/

theorem refuse (s : State) (p : PortId) (f : Frame) (code : Status) : OnlyCloses s (s.refuse p f code) :=
  .of_touches (refuse_touches s p f code)

theorem answer (h : OnlyCloses s t) {p : PortId} {f : Frame} {st : Status} {payload : List Byte} :
    OnlyCloses s (t.answer p f st payload) := h.then_touches (answer_touches t p f st payload)

theorem withArg {α : Type} {p : PortId} {f : Frame} {arg : Option α} {act : α → State → State}
    (h : ∀ a, OnlyCloses s (act a s)) : OnlyCloses s (s.withArg p f arg act) := by
  unfold State.withArg
  split
  · exact refuse s p f _
  · exact h _

theorem withRight {p : PortId} {f : Frame} {z : ZoneId} {r : Right} {act : State → State} (h : OnlyCloses s (act s)) :
    OnlyCloses s (s.withRight p f z r act) := by
  unfold State.withRight
  split
  · exact h
  · exact refuse s p f _

theorem withSub {p : PortId} {f : Frame} {act : Subscription → State → State} (h : ∀ sub, OnlyCloses s (act sub s)) :
    OnlyCloses s (s.withSub p f act) := by
  unfold State.withSub
  split
  · exact refuse s p f _
  · exact h _

theorem asSystem {p : PortId} {f : Frame} {act : State → State} (h : OnlyCloses s (act s)) :
    OnlyCloses s (s.asSystem p f act) := by
  unfold State.asSystem
  split
  · exact h
  · exact refuse s p f _

theorem writeFields {α : Type} {p : PortId} {f : Frame} {mask : Nat} {fields : List Byte}
    {field : Nat → List Byte → α → Option (α × List Byte)} {held : α} {ok : α → Bool} {apply : α → State → State}
    {bytes : State → List Byte} (h : ∀ a, OnlyCloses s (apply a s)) :
    OnlyCloses s (s.writeFields p f mask fields field held ok apply bytes) := by
  unfold State.writeFields
  split
  · exact refuse s p f _
  · split
    · exact (h _).answer
    · exact refuse s p f _

theorem admitAlone (s : State) (p : PortId) (tag : Byte) (z : ZoneId) (ch : ChanKind) (v : Int) :
    OnlyCloses s (s.admitAlone p tag z ch v) := by
  unfold State.admitAlone
  split
  · exact .of_touches (refuseSetPoint_touches s p tag _ _ _ _)
  · dsimp only
    have hrecorded := OnlyCloses.of_touches (recordEvaluation_touches s z (s.evaluate z (.only ch v)).conds)
    split
    · exact (hrecorded.then_touches (grant_touches _ _ z ch _ _ _)).then_touches (respond_touches _ p tag _ _)
    · exact hrecorded.then_touches (refuseSetPoint_touches _ p tag _ _ _ _)

/-! ### The writes -/

theorem writeZoneRequest (s : State) (p : PortId) (f : Frame) : OnlyCloses s (s.writeZoneRequest p f) := by
  unfold State.writeZoneRequest
  split
  · split
    · exact refuse s p f _
    · dsimp only
      split
      · exact .withRight (OnlyCloses.refl s).answer
      · exact .withRight (.writeFields fun new => .of_touches (applyZone_inZone s _ new).touches)
  · exact refuse s p f _

theorem writeEnvelopeRequest (s : State) (p : PortId) (f : Frame) : OnlyCloses s (s.writeEnvelopeRequest p f) := by
  unfold State.writeEnvelopeRequest
  split
  · split
    · exact refuse s p f _
    · dsimp only
      split
      · exact .withRight (OnlyCloses.refl s).answer
      · exact .withRight (.writeFields fun e => .of_touches (applyEnvelope_inZone s _ e).touches)
  · exact refuse s p f _

theorem writeObjectRequest (s : State) (p : PortId) (f : Frame) : OnlyCloses s (s.writeObjectRequest p f) := by
  unfold State.writeObjectRequest
  split
  · split
    · exact refuse s p f _
    · dsimp only
      split
      · exact .withRight (OnlyCloses.refl s).answer
      · split
        · exact .writeFields fun new => .of_touches (applyObject_inZones s _ new).1
        · exact refuse s p f _
  · exact refuse s p f _

/-! ### The clock, the modes and the loop -/

theorem setClock (s : State) (time : GTime) : OnlyCloses s (s.setClock time) := by
  have hset : Touches [.clock, .clockLost, .marks] s
      { s with clock := time, clockLost := false, minuteMarks := [], fiveMarks := [] } := by
    intro k hk
    cases k <;> first | rfl | simp at hk
  have hrings : ∀ t : State, Touches [.est] t
      (t.forZones fun z s => s.modZone z fun zn => { zn with est := { zn.est with ring := [] } }) := fun t =>
    forZones_touches t _ fun z s => modZone_touches s z _
  have hhorizons : ∀ t : State, Touches [.horizon] t (t.forZones fun z s => s.modZone z fun zn => { zn with horizon := s.clock }) :=
    fun t => forZones_touches t _ fun z s => modZone_touches s z _
  have hdose : ∀ t : State, OnlyCloses t t.clockDose := fun t =>
    ((OnlyCloses.of_touches (hhorizons t)).then_touches (periodStart_touches _ _)).then_touches (reevalAll_touches _)
  exact ((((((OnlyCloses.of_touches hset).then_touches (offer_touches _ _)).then_touches (hrings _)).trans (hdose _)).then_touches
    (touchAll_touches _)).then_touches (clockLoop_touches _)).then_touches (F := [.det])
    (forZones_touches _ _ fun z s => modZone_touches s z _)

theorem enterStandby (s : State) : OnlyCloses s s.enterStandby := by
  have hbroken := foldl (fun s p => s.breakLink p false) (fun s p => (OnlyCloses.refl s).breakLink p false) allPorts
    { s with supervised := false }
  refine ((OnlyCloses.of_touches (supervised_touches s false)).trans hbroken).then_touches (F := [.ovr, .granted] ++ drops') ?_
  exact forZones_touches _ _ fun z s => (clearStop_inZone s z).touches

theorem endRead (s : State) (n : NodeId) (d : Option ReplyData) : OnlyCloses s (s.endRead n d) := by
  have hnoted : ∀ (f : Node → Node) (st : NodeState),
      OnlyCloses s (((s.modNode n f).setNodeState n st).rescheduleRead n) := fun f st =>
    ((OnlyCloses.of_touches (modNode_touches s n f)).then_touches (setNodeState_touches _ n st)).then_touches
      (rescheduleRead_touches _ n)
  unfold State.endRead
  split
  · exact hnoted _ _
  · dsimp only
    split
    · exact (hnoted _ _).then_touches (climateSample_touches _ _ _ _)
    · exact (hnoted _ _).then_touches (lightSample_touches _ _ _ _)
    · exact hnoted _ _

theorem endTransaction (s : State) (x : Transaction) (d : Option ReplyData) : OnlyCloses s (s.endTransaction x d) := by
  have hfree := OnlyCloses.of_touches (txn_touches s none)
  unfold State.endTransaction
  dsimp only
  split
  · exact hfree.trans (endRead _ _ d)
  · exact hfree.then_touches (endCommand_touches _ _ d)
  · exact hfree.then_touches (endStatus_touches _ _ d)

/-! ### Receivers -/

theorem discard (s : State) (p : PortId) : OnlyCloses s (s.discard p) :=
  (OnlyCloses.of_touches (F := [.rx, .counters]) (modPort_touches s p _)).breakLink p false

theorem receiveFrame (s : State) (p : PortId) (f : Frame) : OnlyCloses s (s.receiveFrame p f) := by
  have hcounted : OnlyCloses s (s.modPort p fun pt => { pt with portFull := bump 1 pt.portFull }) :=
    .of_touches (F := [.counters]) (modPort_touches s p _)
  unfold State.receiveFrame
  split
  · exact .of_touches (F := [.queue]) (modPort_touches s p _)
  · exact ((hcounted.then_touches (noteRefusal_touches _ p _ _ _ _)).then_touches (respond_touches _ p _ _ _)).breakLink p false

theorem takeByte (s : State) (p : PortId) (b : Byte) : OnlyCloses s (s.takeByte p b) := by
  unfold State.takeByte
  split
  · split
    · exact .of_touches (setReceiver_touches s p _)
    · exact .refl s
  · unfold State.takeBytes
    split
    · exact .refl s
    · split
      · exact discard s p
      · split
        · exact .of_touches (setReceiver_touches s p _)
        · unfold State.endFrame
          dsimp only
          split
          · split
            · exact (OnlyCloses.of_touches (setReceiver_touches s p .idle)).trans (receiveFrame _ p _)
            · exact discard s p
          · exact discard s p

end OnlyCloses

/-! ### The four places -/

namespace LinkRecord.WellFormed

variable {l : LinkRecord}

theorem counted (h : l.WellFormed) (hmore : ¬ l.remaining ≤ 1) : ({ l with remaining := l.remaining - 1 } : LinkRecord).WellFormed := by
  obtain ⟨-, hmost, hnodup, hzone⟩ := h
  exact ⟨Nat.le_sub_of_add_le (not_le.mp hmore), (Nat.sub_le _ _).trans hmost, hnodup, hzone⟩

/-- A SET_POINT that passes check 5 names a channel of its own (R103). -/
theorem joined (h : l.WellFormed) {z : ZoneId} {m : Member} (hm : l.rejects z m.ch = false) :
    ({ l with zone := some z, members := l.members ++ [m] } : LinkRecord).WellFormed := by
  obtain ⟨hleast, hmost, hnodup, -⟩ := h
  obtain ⟨-, hfree⟩ := Bool.or_eq_false_iff.mp hm
  have hother : ∀ m' ∈ l.members, m'.ch ≠ m.ch := by simpa [LinkRecord.member] using hfree
  refine ⟨hleast, hmost, ?_, fun _ => rfl⟩
  show ((l.members ++ [m]).map Member.ch).Nodup
  rw [List.map_append, List.nodup_append]
  refine ⟨hnodup, List.nodup_singleton _, fun a ha b hb => ?_⟩
  obtain ⟨m', hm', rfl⟩ := List.mem_map.mp ha
  rw [List.map_singleton, List.mem_singleton] at hb
  rw [hb]
  exact hother m' hm'

/-- R101: what a LINK leaves keeps the members of the set it restarts. -/
theorem linkAfter {old : Option LinkRecord} (h : ∀ l, old = some l → l.WellFormed) {n : Nat} (hn : 1 ≤ n ∧ n ≤ 4) (now : Nat) :
    (linkAfter old n now).WellFormed := by
  cases old with
  | none => exact ⟨hn.1, hn.2, List.nodup_nil, fun hne => absurd rfl hne⟩
  | some l =>
    obtain ⟨-, -, hnodup, hzone⟩ := h l rfl
    exact ⟨hn.1, hn.2, hnodup, hzone⟩

end LinkRecord.WellFormed

theorem linkOf?_range {bs : List Byte} {n : Nat} (h : linkOf? bs = some n) : 1 ≤ n ∧ n ≤ 4 := by
  unfold linkOf? within at h
  split at h
  · split at h
    · next hn =>
      cases h
      exact hn
    · cases h
  · cases h

namespace LinksWellFormed

variable {s t : State}

theorem onlyCloses (h : LinksWellFormed s) (k : OnlyCloses s t) : LinksWellFormed t := fun q l hl => h q l (k q l hl)

/-- A port's link record is written. -/
theorem modLink (h : LinksWellFormed s) {p : PortId} {f : Port → Port}
    (hf : ∀ l, (f (s.port p)).link = some l → l.WellFormed) : LinksWellFormed (s.modPort p f) := fun q l hl => by
  rw [State.port_modPort] at hl
  split at hl
  · exact hf l hl
  · exact h q l hl

theorem countRequest (h : LinksWellFormed s) (p : PortId) : LinksWellFormed (s.countRequest p) := by
  unfold State.countRequest
  split
  · exact h
  · next l hl =>
    split
    · exact h.onlyCloses (.closeLink s p)
    · next hmore =>
      refine h.modLink fun l' hl' => ?_
      cases hl'
      exact (h p l hl).counted hmore

theorem takeFrame (h : LinksWellFormed s) {p : PortId} {row : ReqRow} {f : Frame} (ht : s.takeFrame p row = some (f, t)) :
    LinksWellFormed t := by
  unfold State.takeFrame at ht
  split at ht
  · cases ht
  · split at ht
    · cases ht
      exact h.onlyCloses (.of_touches (taken_touches s p _))
    · cases ht

/-- A request that leaves the open sets, or closes some, is counted (R102). -/
theorem serve (h : LinksWellFormed s) (p : PortId) (row : ReqRow) (handle : Frame → State → State)
    (hh : ∀ f t, OnlyCloses t (handle f t)) : LinksWellFormed (s.serve p row handle) := by
  unfold State.serve
  split
  · next ht => exact ((h.takeFrame ht).onlyCloses (hh _ _)).countRequest p
  · exact h

theorem setPointStanding (h : LinksWellFormed s) (p : PortId) (tag : Byte) (z : ZoneId) (ch : ChanKind) (v : Int) :
    LinksWellFormed (s.setPointStanding p tag z ch v) := by
  unfold State.setPointStanding
  split
  · exact h.onlyCloses (.admitAlone s p tag z ch v)
  · next l hl =>
    split
    · exact h.onlyCloses ((OnlyCloses.of_touches (refuseSetPoint_touches s p tag _ _ _ _)).breakLink p true)
    · next hjoins =>
      refine LinksWellFormed.countRequest (h.modLink fun l' hl' => ?_) p
      cases hl'
      exact (h p l hl).joined (Bool.eq_false_iff.mpr hjoins)

theorem setPointRequest (h : LinksWellFormed s) (p : PortId) (f : Frame) : LinksWellFormed (s.setPointRequest p f) := by
  have hbroken : ∀ (t : State) (asked : Option (ZoneId × ChanKind)) (v : Option Int) (code : Status), OnlyCloses s t →
      LinksWellFormed ((t.refuseSetPoint p f.tag asked v code 0).breakLink p true) := fun t asked v code ht =>
    h.onlyCloses ((ht.then_touches (refuseSetPoint_touches t p f.tag asked v code 0)).breakLink p true)
  unfold State.setPointRequest
  split
  · exact hbroken s _ _ _ (.refl s)
  · next z ch v _ =>
    split
    · exact hbroken s _ _ _ (.refl s)
    · have hstood := OnlyCloses.of_touches (standing_touches s p z ch)
      generalize s.standing p z ch = r at hstood ⊢
      obtain ⟨t, code⟩ := r
      cases code with
      | some code => exact hbroken t _ _ _ hstood
      | none => exact (h.onlyCloses hstood).setPointStanding p f.tag z ch v

theorem linkRequest (h : LinksWellFormed s) (p : PortId) (f : Frame) : LinksWellFormed (s.linkRequest p f) := by
  unfold State.linkRequest
  split
  · have hrefused := h.onlyCloses (.refuse s p f .badArg)
    refine LinksWellFormed.countRequest (hrefused.modLink fun l hl => ?_) p
    obtain ⟨l', hl', rfl⟩ := Option.map_eq_some_iff.mp hl
    exact hrefused p l' hl'
  · next hn =>
    split
    · exact h.onlyCloses (.refuse s p f _)
    · refine LinksWellFormed.onlyCloses (h.modLink (p := p) fun l hl => ?_) (OnlyCloses.refl _).answer
      cases hl
      exact .linkAfter (h p) (linkOf?_range hn) _

end LinksWellFormed

/-! ### Each command -/

theorem startUp_onlyCloses (s : State) (straps : Straps) (running : GTime) (flag lost byPin : Bool) :
    OnlyCloses s (s.startUp straps running flag lost byPin) := fun q l hl => by
  have hnone := (startUp_idle s straps running flag lost byPin).links q
  cases hnone.symm.trans hl

namespace LinksWellFormed

variable {s : State}

theorem execTakeTenure (h : LinksWellFormed s) (p : PortId) : NextHas LinksWellFormed (execTakeTenure p s) :=
  h.serve p _ _ fun f t => .withArg fun (z, ch, pre) => .withRight <| by
    have htaken := (OnlyCloses.of_touches (takeChannel_touches t p z ch pre)).answer (p := p) (f := f)
      (st := (t.takeChannel p z ch pre).2) (payload := tenureBytes ((t.takeChannel p z ch pre).1.chan z ch))
    dsimp only
    split
    · exact htaken.then_touches (takeLapse_touches _ z ch)
    · exact htaken

theorem execSetHold (h : LinksWellFormed s) (p : PortId) : NextHas LinksWellFormed (execSetHold p s) :=
  h.serve p _ _ fun f t => .asSystem <| .withArg fun (ch, n) => by
    have hset : Touches [.holds] t { t with holds := t.holds.set (chanIdx ch) n } := by
      intro k hk
      cases k <;> first | rfl | simp at hk
    exact (OnlyCloses.of_touches hset).answer.then_touches (forZones_touches _ _ fun z u => takeLapse_touches u z ch)

theorem execReadNode (h : LinksWellFormed s) (p : PortId) : NextHas LinksWellFormed (execReadNode p s) :=
  h.serve p _ _ fun f t => .withArg fun n => by
    split
    · exact .withRight (OnlyCloses.refl t).answer
    · exact (OnlyCloses.refl t).answer

theorem execDrain (h : LinksWellFormed s) (p : PortId) : NextHas LinksWellFormed (execDrain p s) :=
  h.serve p _ _ fun f t => by
    split
    · exact .refuse t p f _
    · exact .withSub fun sub => .withArg fun n => .of_touches (drainRequest_touches t p f sub n)

theorem execScan (h : LinksWellFormed s) (p : PortId) : NextHas LinksWellFormed (execScan p s) :=
  h.serve p _ _ fun f t => by
    split
    · exact .refuse t p f _
    · exact .withSub fun sub => .withArg fun sel => .of_touches (scanRequest_touches t p f sub sel)

theorem execSetWatchOn (h : LinksWellFormed s) (p : PortId) : NextHas LinksWellFormed (execSetWatchOn p s) :=
  h.serve p _ _ fun f t => by
    split
    · exact .refuse t p f _
    · exact .withSub fun _ => .withArg fun sel => (OnlyCloses.of_touches (setWatch_touches t p (some sel))).answer

theorem execMark (h : LinksWellFormed s) (p : PortId) : NextHas LinksWellFormed (execMark p s) :=
  h.serve p _ _ fun f t => .withArg fun zs => by
    split
    · exact (OnlyCloses.of_touches (markZones_touches t zs)).answer
    · exact .refuse t p f _

theorem execSuperviseOn (h : LinksWellFormed s) (p : PortId) : NextHas LinksWellFormed (execSuperviseOn p s) :=
  h.serve p _ _ fun f t => .asSystem <| .withArg fun _ => by
    split
    · exact (OnlyCloses.refl t).answer
    · exact (OnlyCloses.of_touches (enterSupervised_touches t)).answer

theorem execSuperviseOff (h : LinksWellFormed s) (p : PortId) : NextHas LinksWellFormed (execSuperviseOff p s) :=
  h.serve p _ _ fun f t => .asSystem <| by
    split
    · exact (OnlyCloses.enterStandby t).answer
    · exact (OnlyCloses.refl t).answer

theorem execWriteAuthority (h : LinksWellFormed s) (p : PortId) : NextHas LinksWellFormed (execWriteAuthority p s) :=
  h.serve p _ _ fun f t => .asSystem <| .withArg fun (q, zs, rs) => by
    dsimp only
    split
    · exact .refuse t p f _
    · refine (OnlyCloses.foldl _ (fun u z => ?_) _ t).answer
      show OnlyCloses u (if _ then _ else _)
      split
      · exact .of_touches (writeRights_touches u q z rs)
      · exact .refl u

theorem execWriteNode (h : LinksWellFormed s) (p : PortId) : NextHas LinksWellFormed (execWriteNode p s) :=
  h.serve p _ _ fun f t => .asSystem <| .withArg fun (n, kind, code) => by
    dsimp only
    split
    · exact (OnlyCloses.of_touches (applyNode_touches t n kind code)).answer
    · exact .refuse t p f _

theorem execSetPeriod (h : LinksWellFormed s) (p : PortId) : NextHas LinksWellFormed (execSetPeriod p s) :=
  h.serve p _ _ fun f t => .asSystem <| .withArg fun (n, start) => by
    dsimp only
    split
    · exact (OnlyCloses.of_touches (setPeriod_touches t n start)).answer
    · exact .refuse t p f _

theorem execSetPoint (h : LinksWellFormed s) (p : PortId) : NextHas LinksWellFormed (execSetPoint p s) := by
  unfold Machine.execSetPoint
  split
  · next ht => exact (h.takeFrame ht).setPointRequest p _
  · exact h

theorem execLink (h : LinksWellFormed s) (p : PortId) : NextHas LinksWellFormed (execLink p s) := by
  unfold Machine.execLink
  split
  · next ht => exact (h.takeFrame ht).linkRequest p _
  · exact h

theorem execLinkTimeout (h : LinksWellFormed s) (p : PortId) : NextHas LinksWellFormed (execLinkTimeout p s) := by
  show LinksWellFormed (if _ then _ else _)
  split
  · exact h.onlyCloses ((OnlyCloses.refl s).breakLink p false)
  · exact h

theorem execInterByteGap (h : LinksWellFormed s) (p : PortId) : NextHas LinksWellFormed (execInterByteGap p s) := by
  unfold Machine.execInterByteGap
  split
  · exact h
  · exact h.onlyCloses (.discard s p)

theorem execPowerOn (h : LinksWellFormed s) (straps : Straps) (kept : Option Nat) :
    NextHas LinksWellFormed (execPowerOn straps kept s) := by
  unfold Machine.execPowerOn
  split
  · exact h.onlyCloses (startUp_onlyCloses s straps _ _ _ _)
  · exact h.onlyCloses (startUp_onlyCloses s straps _ _ _ _)

theorem execMinuteMark (h : LinksWellFormed s) : NextHas LinksWellFormed (execMinuteMark s) := by
  unfold Machine.execMinuteMark
  split
  · exact h
  · next ms _ => exact h.onlyCloses ((OnlyCloses.of_touches (minuteMarks_touches s ms)).then_touches (minuteWork_effects _ _))

theorem execFiveMinuteMark (h : LinksWellFormed s) : NextHas LinksWellFormed (execFiveMinuteMark s) := by
  unfold Machine.execFiveMinuteMark
  split
  · exact h
  · next ms _ =>
    exact h.onlyCloses ((OnlyCloses.of_touches (fiveMarks_touches s ms)).then_touches
      (forZones_touches _ _ fun z t => markZone_touches t z))

theorem execSensorPollDue (h : LinksWellFormed s) (addr : Nat) : NextHas LinksWellFormed (execSensorPollDue addr s) := by
  unfold Machine.execSensorPollDue
  split
  · exact h
  · dsimp only
    split
    · exact h.onlyCloses (.of_touches (modNode_touches s _ _))
    · exact h

theorem execStatusDue (h : LinksWellFormed s) (addr : Nat) : NextHas LinksWellFormed (execStatusDue addr s) := by
  unfold Machine.execStatusDue
  split
  · exact h
  · split
    · exact h.onlyCloses (.of_touches (modNode_touches s _ _))
    · exact h

theorem execActuatorRetry (h : LinksWellFormed s) (addr : Nat) : NextHas LinksWellFormed (execActuatorRetry addr s) := by
  unfold Machine.execActuatorRetry
  split
  · exact h
  · split
    · exact h.onlyCloses (.of_touches (retryNode_touches s _))
    · exact h

theorem execLoopTransactionStart (h : LinksWellFormed s) : NextHas LinksWellFormed (execLoopTransactionStart s) := by
  unfold Machine.execLoopTransactionStart
  split
  · exact h
  · have hpruned := OnlyCloses.of_touches (pruneCommands_touches s)
    dsimp only
    split
    · exact h.onlyCloses (hpruned.then_touches (begin_touches _ _))
    · exact h.onlyCloses hpruned

theorem execLoopReply (h : LinksWellFormed s) (bytes : List Byte) : NextHas LinksWellFormed (execLoopReply bytes s) := by
  unfold Machine.execLoopReply
  split
  · exact h
  · split
    · exact h
    · exact h.onlyCloses (.endTransaction s _ _)

theorem execLoopReplyTimeout (h : LinksWellFormed s) : NextHas LinksWellFormed (execLoopReplyTimeout s) := by
  unfold Machine.execLoopReplyTimeout
  split
  · exact h
  · split
    · exact h.onlyCloses (.of_touches (txn_touches s none))
    · exact h.onlyCloses (.endTransaction s _ _)

theorem exec (h : LinksWellFormed s) (i : Instr) : NextHas LinksWellFormed (exec i s) := by
  cases i with
  | powerOn straps kept => exact h.execPowerOn straps kept
  | resetPin straps => exact h.onlyCloses (startUp_onlyCloses s straps _ _ _ _)
  | frame p bytes => exact h.onlyCloses (.foldl _ (fun t b => .takeByte t p b) bytes s)
  | interByteGap p => exact h.execInterByteGap p
  | responseSent p =>
    exact h.onlyCloses (.of_touches (F := [.tx]) (modPort_touches s p fun pt => { pt with tx := pt.tx.drop 1 }))
  | attentionPulseEnd p =>
    exact h.onlyCloses (.of_touches (F := [.attn]) (modPort_touches s p fun pt => { pt with pulse := false }))
  | badCmd p => exact h.serve p _ _ fun f t => .refuse t p f _
  | setPoint p => exact h.execSetPoint p
  | link p => exact h.execLink p
  | linkTimeout p => exact h.execLinkTimeout p
  | takeTenure p => exact h.execTakeTenure p
  | releaseTenure p =>
    exact h.serve p _ _ fun f t => .withArg fun (z, ch) => (OnlyCloses.of_touches (releaseChannel_touches t p z ch)).answer
  | tenureLapse z ch => exact h.onlyCloses (.of_touches (takeLapse_touches s z ch))
  | clearConditions p =>
    exact h.serve p _ _ fun f t => .withArg fun (z, cs) => .withRight <| OnlyCloses.answer <|
      .of_touches (F := [.sticky]) (modZone_touches t z fun zn => { zn with sticky := zn.sticky &&& ~~~cs })
  | writeZone p => exact h.serve p _ _ fun f t => .writeZoneRequest t p f
  | writeEnvelope p => exact h.serve p _ _ fun f t => .writeEnvelopeRequest t p f
  | writeObject p => exact h.serve p _ _ fun f t => .writeObjectRequest t p f
  | readObject p => exact h.serve p _ _ fun f t => .withArg fun _ => .withRight (OnlyCloses.refl t).answer
  | readZone p => exact h.serve p _ _ fun f t => .withArg fun (z, _) => .withRight (OnlyCloses.refl t).answer
  | readNode p => exact h.execReadNode p
  | readPort p =>
    exact h.serve p _ _ fun f t => .withArg fun q => (OnlyCloses.of_touches (Current.drawFor_touches t q)).answer
  | readSystem p => exact h.serve p _ _ fun f t => .withArg fun _ => (OnlyCloses.refl t).answer
  | subscribeOn p => exact h.serve p _ _ fun f t => .withArg fun w => (OnlyCloses.of_touches (subscribe_touches t p w)).answer
  | subscribeOff p => exact h.serve p _ _ fun f t => (OnlyCloses.of_touches (unsubscribe_touches t p)).answer
  | drain p => exact h.execDrain p
  | scan p => exact h.execScan p
  | setWatchOn p => exact h.execSetWatchOn p
  | setWatchOff p => exact h.serve p _ _ fun f t => .withSub fun _ => (OnlyCloses.of_touches (setWatch_touches t p none)).answer
  | mark p => exact h.execMark p
  | setAttention p =>
    exact h.serve p _ _ fun f t => .withArg fun (enable, zones, conds, mode) => OnlyCloses.answer <|
      .of_touches (F := [.attn, .settings]) (modPort_touches t p fun pt => pt.setAttention enable zones conds mode)
  | ackAttention p =>
    exact h.serve p _ _ fun f t => .withArg fun bits => OnlyCloses.answer <|
      .of_touches (F := [.attn]) (modPort_touches t p fun pt => { pt with attn := pt.attn &&& ~~~bits })
  | superviseOn p => exact h.execSuperviseOn p
  | superviseOff p => exact h.execSuperviseOff p
  | setClock p => exact h.serve p _ _ fun f t => .asSystem <| .withArg fun time => (OnlyCloses.setClock t time).answer
  | save p => exact h.serve p _ _ fun f t => .asSystem <| .withArg fun _ => (OnlyCloses.of_touches (requestSave_touches t)).answer
  | writeAuthority p => exact h.execWriteAuthority p
  | writeNode p => exact h.execWriteNode p
  | resetDose p =>
    exact h.serve p _ _ fun f t => .asSystem <| .withArg fun (o, dose) =>
      (OnlyCloses.of_touches (resetDose_touches t o dose)).answer
  | setPeriod p => exact h.execSetPeriod p
  | setHold p => exact h.execSetHold p
  | clockSecond => exact h.onlyCloses (.of_touches (tick_touches s))
  | minuteMark => exact h.execMinuteMark
  | fiveMinuteMark => exact h.execFiveMinuteMark
  | storeWriteEnd verified => exact h.onlyCloses (.of_touches (endSection_touches s verified))
  | sensorPollDue addr => exact h.execSensorPollDue addr
  | statusDue addr => exact h.execStatusDue addr
  | actuatorRetry addr => exact h.execActuatorRetry addr
  | loopTransactionStart => exact h.execLoopTransactionStart
  | loopReply bytes => exact h.execLoopReply bytes
  | loopReplyTimeout => exact h.execLoopReplyTimeout

theorem step (h : LinksWellFormed s) : NextHas LinksWellFormed (step s) := by
  unfold Machine.step
  split
  · exact h
  · next rest _ =>
    have hrest : Touches [.pending] s { s with pending := rest } := by
      intro k hk
      cases k <;> first | rfl | simp at hk
    exact (h.onlyCloses (.of_touches hrest)).exec _

end LinksWellFormed

end Sys2Proof.Machine

open Sys2Proof Sys2Proof.Machine

set_option Elab.async false

/-- Settles O59: what is not a LINK, a SET_POINT or a count leaves the open sets or closes them, and each of these three leaves a
well-formed one. -/
theorem stepKeepsLinksWellFormed : Obligations.StepKeepsLinksWellFormed := by
  intro s t hs hstep
  exact hs.step.of_next hstep

end

section
/-! ## LINK, the count and the timeout (R101, R102, R105, R107) -/

namespace Sys2Proof.Machine

open Sys2Proof

set_option Elab.async false

/-! ### Changes of one port that come to the same -/

theorem modPort_congr {s : State} {p : PortId} {f g : Port → Port} (h : f (s.port p) = g (s.port p)) :
    s.modPort p f = s.modPort p g := by
  simp only [State.modPort, h]

theorem modPort_eq_self {s : State} {p : PortId} {f : Port → Port} (h : f (s.port p) = s.port p) : s.modPort p f = s := by
  have hports : s.ports.set p (s.port p) = s.ports := Vector.set_getElem_self p.isLt
  rw [State.modPort, h, hports]

/-! ### LINK -/

section

variable {s : State} {p : PortId} {n : Byte} {f : Frame} {rest : List Frame}

theorem linkOf?_byte_eq_none (h : n.toNat = 0 ∨ 4 < n.toNat) : linkOf? [n] = none := if_neg (by omega)

theorem linkOf?_byte_eq_some (hleast : 1 ≤ n.toNat) (hmost : n.toNat ≤ 4) : linkOf? [n] = some n.toNat := if_pos ⟨hleast, hmost⟩

theorem NextRequest.rowOf_link (h : NextRequest s p 0x02 f rest) : rowOf f = .link := by simp [rowOf, h.2]

theorem NextRequest.exec_link (h : NextRequest s p 0x02 f rest) :
    exec (.link p) s = .next ((s.withTaken p rest).linkRequest p f) := by
  have htake : s.takeFrame p .link = some (f, s.withTaken p rest) := by
    simp only [State.takeFrame, h.1, h.rowOf_link, if_true]
    rfl
  show execLink p s = _
  rw [execLink, htake]

/-- A LINK that is refused names no zone and no channel. -/
theorem NextRequest.refuse_link (h : NextRequest s p 0x02 f rest) (code : Status) :
    (s.withTaken p rest).refuse p f code = s.refusedWith p f rest code none none := by
  rw [refuse_withTaken]
  simp only [namedBy, h.rowOf_link]

theorem refusedWith_link (code : Status) (zone : Option ZoneId) (ch : Option ChanKind) :
    ((s.refusedWith p f rest code zone ch).port p).link = (s.port p).link := by
  rw [State.refusedWith, State.port_modPort_self]

theorem countRequest_of_none (h : (s.port p).link = none) : s.countRequest p = s := by
  simp only [State.countRequest, h]

/-- R101: a count out of range moves the expiry of the open set, if there is one, and is counted. -/
theorem linkRequest_badArg (h : NextRequest s p 0x02 f rest) (hf : linkOf? f.payload = none) :
    (s.withTaken p rest).linkRequest p f =
      ((s.refusedWith p f rest .badArg none none).modPort p fun pt =>
        { pt with link := pt.link.map fun l => { l with expiry := s.crystal + linkSeconds } }).countRequest p := by
  simp only [State.linkRequest, hf, State.linkBadArg, h.refuse_link]
  rfl

theorem linkRequest_standby (h : NextRequest s p 0x02 f rest) {c : Nat} (hf : linkOf? f.payload = some c)
    (hsup : s.supervised = false) : (s.withTaken p rest).linkRequest p f = s.refusedWith p f rest .standby none none := by
  have htaken : (s.withTaken p rest).supervised = false := hsup
  simp only [State.linkRequest, hf, htaken, Bool.not_false, if_true, h.refuse_link]

theorem linkRequest_accepts {c : Nat} (hf : linkOf? f.payload = some c) (hsup : s.supervised = true) :
    (s.withTaken p rest).linkRequest p f = (s.answered p f rest .done []).modPort p fun pt =>
      { pt with link := some (linkAfter pt.link c s.crystal) } := by
  have htaken : (s.withTaken p rest).supervised = true := hsup
  simp only [State.linkRequest, hf, htaken, Bool.not_true, Bool.false_eq_true, if_false]
  simp only [State.answer, State.respond, State.answered, State.withTaken, State.modPort_modPort]
  rfl

theorem answered_link (st : Status) (payload : List Byte) :
    ((s.answered p f rest st payload).port p).link = (s.port p).link := by
  rw [State.answered, State.port_modPort_self]

/-- R101: LINK by its count, the mode and the port's link record. -/
theorem exec_link_outOfRange (h : NextRequest s p 0x02 f rest) (hf : linkOf? f.payload = none) :
    ((s.port p).link = none → exec (.link p) s = .next (s.refusedWith p f rest .badArg none none)) ∧
    (∀ l, (s.port p).link = some l → exec (.link p) s = .next (((s.refusedWith p f rest .badArg none none).modPort p fun pt =>
      { pt with link := some { l with expiry := s.crystal + 2 } }).countRequest p)) := by
  have hkept := refusedWith_link (s := s) (p := p) (f := f) (rest := rest) .badArg none none
  rw [h.exec_link, linkRequest_badArg h hf]
  generalize s.refusedWith p f rest .badArg none none = r at hkept ⊢
  refine ⟨fun hlink => congrArg _ ?_, fun l hlink => congrArg _ (congrArg (State.countRequest · p) (modPort_congr ?_))⟩
  · rw [modPort_eq_self, countRequest_of_none (hkept.trans hlink)]
    rw [hkept.trans hlink, Option.map_none, ← hkept.trans hlink]
  · rw [hkept.trans hlink, Option.map_some]
    rfl

theorem exec_link_inRange (h : NextRequest s p 0x02 f rest) {c : Nat} (hf : linkOf? f.payload = some c) :
    (s.supervised = false → exec (.link p) s = .next (s.refusedWith p f rest .standby none none)) ∧
    (s.supervised = true → (s.port p).link = none →
      exec (.link p) s = .next ((s.answered p f rest .done []).modPort p fun pt =>
        { pt with link := some { remaining := c, zone := none, members := [], expiry := s.crystal + 2 } })) ∧
    (∀ l, s.supervised = true → (s.port p).link = some l →
      exec (.link p) s = .next ((s.answered p f rest .done []).modPort p fun pt =>
        { pt with link := some { l with remaining := c, expiry := s.crystal + 2 } })) := by
  have hkept := answered_link (s := s) (p := p) (f := f) (rest := rest) .done []
  rw [h.exec_link]
  refine ⟨fun hsup => congrArg _ (linkRequest_standby h hf hsup), fun hsup hlink => congrArg _ ?_, fun l hsup hlink => congrArg _ ?_⟩
  all_goals
    refine (linkRequest_accepts hf hsup).trans (modPort_congr ?_)
    rw [hkept, hlink]
    rfl

end

/-! ### The count -/

theorem countRequest_lowers {s : State} {p : PortId} {l : LinkRecord} (h : (s.port p).link = some l) (hmore : 2 ≤ l.remaining) :
    s.countRequest p = s.modPort p fun pt => { pt with link := some { l with remaining := l.remaining - 1 } } := by
  have hnot : ¬ l.remaining ≤ 1 := by omega
  simp only [State.countRequest, h, hnot, if_false]

theorem countRequest_closes {s : State} {p : PortId} {l : LinkRecord} (h : (s.port p).link = some l) (hlast : l.remaining = 1) :
    s.countRequest p = s.closeLink p := by
  simp only [State.countRequest, h, hlast, le_refl, if_true]

/-! ### The timeout -/

theorem exec_linkTimeout_of_not_expired {s : State} {p : PortId} (h : s.linkExpired p = false) :
    exec (.linkTimeout p) s = .next s := by
  show execLinkTimeout p s = _
  rw [execLinkTimeout, h]
  rfl

theorem exec_linkTimeout_expired {s : State} {p : PortId} {l : LinkRecord} (h : (s.port p).link = some l)
    (hexpired : l.expiry ≤ s.crystal) : exec (.linkTimeout p) s = .next (s.breakLink p false) := by
  show execLinkTimeout p s = _
  have : s.linkExpired p = true := by simp only [State.linkExpired, h, decide_eq_true hexpired]
  rw [execLinkTimeout, this]
  rfl

theorem brokenResponse_eq (l : LinkRecord) (m : Member) : brokenResponse l m =
    { tag := m.tag, status := .linkBroken, payload := [finOpt l.zone, chanOpt (l.zone.map fun _ => m.ch), 0x80, 0, 0, 0] } := by
  cases h : l.zone <;> simp only [brokenResponse, refusedResponse, h] <;> rfl

/-- What a set with members leaves when an event that is no SET_POINT breaks it (R107). -/
structure BrokenByEvent (s t : State) (p : PortId) (l : LinkRecord) (m : Member) : Prop where
  closed    : (t.port p).link = none
  responses : (t.port p).tx = (s.port p).tx ++ l.members.map (brokenResponse l)
  refusal   : (t.port p).refusal = some { cmd := setPointCmd, zone := l.zone, ch := some m.ch, code := .linkBroken, time := s.clock }
  refusals  : (t.port p).refusals = raised (s.port p).refusals
  others    : ∀ q, q ≠ p → (t.port q).link = (s.port q).link ∧ (t.port q).tx = (s.port q).tx ∧ (t.port q).refusal = (s.port q).refusal
  touches   : Touches (reporting ++ [.link, .tx, .refusal]) s t

theorem breakLink_brokenByEvent {s : State} {p : PortId} {l : LinkRecord} {m : Member} (h : (s.port p).link = some l)
    (hm : l.members.getLast? = some m) : BrokenByEvent s (s.breakLink p false) p l m := by
  have hlink := fun q => breakLink_link s p q false
  rw [breakLink_lastMember h hm] at hlink ⊢
  have htouches := breakMembers_touches s p l
  have hnoted := noteRefusal_touches_refusal (s.breakMembers p l) p setPointCmd l.zone (some m.ch) .linkBroken
  have hresponds := (breakMembers_responds s p l).trans (.of_touches hnoted)
  rw [List.append_nil] at hresponds
  have hclock : (s.breakMembers p l).clock = s.clock := htouches .clock (by decide)
  refine ⟨(hlink p).trans (if_pos rfl), hresponds.self, ?_, ?_, fun q hq => ⟨(hlink q).trans (if_neg hq), hresponds.other hq, ?_⟩, ?_⟩
  · rw [State.noteRefusal, State.port_modPort_self, hclock]
  · rw [State.noteRefusal, State.port_modPort_self, ← (htouches.portRefusal p).2]
    rfl
  · rw [State.noteRefusal, State.port_modPort_ne _ _ hq]
    exact (htouches.portRefusal q).1
  · exact (htouches.mono (by decide)).then_mono hnoted (by decide)

end Sys2Proof.Machine

open Sys2Proof Sys2Proof.Machine

set_option Elab.async false

/-- Settles O31: LINK by its count, the mode and the link record; the count by what remains; and the timeout, which breaks an open set
from the second of its expiry. -/
theorem linkOpensCountsAndTimesOut : Obligations.LinkOpensCountsAndTimesOut := by
  refine ⟨fun s p n f rest h hf => ⟨fun hout => ?outOfRange, fun hleast hmost => ?inRange⟩, fun s p => ?count, fun s p => ?timeout⟩
  case outOfRange => exact exec_link_outOfRange h (by rw [hf, linkOf?_byte_eq_none hout])
  case inRange => exact exec_link_inRange h (by rw [hf, linkOf?_byte_eq_some hleast hmost])
  case count =>
    exact ⟨countRequest_of_none, fun l hlink hmore => countRequest_lowers hlink hmore,
      fun l hlink hlast hmembers => (countRequest_closes hlink hlast).trans (closeLink_noMembers hlink hmembers),
      fun l hlink hlast => countRequest_closes hlink hlast⟩
  case timeout =>
    refine ⟨fun hlink => exec_linkTimeout_of_not_expired ?_, fun l hlink hearly => exec_linkTimeout_of_not_expired ?_,
      fun l hlink hexpired hmembers => ?_, fun l m hlink hexpired hlast => ?_⟩
    · simp only [State.linkExpired, hlink]
    · simp only [State.linkExpired, hlink, decide_eq_false (not_le.mpr hearly)]
    · rw [exec_linkTimeout_expired hlink hexpired, breakLink_noMembers hlink hmembers]
      rfl
    · obtain ⟨hclosed, hresponses, hrefusal, hrefusals, hothers, htouches⟩ := breakLink_brokenByEvent hlink hlast
      rw [List.map_congr_left fun m _ => brokenResponse_eq l m] at hresponses
      exact ⟨_, exec_linkTimeout_expired hlink hexpired, hclosed, hresponses, hrefusal, hrefusals, hothers, htouches⟩

end

section
/-! ## A SET_POINT taken while a set is open (R102 to R104, R107) -/

namespace Sys2Proof.Machine

open Sys2Proof

set_option Elab.async false

theorem RefusalNoted.then_touches {s t u : State} {p : PortId} {asked : Option (ZoneId × ChanKind)} {code : Status}
    (h : RefusalNoted s t p asked code) {F : List Part} (k : Touches F t u) (hF : Part.refusal ∉ F := by decide) :
    RefusalNoted s u p asked code := by
  have hkept := fun q => k.portRefusal q hF
  refine ⟨(hkept p).1.trans h.refusal, (hkept p).2.trans h.count, fun q hq => ?_⟩
  obtain ⟨hrecord, hcount⟩ := h.others q hq
  exact ⟨(hkept q).1.trans hrecord, (hkept q).2.trans hcount⟩

/-- What follows the taking of a request, and takes none, leaves it taken. -/
theorem Touches.takenOf {F : List Part} {s t : State} {p : PortId} {rest : List Frame} (h : Touches F (s.withTaken p rest) t)
    (hF : ∀ k ∈ [Part.queue, .counters], k ∉ F := by decide) :
    (t.port p).queue = rest ∧ (t.port p).taken = raised (s.port p).taken := by
  have hqueue := congrFun (h .queue (hF _ (by decide))) p
  have hcounters := congrFun (h .counters (hF _ (by decide))) p
  simp only [State.part, Prod.mk.injEq, withTaken_port, if_true] at hqueue hcounters
  exact ⟨hqueue, hcounters.1⟩

theorem HoldsChannel.otherChannels {s t : State} {p : PortId} {z : ZoneId} {ch : ChanKind} (h : HoldsChannel s t p z ch) :
    OtherChannels s t z ch := fun x j hxj => (h x j).trans (if_neg fun ⟨hx, hj⟩ => hxj (by rw [hx, hj]))

/-! ### The request, whatever the link record holds -/

section

variable {s : State} {p : PortId} {f : Frame} {rest : List Frame} {z : ZoneId} {ch : ChanKind} {v : Int}

theorem setPointRequest_fails_breaks (hf : setPointOf? f.payload = some (z, ch, v)) {code : Status}
    (hfailed : firstFailed s p z ch = some code) :
    s.setPointRequest p f = (s.refuseSetPoint p f.tag (some (z, ch)) (some v) code 0).breakLink p true := by
  simp only [State.setPointRequest, hf]
  cases hsup : s.supervised with
  | false =>
    simp only [firstFailed, hsup, if_true, Option.some.injEq] at hfailed
    simp only [Bool.not_false, if_true, hfailed]
  | true =>
    obtain ⟨code', hcode, hstanding⟩ | ⟨t, hnone, -, -⟩ := standing_eq (p := p) (z := z) (ch := ch) hsup
    · cases hcode.symm.trans hfailed
      simp only [hstanding, Bool.not_true, Bool.false_eq_true, if_false]
    · cases hnone.symm.trans hfailed

theorem setPointRequest_passesToCheckFour (hf : setPointOf? f.payload = some (z, ch, v))
    (hpasses : firstFailed s p z ch = none) :
    ∃ u, Stands s u p z ch ∧ s.setPointRequest p f = u.setPointStanding p f.tag z ch v := by
  have hsup : s.supervised = true := by
    cases hsup : s.supervised with
    | true => rfl
    | false => simp [firstFailed, hsup] at hpasses
  obtain ⟨code, hcode, -⟩ | ⟨u, -, hstands, hstanding⟩ := standing_eq (p := p) (z := z) (ch := ch) hsup
  · cases hcode.symm.trans hpasses
  · exact ⟨u, hstands, by simp only [State.setPointRequest, hf, hsup, hstanding, Bool.not_true, Bool.false_eq_true, if_false]⟩

/-! ### The request as the port's next -/

theorem exec_setPoint_misspelt (h : NextRequest s p 0x01 f rest) (hf : Misspelt f) :
    exec (.setPoint p) s =
      .next (((s.withTaken p rest).refuseSetPoint p f.tag none (setPointValue f.payload) .badArg 0).breakLink p true) := by
  rw [h.exec_setPoint, State.setPointRequest, hf.setPointOf?]

theorem exec_setPoint_firstFailed (h : NextRequest s p 0x01 f rest) (hf : f.payload = setPointBytes z ch v) (hv : Sendable v)
    {code : Status} (hfailed : firstFailed s p z ch = some code) :
    exec (.setPoint p) s =
      .next (((s.withTaken p rest).refuseSetPoint p f.tag (some (z, ch)) (some v) code 0).breakLink p true) := by
  rw [h.exec_setPoint, setPointRequest_fails_breaks (by rw [hf, setPointOf?_setPointBytes hv])
    (withTaken_firstFailed.trans hfailed)]

theorem exec_setPoint_standing (h : NextRequest s p 0x01 f rest) (hf : f.payload = setPointBytes z ch v) (hv : Sendable v)
    (hpasses : PassesToCheckFour s p z ch) :
    ∃ u, Stands (s.withTaken p rest) u p z ch ∧ exec (.setPoint p) s = .next (u.setPointStanding p f.tag z ch v) := by
  obtain ⟨u, hstands, hrequest⟩ := setPointRequest_passesToCheckFour (by rw [hf, setPointOf?_setPointBytes hv])
    (withTaken_firstFailed.trans hpasses.firstFailed)
  exact ⟨u, hstands, by rw [h.exec_setPoint, hrequest]⟩

end

/-! ### Check 5 -/

section

variable {l : LinkRecord} {z : ZoneId} {ch : ChanKind}

/-- R103: another zone, or a channel that a member names already. -/
theorem LinkRecord.rejects_iff : l.rejects z ch = true ↔ (∃ z', l.zone = some z' ∧ z' ≠ z) ∨ ∃ m ∈ l.members, m.ch = ch := by
  unfold LinkRecord.rejects LinkRecord.member
  rw [Bool.or_eq_true, List.find?_isSome]
  cases l.zone <;> simp

theorem LinkRecord.rejects_eq_false (hzone : l.zone = none ∨ l.zone = some z) (hmembers : ∀ m ∈ l.members, m.ch ≠ ch) :
    l.rejects z ch = false := by
  refine Bool.eq_false_iff.mpr fun hrejects => ?_
  obtain ⟨z', hz', hne⟩ | ⟨m, hm, hch⟩ := LinkRecord.rejects_iff.mp hrejects
  · obtain hnone | hsome := hzone
    · cases hnone.symm.trans hz'
    · cases hsome.symm.trans hz'
      exact hne rfl
  · exact hmembers m hm hch

variable {u : State} {p : PortId}

theorem setPointStanding_joins (h : (u.port p).link = some l) (hjoins : l.rejects z ch = false) (tag : Byte) (v : Int) :
    u.setPointStanding p tag z ch v = u.holdMember p l z { tag := tag, ch := ch, value := v } := by
  simp only [State.setPointStanding, h, hjoins, Bool.false_eq_true, if_false]

theorem setPointStanding_rejects (h : (u.port p).link = some l) (hrejects : l.rejects z ch = true) (tag : Byte) (v : Int) :
    u.setPointStanding p tag z ch v = (u.refuseSetPoint p tag (some (z, ch)) (some v) .badArg 0).breakLink p true := by
  simp only [State.setPointStanding, h, hrejects, if_true]

end

/-! ### The break -/

/-- A SET_POINT refused in an open set leaves its own refusal, and the set broken behind it (R104, R107). -/
theorem RefusedAlone.breaks {F : List Part} {s t : State} {p : PortId} {l : LinkRecord} {f : Frame} {rest : List Frame}
    {asked : Option (ZoneId × ChanKind)} {v : Option Int} {code : Status} (h : RefusedAlone F s t p f rest asked v code 0)
    (hlink : (s.port p).link = some l) (hF : Part.link ∉ F := by decide) :
    SetPointBreaks s (t.breakLink p true) p l f rest asked (refusalChan asked code) code := by
  obtain ⟨⟨hintake, hnoted⟩, -, htouches⟩ := h
  have hout : Part.link ∉ intake ++ (F ++ reporting ++ [.refusal]) := by simp [hF]
  have hkept : ∀ q, (t.port q).link = (s.port q).link := congrFun (htouches .link hout)
  have hlinks := fun q => breakLink_link t p q true
  rw [breakLink_bySetPoint ((hkept p).trans hlink)] at hlinks ⊢
  have hbroken := breakMembers_touches t p l
  have hresponds := breakMembers_responds t p l
  have hqueue : ∀ q, ((t.breakMembers p l).port q).queue = (t.port q).queue := congrFun (hbroken .queue (by decide))
  have htaken : ((t.breakMembers p l).port p).taken = (t.port p).taken := by
    have hcounters := congrFun (hbroken .counters (by decide)) p
    simp only [State.part, Prod.mk.injEq] at hcounters
    exact hcounters.1
  refine ⟨⟨(hqueue p).trans hintake.queue, htaken.trans hintake.taken⟩, ?_, hnoted.then_touches hbroken,
    (hlinks p).trans (if_pos rfl), fun q hq => ?_⟩
  · rw [hresponds.self, hintake.response, List.append_assoc]
    rfl
  · obtain ⟨hq', htx, -, -, -⟩ := hintake.others q hq
    exact ⟨(hqueue q).trans hq', (hresponds.other hq).trans htx, ((hlinks q).trans (if_neg hq)).trans (hkept q)⟩

/-- The break itself grants nothing and passes no tenure on. -/
theorem breakLink_bySetPoint_touches (s : State) (p : PortId) : Touches (.link :: .tx :: reporting) s (s.breakLink p true) := by
  cases h : (s.port p).link with
  | none =>
    rw [breakLink_of_none h]
    exact .refl _ s
  | some l =>
    rw [breakLink_bySetPoint h]
    exact breakMembers_touches s p l

end Sys2Proof.Machine

open Sys2Proof Sys2Proof.Machine

set_option Elab.async false

/-- Settles O29: the checks of a SET_POINT are those of one alone; past check 4 it joins the set or is rejected by it, and each of its
refusals breaks the set behind it. -/
theorem setPointJoinsOrBreaksAnOpenSet : Obligations.SetPointJoinsOrBreaksAnOpenSet := by
  intro s p l f rest h hlink
  have htaken : ∀ asked v code,
      RefusedAlone [] s ((s.withTaken p rest).refuseSetPoint p f.tag asked v code 0) p f rest asked v code 0 :=
    fun asked v code => refuseSetPoint_refusedAlone (.refl _ _) (.refl [] _) f asked v code 0
  refine ⟨fun hf => ?misspelt, fun z ch v hf hv => ⟨fun hpasses hzone hmembers => ?joins, fun code hcode => ?firstFailed,
    fun hpasses hrejects => ?rejected⟩⟩
  case misspelt =>
    have hrefused := htaken none (setPointValue f.payload) .badArg
    exact ⟨_, exec_setPoint_misspelt h hf, hrefused.breaks hlink,
      (hrefused.touches.mono (by decide)).then_mono (breakLink_bySetPoint_touches _ p) (by decide)⟩
  case firstFailed =>
    have hrefused := htaken (some (z, ch)) (some v) code
    have hbreaks := hrefused.breaks hlink
    rw [refusalChan, if_neg (firstFailed_ne_badArg hcode)] at hbreaks
    exact ⟨_, exec_setPoint_firstFailed h hf hv hcode, hbreaks,
      (hrefused.touches.mono (by decide)).then_mono (breakLink_bySetPoint_touches _ p) (by decide)⟩
  case rejected =>
    obtain ⟨u, hstands, hexec⟩ := exec_setPoint_standing h hf hv hpasses
    have hu : (u.port p).link = some l :=
      (congrFun (hstands.inZone.touches .link (by decide)) p).trans ((withTaken_port_link s p p rest).trans hlink)
    rw [setPointStanding_rejects hu (LinkRecord.rejects_iff.mpr hrejects)] at hexec
    have hrefused := refuseSetPoint_refusedAlone hstands.inZone.touches hstands.raises f (some (z, ch)) (some v) .badArg 0
    have hbroken := breakLink_bySetPoint_touches (u.refuseSetPoint p f.tag (some (z, ch)) (some v) .badArg 0) p
    have hchannels : HoldsChannel s _ p z ch := (hstands.channels.then_touches
      (refuseSetPoint_reported u p f.tag (some (z, ch)) (some v) .badArg 0).touches).then_touches hbroken
    exact ⟨_, hexec, hrefused.breaks hlink, hchannels.holdsNow, hchannels.otherChannels,
      (hrefused.touches.mono (by decide)).then_mono hbroken (by decide)⟩
  case joins =>
    obtain ⟨u, hstands, hexec⟩ := exec_setPoint_standing h hf hv hpasses
    have hu : (u.port p).link = some l :=
      (congrFun (hstands.inZone.touches .link (by decide)) p).trans ((withTaken_port_link s p p rest).trans hlink)
    rw [setPointStanding_joins hu (LinkRecord.rejects_eq_false hzone hmembers)] at hexec
    have hheld : Touches [.link] u (u.modPort p fun pt =>
        { pt with link := some { l with zone := some z, members := l.members ++ [{ tag := f.tag, ch := ch, value := v }] } }) :=
      modPort_touches u p _
    have hchannels : HoldsChannel s _ p z ch := hstands.channels.then_touches hheld
    have hsince := (hstands.inZone.touches.mono (List.subset_append_left _ [Part.link])).then_mono hheld (by decide)
    obtain ⟨hqueue, hcounted⟩ := hsince.takenOf
    exact ⟨_, hexec, by rw [State.port_modPort_self], hqueue, hcounted, hchannels.holdsNow, hchannels.otherChannels,
      ((withTaken_touches s p rest).mono (by decide)).then_mono hsince (by decide)⟩

end

section
/-! ## The close of a set with members (R108 to R110) -/

namespace Sys2Proof.Machine

open Sys2Proof

set_option Elab.async false

/-! ### The order of the close -/

/-- With no channel named twice, the members for a channel are the one that the record finds, if there is one. -/
theorem filter_ch_eq_find? {ms : List Member} (h : (ms.map Member.ch).Nodup) (ch : ChanKind) :
    ms.filter (fun m => m.ch = ch) = (ms.find? fun m => m.ch == ch).toList := by
  induction ms with
  | nil => rfl
  | cons m ms ih =>
    obtain ⟨hm, hms⟩ := List.nodup_cons.mp h
    by_cases hch : m.ch = ch
    · have hothers : ∀ m' ∈ ms, m'.ch ≠ ch := fun m' hm' e => hm (List.mem_map.mpr ⟨m', hm', e.trans hch.symm⟩)
      rw [List.filter_cons_of_pos (by simpa using hch), List.find?_cons_of_pos (by simpa using hch),
        List.filter_eq_nil_iff.mpr (by simpa using hothers)]
      rfl
    · rw [List.filter_cons_of_neg (by simpa using hch), List.find?_cons_of_neg (by simpa using hch)]
      exact ih hms

namespace LinkRecord

variable {l : LinkRecord}

theorem ordered_map {α : Type} (h : l.WellFormed) (f : Member → α) : l.ordered.map f = inCloseOrder l f := by
  obtain ⟨-, -, hnodup, -⟩ := h
  unfold LinkRecord.ordered inCloseOrder
  rw [List.filterMap_eq_flatMap_toList, List.map_flatMap]
  exact congrArg (List.flatMap · closeOrder) (funext fun ch => by rw [filter_ch_eq_find? hnodup]; rfl)

theorem mem_ordered_iff (h : l.WellFormed) {m : Member} : m ∈ l.ordered ↔ m ∈ l.members := by
  have hmem : l.ordered = inCloseOrder l id := by rw [← ordered_map h, List.map_id]
  rw [hmem, inCloseOrder, List.mem_flatMap]
  simp only [List.map_id, List.mem_filter, decide_eq_true_eq]
  refine ⟨fun ⟨_, _, hm, _⟩ => hm, fun hm => ⟨m.ch, ?_, hm, rfl⟩⟩
  cases m.ch <;> decide

theorem ordered_length_le (l : LinkRecord) : l.ordered.length ≤ 4 := List.length_filterMap_le l.member closeOrder

theorem firstCulprit_eq (h : l.WellFormed) (s : State) (p : PortId) (z : ZoneId) :
    firstCulprit s p z l = l.ordered.findSome? fun m => (recheckFailed s p z m.ch).map fun code => (m.ch, code) := by
  rw [firstCulprit, ← ordered_map h, List.findSome?_map]
  rfl

theorem member_isSome_iff {ch : ChanKind} : (l.member ch).isSome = true ↔ ∃ m ∈ l.members, m.ch = ch := by
  simp [LinkRecord.member]

end LinkRecord

/-! ### The re-checks -/

section

variable {s t : State} {p : PortId} {z : ZoneId} {ch : ChanKind}

theorem Touches.may {F : List Part} (h : Touches F s t) (p : PortId) (z : ZoneId) (r : Right)
    (hF : Part.rights ∉ F := by decide) : t.may p z r = s.may p z r := by
  have hrights : (t.port p).rights = (s.port p).rights := congrFun (h .rights hF) p
  rw [State.may, State.may, hrights]

/-- A re-check looks at the binding, the rights, the tenure and CONFLICT (R108). -/
theorem recheckFailed_congr {F : List Part} (h : Touches F s t)
    (htenure : (t.chan z ch).holder ≠ none ∧ (t.chan z ch).holder ≠ some p ↔
      (s.chan z ch).holder ≠ none ∧ (s.chan z ch).holder ≠ some p)
    (hF : ∀ k ∈ [Part.cfg, .rights, .conflict], k ∉ F := by decide) : recheckFailed t p z ch = recheckFailed s p z ch := by
  simp only [recheckFailed, h.zoneCfg z (hF _ (by decide)), h.may p z _ (hF _ (by decide)), h.zoneConflict z (hF _ (by decide)),
    htenure]

/-- The code with which checks 2 to 4 and 6 fail, in that order, and what they leave if they pass. -/
theorem standing_recheck (s : State) (p : PortId) (z : ZoneId) (ch : ChanKind) :
    (∃ t code, recheckFailed s p z ch = some code ∧
      (s.standing p z ch = (t, some code) ∨ s.standing p z ch = (t, none) ∧ t.inConflict z ch = true ∧ code = .conflict)) ∨
    ∃ t, recheckFailed s p z ch = none ∧ Stands s t p z ch ∧ s.standing p z ch = (t, none) ∧ t.inConflict z ch = false := by
  have hchan : (!(s.zone z).cfg.use || ((s.zone z).cfg.act ch).isNone) = true ↔
      (s.zone z).cfg.use = false ∨ (s.zone z).cfg.act ch = none := by simp
  have hmay : (!s.may p z (chanRight ch)) = true ↔ s.may p z (chanRight ch) = false := by simp
  simp only [recheckFailed, State.standing, hchan, hmay]
  by_cases hbad : (s.zone z).cfg.use = false ∨ (s.zone z).cfg.act ch = none
  · exact .inl ⟨s, .noChannel, if_pos hbad, .inl (if_pos hbad)⟩
  by_cases hforbidden : s.may p z (chanRight ch) = false
  · exact .inl ⟨s, .noRight, by rw [if_neg hbad, if_pos hforbidden], .inl (by rw [if_neg hbad, if_pos hforbidden])⟩
  simp only [if_neg hbad, if_neg hforbidden]
  cases htenure : s.tenureCheck p z ch with
  | none => exact .inl ⟨s, .notTenured, if_pos (tenureCheck_eq_none.mp htenure), .inl rfl⟩
  | some t =>
    have hstands := tenureCheck_stands htenure
    have hnotOther : ¬ ((s.chan z ch).holder ≠ none ∧ (s.chan z ch).holder ≠ some p) := fun h => by
      rw [tenureCheck_eq_none.mpr h] at htenure
      cases htenure
    have hconflict : t.inConflict z ch = s.inConflict z ch := by
      rw [State.inConflict, hstands.inZone.touches.zoneConflict z, State.inConflict]
    rw [if_neg hnotOther]
    by_cases hin : isClimate ch = true ∧ (s.zone z).conflict = true
    · exact .inl ⟨t, .conflict, if_pos hin, .inr ⟨rfl, by rw [hconflict, State.inConflict, hin.1, hin.2]; rfl, rfl⟩⟩
    · refine .inr ⟨t, if_neg hin, hstands, rfl, ?_⟩
      rw [hconflict]
      exact inConflict_eq_false fun hclimate => Bool.eq_false_iff.mpr fun hc => hin ⟨hclimate, hc⟩

/-- The first re-check either ends the re-checks, or leaves the port the holder of its channel. -/
theorem recheck_cons (p : PortId) (z : ZoneId) (m : Member) (ms : List Member) (s : State) :
    (∃ t code, recheckFailed s p z m.ch = some code ∧ State.recheck p z (m :: ms) s = (t, some (m.ch, code))) ∨
    ∃ t, recheckFailed s p z m.ch = none ∧ Stands s t p z m.ch ∧ State.recheck p z (m :: ms) s = State.recheck p z ms t := by
  rw [State.recheck]
  obtain ⟨t, code, hfailed, hstanding | ⟨hstanding, hin, rfl⟩⟩ | ⟨t, hpasses, hstands, hstanding, hin⟩ :=
    standing_recheck s p z m.ch
  · exact .inl ⟨t, code, hfailed, by rw [hstanding]⟩
  · exact .inl ⟨t, .conflict, hfailed, by simp only [hstanding, hin, if_true]⟩
  · exact .inr ⟨t, hpasses, hstands, by simp only [hstanding, hin, Bool.false_eq_true, if_false]⟩

theorem recheckFailed_tenure (h : recheckFailed s p z ch = none) : ¬ ((s.chan z ch).holder ≠ none ∧ (s.chan z ch).holder ≠ some p) :=
  fun hother => by
    unfold recheckFailed at h
    simp only [if_pos hother] at h
    repeat' split at h
    all_goals cases h

theorem recheckFailed_bound (h : recheckFailed s p z ch = none) : (s.zone z).cfg.act ch ≠ none := fun hunbound => by
  unfold recheckFailed at h
  rw [if_pos (.inr hunbound)] at h
  cases h

/-- A re-check that passes changes no other member's outcome: it leaves the port the holder of its channel. -/
theorem Stands.recheckFailed_eq (h : Stands s t p z ch) (hpasses : recheckFailed s p z ch = none) (j : ChanKind) :
    recheckFailed t p z j = recheckFailed s p z j := by
  refine recheckFailed_congr h.inZone.touches ?_
  rw [h.channels z j]
  split
  · next e =>
    obtain ⟨-, rfl⟩ := e
    exact iff_of_false (fun ⟨_, hne⟩ => hne rfl) (recheckFailed_tenure hpasses)
  · exact Iff.rfl

/-- The re-checks fail for the first member that fails its own, and otherwise leave the port the holder of every member's channel
(R108). -/
theorem recheck_outcome (p : PortId) (z : ZoneId) (ms : List Member) (s : State) :
    (State.recheck p z ms s).2 = ms.findSome? fun m => (recheckFailed s p z m.ch).map fun code => (m.ch, code) := by
  induction ms generalizing s with
  | nil => rfl
  | cons m ms ih =>
    rw [List.findSome?_cons]
    obtain ⟨t, code, hfailed, hrecheck⟩ | ⟨t, hpasses, hstands, hrecheck⟩ := recheck_cons p z m ms s
    · rw [hrecheck, hfailed]
      rfl
    · simp only [hrecheck, ih, hpasses, hstands.recheckFailed_eq hpasses]
      rfl

theorem recheck_keepsHolder (p : PortId) (z : ZoneId) (ch : ChanKind) (ms : List Member) (s : State)
    (hall : ∀ m ∈ ms, recheckFailed s p z m.ch = none) (h : (s.chan z ch).holder = some p ∨ ∃ m ∈ ms, m.ch = ch) :
    ((State.recheck p z ms s).1.chan z ch).holder = some p := by
  induction ms generalizing s with
  | nil =>
    obtain hheld | ⟨m, hm, -⟩ := h
    · exact hheld
    · cases hm
  | cons m ms ih =>
    obtain ⟨t, code, hfailed, -⟩ | ⟨t, hpasses, hstands, hrecheck⟩ := recheck_cons p z m ms s
    · cases (hall m List.mem_cons_self).symm.trans hfailed
    · rw [hrecheck]
      refine ih t (fun m' hm' => (hstands.recheckFailed_eq hpasses _).trans (hall m' (List.mem_cons_of_mem m hm'))) ?_
      rw [hstands.channels z ch]
      split
      · exact .inl rfl
      · next hother =>
        obtain hheld | ⟨m', hm', rfl⟩ := h
        · exact .inl hheld
        · obtain rfl | hm' := List.mem_cons.mp hm'
          · exact absurd ⟨rfl, rfl⟩ hother
          · exact .inr ⟨m', hm', rfl⟩

end

end Sys2Proof.Machine
end

section
/-! ## A linked set is granted whole or refused whole (R108 to R110) -/

namespace Sys2Proof.Machine

open Sys2Proof

set_option Elab.async false

/-! ### The records of several members -/

theorem Logs.foldl {α : Type} {f : State → α → State} {r : α → Record} {now : GTime} (hclock : ∀ s a, (f s a).clock = s.clock)
    (h : ∀ s a, s.clock = now → Logs s (f s a) [r a]) (l : List α) {s : State} (hs : s.clock = now) :
    Logs s (l.foldl f s) (l.map r) := by
  induction l generalizing s with
  | nil => exact .refl s
  | cons a l ih => exact (h s a hs).trans (ih ((hclock s a).trans hs))

theorem totalSize_map_le {α : Type} {r : α → Record} {n : Nat} (h : ∀ a, recordSize (r a) ≤ n) (l : List α) :
    totalSize (l.map r) ≤ n * l.length := by
  induction l with
  | nil => exact Nat.zero_le _
  | cons a l ih =>
    have ha := h a
    simp only [List.map_cons, totalSize, List.length_cons, Nat.mul_succ]
    omega

/-- A record is at most 21 bytes long, and a set has at most four members. -/
theorem LinkRecord.ordered_totalSize_le (l : LinkRecord) {r : Member → Record} (h : ∀ m, recordSize (r m) ≤ 21) :
    totalSize (l.ordered.map r) ≤ queueCapacity :=
  calc totalSize (l.ordered.map r) ≤ 21 * l.ordered.length := totalSize_map_le h _
    _ ≤ 21 * 4 := Nat.mul_le_mul_left 21 l.ordered_length_le
    _ ≤ queueCapacity := by decide

theorem ReportsAll.widen {s u v t : State} {rs : List Record} (h : ReportsAll u v rs) {B : List AttnBit} (r : Raises B s u)
    {F : List Part} (k : Touches F v t) (hF : Part.records ∉ F := by decide) : ReportsAll s t rs := fun hs => by
  obtain ⟨old, hold⟩ := h (r.anySubscribed.trans hs)
  exact ⟨old, (k .records hF).trans hold⟩

section

variable (s : State) (p : PortId) (z : ZoneId)

theorem reportRefusals_logs (code : Member → Status) (ms : List Member) :
    Logs s (s.reportRefusals p z code ms) (ms.map fun m => .refusal s.clock p (some (z, m.ch)) (some m.value) (code m)) :=
  .foldl (fun t _ => (offer_touches t _) .clock (by decide)) (fun t m ht => by rw [ht]; exact .offer t _) ms rfl

theorem grantMembers_logs (g : Member → Int) (ms : List Member) :
    Logs s (s.grantMembers p z g ms)
      (ms.map fun m => .grant s.clock (some p) z m.ch (some m.value) (g m) (decide (g m ≠ m.value))) :=
  .foldl (fun t _ => (grant_touches t _ z _ _ _ _) .clock (by decide)) (fun t m ht => by rw [← ht]; exact grant_logs t _ z _ _ _ _)
    ms rfl

/-! ### The attention bits -/

theorem answerMembers_raises (r : Member → Response) (ms : List Member) : Raises [] s (s.answerMembers p r ms) :=
  foldl_keeps _ (Raises [] s) (fun t _ ht => ht.trans (respond_raises t p _ _ _)) ms s (.refl [] s)

theorem reportRefusals_raises (code : Member → Status) (ms : List Member) :
    Raises [.watermark, .watchMatch] s (s.reportRefusals p z code ms) :=
  foldl_keeps _ (Raises _ s) (fun t _ ht => ht.trans (offer_raises t _)) ms s (.refl _ s)

theorem grantMembers_raises (g : Member → Int) (ms : List Member) :
    Raises [.watermark, .watchMatch] s (s.grantMembers p z g ms) :=
  foldl_keeps _ (Raises _ s) (fun t _ ht => ht.trans (grant_raises t _ z _ _ _ _)) ms s (.refl _ s)

/-! ### The channels -/

theorem grantMembers_chan_ne (g : Member → Int) (ms : List Member) {x : ZoneId} {j : ChanKind}
    (h : x ≠ z ∨ ∀ m ∈ ms, m.ch ≠ j) : (s.grantMembers p z g ms).chan x j = s.chan x j := by
  obtain hx | hj := h
  · have hzone := (grantMembers_inZone s p z g ms).others x hx
    rw [State.chan, hzone, State.chan]
  · induction ms generalizing s with
    | nil => rfl
    | cons m ms ih =>
      obtain ⟨hm, hms⟩ := List.forall_mem_cons.mp hj
      exact (ih _ hms).trans (grant_chan_ne _ _ _ _ _ _ _ x hm.symm)

/-- Each member's channel has the member's value, if no other member names the channel (R110). -/
theorem grantMembers_chan (g : Member → Int) (ms : List Member) (hbound : ∀ m ∈ ms, (s.zone z).cfg.act m.ch ≠ none)
    (hown : ∀ m ∈ ms, ∀ m' ∈ ms, m'.ch = m.ch → m' = m) {m : Member} (hm : m ∈ ms) :
    ((s.grantMembers p z g ms).chan z m.ch).granted = some (g m) ∧
      ((s.grantMembers p z g ms).chan z m.ch).pending = some (g m) := by
  induction ms using List.reverseRecOn with
  | nil => cases hm
  | append_singleton ms m' ih =>
    have hlast : s.grantMembers p z g (ms ++ [m']) =
        (s.grantMembers p z g ms).grant (some p) z m'.ch (some m'.value) (g m') (decide (g m' ≠ m'.value)) := by
      simp only [State.grantMembers, List.foldl_append, List.foldl_cons, List.foldl_nil]
    have hm' : m' ∈ ms ++ [m'] := List.mem_append_right ms List.mem_cons_self
    rw [hlast]
    by_cases hch : m.ch = m'.ch
    · obtain rfl := hown m' hm' m hm hch
      have hcfg := (grantMembers_inZone s p z g ms).touches.zoneCfg z
      exact ⟨grant_granted .., grant_pending _ _ _ _ _ _ _ (by rw [hcfg]; exact hbound m hm)⟩
    · rw [grant_chan_ne _ _ _ _ _ _ _ z hch]
      have hin : m ∈ ms := (List.mem_append.mp hm).resolve_right fun h => hch (by rw [List.mem_singleton.mp h])
      exact ih (fun a ha => hbound a (List.mem_append_left _ ha))
        (fun a ha b hb => hown a (List.mem_append_left _ ha) b (List.mem_append_left _ hb)) hin

end

/-! ### Up to the grants and refusals -/

/-- What a close leaves once it has been decided: the re-checks made and the conditions `conds` recorded. -/
structure Weighed (s u : State) (z : ZoneId) (conds : CondSet) : Prop where
  inZone : InZone z ([.tenure, .activity, .cause, .sticky] ++ reporting) s u
  raises : Raises [.tenureGained, .watermark, .watchMatch, .zoneCondition] s u
  sets   : CloseRaises s u z conds

/-- The state in which a close makes its re-checks: the cause set is empty (R89). -/
abbrev State.closing (s : State) (z : ZoneId) : State := s.modZone z fun zn => { zn with cause := 0 }

section

variable {s t u : State} {p : PortId} {z : ZoneId} {conds : CondSet}

theorem condSet_or_zero (c : CondSet) : c ||| 0 = c := BitVec.or_zero

theorem Touches.chanPending {F : List Part} (h : Touches F s t) (z : ZoneId) (ch : ChanKind)
    (hF : Part.delivery ∉ F := by decide) : (t.chan z ch).pending = (s.chan z ch).pending := by
  have hdelivery := congrFun (congrFun (h .delivery hF) z) ch
  simp only [State.part, Prod.mk.injEq] at hdelivery
  exact hdelivery.1

theorem closing_touches (s : State) (z : ZoneId) : Touches [.cause] s (s.closing z) := modZone_touches s z _

theorem closing_checked (h : Checked z (s.closing z) u) : Weighed s u z 0 where
  inZone := (InZone.of_modZone ((closing_touches s z).mono (by decide))).then_mono h.inZone (by decide)
  raises := (Raises.of_ports _ rfl).then_mono h.raises (by decide)
  sets :=
    { cause := by rw [h.inZone.touches.zoneCause z, State.zone_modZone_self]
      sticky := by rw [h.inZone.touches.zoneSticky z, (closing_touches s z).zoneSticky z, condSet_or_zero]
      report := .of_same ((h.inZone.touches.zoneSticky z).trans ((closing_touches s z).zoneSticky z)) fun q =>
        (h.raises q).others _ (by decide) }

theorem Weighed.evaluated (h : Weighed s u z 0) (conds : CondSet) : Weighed s (u.recordEvaluation z conds) z conds where
  inZone := h.inZone.then_mono (recordEvaluation_inZone u z conds) (by decide)
  raises := h.raises.then_mono (recordEvaluation_raises u z conds) (by decide)
  sets :=
    { cause := (recordEvaluation_sets u z conds).1
      sticky := by rw [(recordEvaluation_sets u z conds).2, h.sets.sticky, condSet_or_zero]
      report := h.sets.report.trans h.inZone.touches (recordEvaluation_stickyReported u z conds) }

/-- What follows raises no condition. -/
theorem Weighed.raisedAfter (h : Weighed s u z conds) {F : List Part} {B : List AttnBit} (k : Touches F u t) (r : Raises B u t)
    (hF : ∀ k ∈ [Part.cause, .sticky], k ∉ F := by decide) (hB : AttnBit.zoneCondition ∉ B := by decide) :
    CloseRaises s t z conds where
  cause := (k.zoneCause z (hF _ (by decide))).trans h.sets.cause
  sticky := (k.zoneSticky z (hF _ (by decide))).trans h.sets.sticky
  report := h.sets.report.trans h.inZone.touches (.of_same (k.zoneSticky z (hF _ (by decide))) fun q => (r q).others _ hB)

theorem Weighed.clock (h : Weighed s u z conds) : u.clock = s.clock := h.inZone.touches .clock (by decide)

theorem dropLink_raises (s : State) (p : PortId) : Raises [] s (s.dropLink p) := modPort_raises s p _ ⟨fun _ _ => rfl, rfl⟩

/-! ### A set refused whole -/

theorem refuseLinked_raises (u : State) (p : PortId) (z : ZoneId) (l : LinkRecord) (culprit : ChanKind) (code : Status)
    (conds : CondSet) : Raises [.watermark, .watchMatch] u (u.refuseLinked p z l culprit code conds) := by
  rw [refuseLinked_eq]
  exact ((reportRefusals_raises u p z _ l.ordered).then_mono (noteRefusal_raises (B := []) _ p _ _ _ _) (by decide)).then_mono
    (answerMembers_raises _ p _ l.members) (by decide)

theorem Weighed.refused (h : Weighed s u z conds) {l : LinkRecord} (hl : l.WellFormed) {culprit : ChanKind} {code : Status}
    (hculprit : ∃ m ∈ l.members, m.ch = culprit) :
    SetRefused s ((u.refuseLinked p z l culprit code conds).dropLink p) p z l culprit code conds ∧
      CloseRaises s ((u.refuseLinked p z l culprit code conds).dropLink p) z conds := by
  have hdropped := dropLink_touches (u.refuseLinked p z l culprit code conds) p
  have hrefused := (refuseLinked_effects u p z l culprit code conds).mono (List.subset_cons_self Part.link _) |>.then_mono hdropped
    (by decide)
  have hraises := (refuseLinked_raises u p z l culprit code conds).then_mono (dropLink_raises _ p) (by decide)
  refine ⟨?_, h.raisedAfter hrefused hraises⟩
  have hbefore := h.inZone.touches.then_mono (reportRefusals_signalled u p z (memberCode culprit code) l.ordered).touches (by decide)
  have hlogs := reportRefusals_logs u p z (memberCode culprit code) l.ordered
  rw [h.clock, LinkRecord.ordered_map hl] at hlogs
  have hrecords := hlogs.reportsAll
    (by rw [← LinkRecord.ordered_map hl]; exact l.ordered_totalSize_le fun _ => (by decide : 12 ≤ 21))
  rw [refuseLinked_eq] at hdropped ⊢
  generalize u.reportRefusals p z (memberCode culprit code) l.ordered = v at *
  have hnoted := RefusalNoted.of_noteRefusal hbefore p (some (z, culprit)) code
  have hnote := noteRefusal_touches_refusal v p setPointCmd (some z) (some culprit) code
  have hanswer := answerMembers_touches (v.noteRefusal p setPointCmd (some z) (some culprit) code) p
    (refusedMember z culprit code conds) l.members
  have hafter : Touches [.refusal, .tx, .link] v _ :=
    ((hnote.mono (by decide)).then_mono hanswer (by decide)).then_mono hdropped (by decide)
  have hall := (hbefore.mono (List.subset_append_left _ [Part.refusal, .tx, .link])).then_mono hafter (by decide)
  have hresponds := ((((Responds.of_touches hbefore).trans (.of_touches hnote)).trans
    (answerMembers_responds _ p (refusedMember z culprit code conds) l.members)).trans (.of_touches hdropped)).self
  exact
    { member := hculprit
      responses := by
        rw [hresponds]
        simp only [List.nil_append, List.append_nil]
        rfl
      noted := (hnoted.then_touches hanswer).then_touches hdropped
      others := fun x j => ⟨hall.chanGranted x j, hall.chanPending x j⟩
      records := hrecords.widen h.raises hafter }

/-! ### A set granted whole -/

theorem Touches.chanHolder {F : List Part} (h : Touches F s t) (z : ZoneId) (ch : ChanKind)
    (hF : Part.tenure ∉ F := by decide) : (t.chan z ch).holder = (s.chan z ch).holder := by
  have htenure := congrFun (congrFun (h .tenure hF) z) ch
  simp only [State.part, Prod.mk.injEq] at htenure
  exact htenure.1

theorem LinkRecord.ordered_own (l : LinkRecord) : ∀ m ∈ l.ordered, ∀ m' ∈ l.ordered, m'.ch = m.ch → m' = m := fun m hm m' hm' hch => by
  have h := mem_ordered hm'
  rw [hch, mem_ordered hm] at h
  exact (Option.some.inj h).symm

theorem Weighed.granted (h : Weighed s u z conds) {l : LinkRecord} (hl : l.WellFormed) (g : Member → Int)
    (hheld : ∀ m ∈ l.ordered, (u.chan z m.ch).holder = some p) (hbound : ∀ m ∈ l.ordered, (s.zone z).cfg.act m.ch ≠ none) :
    SetGranted s (((u.grantMembers p z g l.ordered).answerMembers p (grantedMember z g conds) l.members).dropLink p) p z l g conds ∧
      CloseRaises s (((u.grantMembers p z g l.ordered).answerMembers p (grantedMember z g conds) l.members).dropLink p) z conds := by
  have hgranted := (grantMembers_inZone u p z g l.ordered).touches
  have hraises := grantMembers_raises u p z g l.ordered
  have hlogs := grantMembers_logs u p z g l.ordered
  rw [h.clock, LinkRecord.ordered_map hl] at hlogs
  have hrecords := hlogs.reportsAll
    (by rw [← LinkRecord.ordered_map hl]; exact l.ordered_totalSize_le fun _ => (by decide : 14 ≤ 21))
  have hcfg := h.inZone.touches.zoneCfg z
  have hmembers := fun m (hm : m ∈ l.ordered) =>
    grantMembers_chan u p z g l.ordered (fun m hm => by rw [hcfg]; exact hbound m hm) l.ordered_own hm
  have hothers := fun x j hxj => congrArg Channel.granted (grantMembers_chan_ne u p z g l.ordered (x := x) (j := j) hxj)
  generalize u.grantMembers p z g l.ordered = v at *
  have hanswer := answerMembers_touches v p (grantedMember z g conds) l.members
  have hresponds := answerMembers_responds v p (grantedMember z g conds) l.members
  have hanswered := answerMembers_raises v p (grantedMember z g conds) l.members
  generalize v.answerMembers p (grantedMember z g conds) l.members = w at *
  have hdropped := dropLink_touches w p
  have hafter : Touches [.tx, .link] v (w.dropLink p) := (hanswer.mono (by decide)).then_mono hdropped (by decide)
  have hend := (hgranted.mono (List.subset_append_left _ [Part.tx, .link])).then_mono hafter (by decide)
  refine ⟨?_, h.raisedAfter hend (hraises.then_mono (hanswered.trans (dropLink_raises w p)) (by decide))⟩
  have hline := ((((Responds.of_touches h.inZone.touches).trans (.of_touches hgranted)).trans hresponds).trans
    (.of_touches hdropped)).self
  refine
    { responses := by
        rw [hline]
        simp only [List.nil_append, List.append_nil]
        rfl
      members := fun m hm => ?_
      others := fun x j hxj => ?_
      records := hrecords.widen h.raises hafter }
  · have hm := (LinkRecord.mem_ordered_iff hl).mpr hm
    obtain ⟨hvalue, hpending⟩ := hmembers m hm
    exact ⟨(hafter.chanGranted z m.ch).trans hvalue, (hafter.chanPending z m.ch).trans hpending,
      (hend.chanHolder z m.ch).trans (hheld m hm)⟩
  · have hkept := hothers x j (hxj.imp_right fun hj m hm => hj m ((LinkRecord.mem_ordered_iff hl).mp hm))
    exact (hafter.chanGranted x j).trans (hkept.trans (h.inZone.touches.chanGranted x j))

/-! ### The close by the outcome of its re-checks and its evaluation -/

theorem recheckFailed_closing (s : State) (p : PortId) (z : ZoneId) (ch : ChanKind) :
    recheckFailed (s.closing z) p z ch = recheckFailed s p z ch :=
  recheckFailed_congr (closing_touches s z) (by rw [(closing_touches s z).chan z ch])

theorem firstCulprit_eq_none {l : LinkRecord} (hl : l.WellFormed) (h : firstCulprit s p z l = none) :
    ∀ m ∈ l.ordered, recheckFailed s p z m.ch = none := fun m hm => by
  rw [LinkRecord.firstCulprit_eq hl, List.findSome?_eq_none_iff] at h
  exact Option.map_eq_none_iff.mp (h m hm)

theorem firstCulprit_closing {l : LinkRecord} (hl : l.WellFormed) (s : State) (p : PortId) (z : ZoneId) :
    (State.recheck p z l.ordered (s.closing z)).2 = firstCulprit s p z l := by
  simp only [recheck_outcome, LinkRecord.firstCulprit_eq hl, recheckFailed_closing]

theorem closeMembers_fails {l : LinkRecord} {culprit : ChanKind} {code : Status}
    (h : (State.recheck p z l.ordered (s.closing z)).2 = some (culprit, code)) :
    s.closeMembers p z l = (State.recheck p z l.ordered (s.closing z)).1.refuseLinked p z l culprit code 0 := by
  unfold State.closeMembers
  generalize State.recheck p z l.ordered (s.closing z) = r at h ⊢
  obtain ⟨t, failed⟩ := r
  cases h
  rfl

theorem closeMembers_passes {l : LinkRecord} (hl : l.WellFormed) (hnone : firstCulprit s p z l = none) :
    ∃ u, Weighed s u z 0 ∧ (∀ m ∈ l.ordered, (u.chan z m.ch).holder = some p) ∧
      s.closeMembers p z l =
        if (s.evaluate z l.values).pass then
          (u.recordEvaluation z (s.evaluate z l.values).conds).grantLinked p z l (s.evaluate z l.values)
        else (u.recordEvaluation z (s.evaluate z l.values).conds).refuseLinked p z l l.rhCulprit .rhPredict
          (s.evaluate z l.values).conds := by
  have hweighed := closing_checked (recheck_checked p z l.ordered (s.closing z))
  have heval := hweighed.inZone.touches.evaluate z l.values
  have hpasses : ∀ m ∈ l.ordered, recheckFailed (s.closing z) p z m.ch = none := fun m hm =>
    (recheckFailed_closing s p z m.ch).trans (firstCulprit_eq_none hl hnone m hm)
  have h := (firstCulprit_closing hl s p z).trans hnone
  refine ⟨_, hweighed, fun m hm => recheck_keepsHolder p z m.ch l.ordered _ hpasses (.inr ⟨m, hm, rfl⟩), ?_⟩
  unfold State.closeMembers
  generalize State.recheck p z l.ordered (s.closing z) = r at h heval ⊢
  obtain ⟨t, failed⟩ := r
  cases h
  simp only at heval
  simp only [heval]

theorem rhCulprit_named {l : LinkRecord} (h : (s.evaluate z l.values).pass = false) : ∃ m ∈ l.members, m.ch = l.rhCulprit := by
  rw [← LinkRecord.member_isSome_iff, LinkRecord.rhCulprit]
  split
  · assumption
  · next hmoist =>
    by_contra hheat
    have hnone : l.member .moist = none ∧ l.member .heat = none := by simpa using And.intro hmoist hheat
    rw [evaluate_pass] at h
    simp [State.climatePart, Setpoints.ranged, LinkRecord.values, hnone] at h

end

end Sys2Proof.Machine

open Sys2Proof Sys2Proof.Machine

set_option Elab.async false

/-- Settles O30: the re-checks end with the first culprit or leave the port the holder of every member's channel; then the evaluation
of all members decides. -/
theorem linkedSetIsAllOrNothing : Obligations.LinkedSetIsAllOrNothing := by
  intro s p l z hlink hl hz hmembers t e
  have ht : t = (s.closeMembers p z l).dropLink p := closeLink_members hlink hz hmembers
  refine ⟨(closeLink_link s p p).trans (if_pos rfl), fun culprit code hculprit => ?culprit, fun hnone hpass => ?granted,
    fun hnone hpass => ?rhPredict, ?touches⟩
  case culprit =>
    rw [ht, closeMembers_fails ((firstCulprit_closing hl s p z).trans hculprit)]
    refine (closing_checked (recheck_checked p z l.ordered (s.closing z))).refused hl ?_
    rw [LinkRecord.firstCulprit_eq hl] at hculprit
    obtain ⟨m, hm, hcode⟩ := List.exists_of_findSome?_eq_some hculprit
    obtain ⟨code, -, hnamed⟩ := Option.map_eq_some_iff.mp hcode
    exact ⟨m, (LinkRecord.mem_ordered_iff hl).mp hm, congrArg Prod.fst hnamed⟩
  case granted =>
    obtain ⟨u, hweighed, hheld, hclose⟩ := closeMembers_passes hl hnone
    rw [hpass, if_pos rfl, grantLinked_eq] at hclose
    rw [ht, hclose]
    refine ⟨fun m hm => ?_, (hweighed.evaluated _).granted hl _ (fun m hm => ?_) fun m hm =>
      recheckFailed_bound (firstCulprit_eq_none hl hnone m hm)⟩
    · rw [evaluate_get_isSome hpass, values_get, Option.isSome_map]
      exact LinkRecord.member_isSome_iff.mpr ⟨m, hm, rfl⟩
    · exact ((recordEvaluation_inZone u z _).touches.chanHolder z m.ch).trans (hheld m hm)
  case rhPredict =>
    obtain ⟨u, hweighed, -, hclose⟩ := closeMembers_passes hl hnone
    have hculprit : (if ∃ m ∈ l.members, m.ch = .moist then ChanKind.moist else .heat) = l.rhCulprit := by
      simp only [LinkRecord.rhCulprit, LinkRecord.member_isSome_iff]
    rw [hpass, if_neg Bool.false_ne_true] at hclose
    rw [ht, hclose, hculprit]
    exact (hweighed.evaluated _).refused hl (rhCulprit_named hpass)
  case touches =>
    rw [ht]
    exact ((closeMembers_effects s p z l).mono (by decide)).then_mono (dropLink_touches _ p) (by decide)

end

section
/-! ## What the tenure arbiter's operations leave (R114, R118, R120, R122, R123)

A change of one channel's tenure is described by four things: the parts it touches, the channel as it then stands beside the others
as they stood, the records it appends, and the attention bits, of which none is taken away. -/

namespace Sys2Proof.Machine

open Sys2Proof

set_option Elab.async false

/-! ### Attention bits that stay -/

/-- No pending attention bit is taken away. -/
def KeepsAttention (s t : State) : Prop := ∀ q b, hasAttn (s.port q).attn b = true → hasAttn (t.port q).attn b = true

namespace KeepsAttention

variable {s t u : State}

theorem refl (s : State) : KeepsAttention s s := fun _ _ h => h

theorem trans (h : KeepsAttention s t) (k : KeepsAttention t u) : KeepsAttention s u := fun q b hb => k q b (h q b hb)

theorem of_touches {F : List Part} (h : Touches F s t) (hF : Part.attn ∉ F := by decide) : KeepsAttention s t := fun q b hb =>
  (h.attention q b hF).trans hb

end KeepsAttention

theorem hasAttn_raise_of_hasAttn {pt : Port} {k : AttnBit} (h : hasAttn pt.attn k = true) (b : AttnBit) :
    hasAttn (pt.raise b).attn k = true := by rw [hasAttn_raise, h, Bool.true_or]

theorem hasAttn_testAppended {pt : Port} {k : AttnBit} (h : hasAttn pt.attn k = true) (before : List Record) (r : Record) :
    hasAttn (pt.testAppended before r).attn k = true := by
  unfold Port.testAppended
  split
  · exact h
  · next sub _ =>
    have hwatched : hasAttn (match sub.watch with
        | some sel => if matchesSel sel r then pt.raise .watchMatch else pt
        | none => pt).attn k = true := by
      split
      · split
        · exact hasAttn_raise_of_hasAttn h _
        · exact h
      · exact h
    dsimp only
    split
    · exact hasAttn_raise_of_hasAttn hwatched _
    · exact hwatched

theorem offer_keepsAttention (s : State) (r : Record) : KeepsAttention s (s.offer r) := by
  unfold State.offer
  split
  · have hroom : KeepsAttention s (s.makeRoom (recordSize r)) := fun q b hb =>
      ((makeRoom_raises s _ q).others b List.not_mem_nil).trans hb
    refine hroom.trans fun q b hb => ?_
    unfold State.append
    rw [port_forPorts (g := fun _ => Port.testAppended _ r) fun p s q => State.port_modPort s p q _]
    exact hasAttn_testAppended hb _ r
  · exact .refl s

theorem pend_keepsAttention (s : State) (p : PortId) (b : AttnBit) : KeepsAttention s (s.pend p b) := fun q k hk => by
  rw [State.pend, State.port_modPort]
  split
  · next hq => exact hasAttn_raise_of_hasAttn (hq ▸ hk) b
  · exact hk

theorem hasAttn_pend (s : State) (p : PortId) (b : AttnBit) : hasAttn ((s.pend p b).port p).attn b = true := by
  rw [State.pend, State.port_modPort_self, hasAttn_raise, decide_eq_true rfl, Bool.or_true]

/-! ### A change of one channel's tenure -/

/-- The channel of zone `z` and kind `ch` becomes `c`, in its holder, waiters and last activity, and the records `new` are appended. -/
structure TenureStep (z : ZoneId) (ch : ChanKind) (c : Channel) (new : List Record) (s t : State) : Prop where
  touches   : Touches ([.tenure, .activity] ++ reporting) s t
  channels  : ∀ x j, t.chan x j = if x = z ∧ j = ch then c else s.chan x j
  logs      : Logs s t new
  attention : KeepsAttention s t

namespace TenureStep

variable {z : ZoneId} {ch : ChanKind} {c d : Channel} {new more : List Record} {s t u : State}

theorem refl (z : ZoneId) (ch : ChanKind) (s : State) : TenureStep z ch (s.chan z ch) [] s s where
  touches := .refl _ s
  channels x j := by
    split
    · next h => rw [h.1, h.2]
    · rfl
  logs := .refl s
  attention := .refl s

theorem trans (h : TenureStep z ch c new s t) (k : TenureStep z ch d more t u) : TenureStep z ch d (new ++ more) s u where
  touches := h.touches.trans k.touches
  channels x j := by
    rw [k.channels x j]
    split
    · rfl
    · next hne => rw [h.channels x j, if_neg hne]
  logs := h.logs.trans k.logs
  attention := h.attention.trans k.attention

theorem chan (h : TenureStep z ch c new s t) : t.chan z ch = c := (h.channels z ch).trans (if_pos ⟨rfl, rfl⟩)

theorem clock (h : TenureStep z ch c new s t) : t.clock = s.clock := h.touches .clock (by decide)

theorem otherChannels (h : TenureStep z ch c new s t) : OtherChannels s t z ch := fun x j hne =>
  (h.channels x j).trans (if_neg fun ⟨hx, hj⟩ => hne (by rw [hx, hj]))

/-- The channel's holder, waiters and last activity are written. -/
theorem of_modChan (s : State) (z : ZoneId) (ch : ChanKind) (f : Channel → Channel)
    (h : Touches [.tenure, .activity] s (s.modChan z ch f)) : TenureStep z ch (f (s.chan z ch)) [] s (s.modChan z ch f) where
  touches := h.mono (by decide)
  channels x j := State.chan_modChan s z x ch j f
  logs := .of_same rfl rfl
  attention := .of_touches h

/-- Reports follow the change. -/
theorem then_signalled (h : TenureStep z ch c new s t) (k : Signalled t u) (hlogs : Logs t u more) (hattn : KeepsAttention t u) :
    TenureStep z ch c (new ++ more) s u where
  touches := h.touches.then_mono k.touches (by decide)
  channels x j := (k.touches.chan x j).trans (h.channels x j)
  logs := h.logs.trans hlogs
  attention := h.attention.trans hattn

theorem then_pend (h : TenureStep z ch c new s t) (p : PortId) (b : AttnBit) : TenureStep z ch c new s (t.pend p b) := by
  have hlogs : Logs t (t.pend p b) [] := .of_same (pend_raises t p b).anySubscribed rfl
  have hpended := h.then_signalled (pend_signalled t p b) hlogs (pend_keepsAttention t p b)
  rwa [List.append_nil] at hpended

end TenureStep

/-! ### The changes -/

/-- A channel whose holder is `h` from `now` on (R123). -/
def Channel.passed (c : Channel) (now : GTime) (h : Option PortId) : Channel :=
  { c with holder := h, lastActivity := if h.isSome then now else c.lastActivity }

/-- The TENURE record of a change of holder (R123). -/
def State.tenureRecord (s : State) (z : ZoneId) (ch : ChanKind) (after : Option PortId) (reason : TenureReason) : Record :=
  .tenure s.clock z ch (s.chan z ch).holder after reason

section

variable (s : State) (z : ZoneId) (ch : ChanKind)

theorem modWaiters_step (f : List PortId → List PortId) :
    TenureStep z ch { s.chan z ch with waiters := f (s.chan z ch).waiters } [] s
      (s.modChan z ch fun c => { c with waiters := f c.waiters }) :=
  .of_modChan s z ch (fun c => { c with waiters := f c.waiters }) (modChan_touches s z ch _)

/-- A change of holder with its record, before the attention bits (R123 steps 1 to 3). -/
def State.recordHolder (h : Option PortId) (reason : TenureReason) : State :=
  (s.modChan z ch fun c => c.passed s.clock h).offer (s.tenureRecord z ch h reason)

/-- The attention bit of a port that gains the channel (R123 step 4). -/
def State.pendGained (h : Option PortId) : State :=
  match h with
  | some p => s.pend p .tenureGained
  | none => s

/-- The attention bit of a port that loses the channel unasked (R123 step 4). -/
def State.pendLost (before : Option PortId) (reason : TenureReason) : State :=
  match before with
  | some q => if losesTenure reason then s.pend q .tenureLost else s
  | none => s

theorem changeHolder_eq (h : Option PortId) (reason : TenureReason) :
    s.changeHolder z ch h reason = ((s.recordHolder z ch h reason).pendGained h).pendLost (s.chan z ch).holder reason := rfl

theorem recordHolder_step (h : Option PortId) (reason : TenureReason) :
    TenureStep z ch ((s.chan z ch).passed s.clock h) [s.tenureRecord z ch h reason] s (s.recordHolder z ch h reason) :=
  (TenureStep.of_modChan s z ch (fun c => c.passed s.clock h) (modChan_touches s z ch _)).then_signalled (offer_signalled _ _)
    (.offer _ _) (offer_keepsAttention _ _)

theorem pendLost_keepsAttention (before : Option PortId) (reason : TenureReason) :
    KeepsAttention s (s.pendLost before reason) := by
  unfold State.pendLost
  split
  · split
    · exact pend_keepsAttention s _ _
    · exact .refl s
  · exact .refl s

theorem changeHolder_step (h : Option PortId) (reason : TenureReason) :
    TenureStep z ch ((s.chan z ch).passed s.clock h) [s.tenureRecord z ch h reason] s (s.changeHolder z ch h reason) := by
  have hrecorded := recordHolder_step s z ch h reason
  have hgained : TenureStep z ch ((s.chan z ch).passed s.clock h) [s.tenureRecord z ch h reason] s
      ((s.recordHolder z ch h reason).pendGained h) := by
    unfold State.pendGained
    split
    · exact hrecorded.then_pend _ _
    · exact hrecorded
  rw [changeHolder_eq]
  unfold State.pendLost
  split
  · split
    · exact hgained.then_pend _ _
    · exact hgained
  · exact hgained

/-- R123 step 4: the new holder's TENURE_GAINED. -/
theorem changeHolder_gained (p : PortId) (reason : TenureReason) :
    hasAttn ((s.changeHolder z ch (some p) reason).port p).attn .tenureGained = true :=
  pendLost_keepsAttention _ _ _ p _ (hasAttn_pend _ p _)

/-- R123 step 4: the TENURE_LOST of a port that did not ask. -/
theorem changeHolder_lost {q : PortId} (hq : (s.chan z ch).holder = some q) (h : Option PortId) {reason : TenureReason}
    (hloses : losesTenure reason = true) :
    hasAttn ((s.changeHolder z ch h reason).port q).attn .tenureLost = true := by
  simp only [changeHolder_eq, State.pendLost, hq, hloses, if_true]
  exact hasAttn_pend _ q _

/-! ### The channel passed on -/

/-- A channel passed to its first waiter, who leaves the list, or freed (R118). -/
def Channel.passedOn (c : Channel) (now : GTime) : Channel :=
  { c with
      holder := c.waiters.head?
      waiters := c.waiters.tail
      lastActivity := if c.waiters = [] then c.lastActivity else now }

theorem passOn_waited {w : PortId} {ws : List PortId} (h : (s.chan z ch).waiters = w :: ws) (reason : TenureReason) :
    s.passOn z ch reason = (s.modChan z ch fun c => { c with waiters := ws }).changeHolder z ch (some w) reason := by
  simp only [State.passOn, h]

theorem passOn_unwaited (h : (s.chan z ch).waiters = []) (reason : TenureReason) :
    s.passOn z ch reason = s.changeHolder z ch none reason := by simp only [State.passOn, h]

theorem passOn_step (reason : TenureReason) :
    TenureStep z ch ((s.chan z ch).passedOn s.clock) [s.tenureRecord z ch (s.chan z ch).waiters.head? reason] s
      (s.passOn z ch reason) := by
  cases h : (s.chan z ch).waiters with
  | nil =>
    have hchan : (s.chan z ch).passedOn s.clock = (s.chan z ch).passed s.clock none := by
      simp only [Channel.passedOn, Channel.passed, h]
      rfl
    rw [passOn_unwaited s z ch h, hchan]
    exact changeHolder_step s z ch none reason
  | cons w ws =>
    have hleft := modWaiters_step s z ch fun _ => ws
    have hstep := hleft.trans (changeHolder_step _ z ch (some w) reason)
    have hchan : (s.chan z ch).passedOn s.clock = { s.chan z ch with waiters := ws }.passed s.clock (some w) := by
      simp only [Channel.passedOn, Channel.passed, h]
      rfl
    rw [passOn_waited s z ch h, hchan]
    rwa [State.tenureRecord, hleft.chan, List.nil_append] at hstep

theorem passOn_gained {w : PortId} (h : (s.chan z ch).waiters.head? = some w) (reason : TenureReason) :
    hasAttn ((s.passOn z ch reason).port w).attn .tenureGained = true := by
  obtain ⟨ws, hws⟩ := List.head?_eq_some_iff.mp h
  rw [passOn_waited s z ch hws]
  exact changeHolder_gained _ z ch w reason

theorem passOn_lost {q : PortId} (hq : (s.chan z ch).holder = some q) {reason : TenureReason}
    (hloses : losesTenure reason = true) : hasAttn ((s.passOn z ch reason).port q).attn .tenureLost = true := by
  cases h : (s.chan z ch).waiters with
  | nil =>
    rw [passOn_unwaited s z ch h]
    exact changeHolder_lost s z ch hq none hloses
  | cons w ws =>
    rw [passOn_waited s z ch h]
    exact changeHolder_lost _ z ch (by rw [State.chan_modChan_self, hq]) (some w) hloses

/-! ### A pre-emption and the loss of a right -/

theorem preempt_step (p : PortId) :
    TenureStep z ch ({ s.chan z ch with waiters := (s.chan z ch).waiters.filter (· != p) }.passed s.clock (some p))
      [s.tenureRecord z ch (some p) .preempt] s (s.preempt p z ch) := by
  have hleft := modWaiters_step s z ch (·.filter (· != p))
  have hstep := hleft.trans (changeHolder_step _ z ch (some p) .preempt)
  rwa [State.tenureRecord, hleft.chan, List.nil_append] at hstep

theorem preempt_gained (p : PortId) : hasAttn ((s.preempt p z ch).port p).attn .tenureGained = true :=
  changeHolder_gained _ z ch p _

theorem preempt_lost {q : PortId} (hq : (s.chan z ch).holder = some q) (p : PortId) :
    hasAttn ((s.preempt p z ch).port q).attn .tenureLost = true :=
  changeHolder_lost _ z ch (by rw [State.chan_modChan_self, hq]) _ rfl

/-- The waiters of a channel that keep a right (R122). -/
def State.righted (z : ZoneId) (ch : ChanKind) (r : Right) : List PortId := (s.chan z ch).waiters.filter fun q => s.may q z r

/-- The state in which the waiters without the right have left (R122). -/
def State.dropWaiters (r : Right) : State :=
  s.modChan z ch fun c => { c with waiters := c.waiters.filter fun q => s.may q z r }

theorem dropWaiters_step (r : Right) :
    TenureStep z ch { s.chan z ch with waiters := s.righted z ch r } [] s (s.dropWaiters z ch r) :=
  modWaiters_step s z ch (·.filter fun q => s.may q z r)

/-- A holder that keeps the right keeps the channel, and a free one stays free (R122). -/
theorem dropUnrighted_keeps {r : Right} (h : ∀ q, (s.chan z ch).holder = some q → s.may q z r = true) :
    s.dropUnrighted z ch r = s.dropWaiters z ch r := by
  unfold State.dropUnrighted
  dsimp only
  rw [State.chan_modChan_self]
  split
  · next q hq => exact if_pos (h q hq)
  · rfl

/-- A holder without the right loses the channel to the first port left (R122). -/
theorem dropUnrighted_passes {r : Right} {q : PortId} (hq : (s.chan z ch).holder = some q) (hr : s.may q z r = false) :
    s.dropUnrighted z ch r = (s.dropWaiters z ch r).passOn z ch .right := by
  unfold State.dropUnrighted
  dsimp only
  rw [State.chan_modChan_self, hq]
  exact if_neg (Bool.eq_false_iff.mp hr)

end

end Sys2Proof.Machine
end

section
/-! ## Tenure records in order (R112, R114) -/

namespace Sys2Proof.Machine

open Sys2Proof

set_option Elab.async false

/-! ### The priority chain -/

theorem mem_chain (s : State) (p : PortId) : p ∈ s.chain := by
  unfold State.chain
  rw [List.mem_append, List.mem_filter, List.mem_filter]
  cases hp : s.isConservation p
  · exact .inr ⟨List.mem_finRange p, rfl⟩
  · exact .inl ⟨List.mem_finRange p, rfl⟩

theorem chain_nodup (s : State) : s.chain.Nodup := by
  have hports : allPorts.Nodup := List.nodup_finRange 3
  refine List.nodup_append.mpr ⟨hports.filter _, hports.filter _, fun a ha b hb hab => ?_⟩
  rw [hab, List.mem_filter] at ha
  rw [List.mem_filter, ha.2] at hb
  exact Bool.false_ne_true hb.2

/-- R114: the chain stands in chain order. -/
theorem chain_inChainOrder (s : State) : InChainOrder s s.chain := by
  have hports : allPorts.Pairwise (· < ·) := List.pairwise_lt_finRange 3
  have hrole : ∀ p, s.isConservation p = true ↔ (s.port p).role = .conservation := fun p => beq_iff_eq
  refine List.pairwise_append.mpr ⟨?_, ?_, fun a ha b _ => .inl ((hrole a).mp (List.mem_filter.mp ha).2)⟩
  · refine (hports.filter _).imp_of_mem fun ha _ _ => .inl ((hrole _).mp (List.mem_filter.mp ha).2)
  · refine (hports.filter _).imp_of_mem fun {a b} _ hb hlt => .inr ⟨fun hcons => ?_, hlt⟩
    have hnot := (List.mem_filter.mp hb).2
    rw [(hrole b).mpr hcons] at hnot
    exact Bool.false_ne_true hnot

theorem chain_congr {s t : State} (h : ∀ p, (t.port p).role = (s.port p).role) : t.chain = s.chain := by
  simp only [State.chain, State.isConservation, h]

/-! ### Lists in the order of a chain -/

/-- The ports of a list stand in the order of the chain, and none twice. -/
def InOrderOf (chain l : List PortId) : Prop := l = chain.filter fun q => l.contains q

section

variable {chain l : List PortId}

/-- What is kept of the chain is in its order. -/
theorem inOrderOf_filter (chain : List PortId) (f : PortId → Bool) : InOrderOf chain (chain.filter f) :=
  List.filter_congr fun q hq => by rw [Bool.eq_iff_iff, List.contains_iff_mem, List.mem_filter, and_iff_right hq]

theorem InOrderOf.filter (h : InOrderOf chain l) (f : PortId → Bool) : InOrderOf chain (l.filter f) := by
  have hl : l.filter f = chain.filter fun q => f q && l.contains q := by
    conv_lhs => rw [h, List.filter_filter]
  rw [hl]
  exact inOrderOf_filter chain _

theorem InOrderOf.nodup (h : InOrderOf chain l) (hchain : chain.Nodup) : l.Nodup := h ▸ hchain.filter _

theorem InOrderOf.tail (h : InOrderOf chain l) (hchain : chain.Nodup) : InOrderOf chain l.tail := by
  cases l with
  | nil => exact h
  | cons w ws =>
    have hw := (List.nodup_cons.mp (h.nodup hchain)).1
    have hws : (w :: ws).filter (· != w) = ws := by
      rw [List.filter_cons_of_neg (by simp), List.filter_eq_self]
      exact fun q hq => bne_iff_ne.mpr fun e => hw (e ▸ hq)
    exact hws ▸ h.filter (· != w)

end

/-! ### A tenure record in order -/

/-- A tenure record is in order: a free channel has no waiters, the holder does not wait, and the waiters stand in chain order. -/
structure Channel.InOrder (chain : List PortId) (c : Channel) : Prop where
  free    : c.holder = none → c.waiters = []
  holder  : ∀ p, c.holder = some p → p ∉ c.waiters
  ordered : InOrderOf chain c.waiters

theorem tenureInOrder_iff (s : State) : TenureInOrder s ↔ ∀ z ch, (s.chan z ch).InOrder s.chain :=
  forall_congr' fun _ => forall_congr' fun _ =>
    ⟨fun ⟨hfree, hholder, hordered⟩ => ⟨hfree, hholder, hordered⟩, fun ⟨hfree, hholder, hordered⟩ => ⟨hfree, hholder, hordered⟩⟩

namespace Channel.InOrder

variable {chain : List PortId} {c : Channel}

/-- A record with no waiters is in order whoever holds the channel. -/
theorem of_unwaited (h : c.waiters = []) : c.InOrder chain where
  free _ := h
  holder p _ := by rw [h]; exact List.not_mem_nil
  ordered := by
    rw [h]
    exact (List.filter_eq_nil_iff.mpr fun _ _ => Bool.false_ne_true).symm

theorem filter (h : c.InOrder chain) (f : PortId → Bool) : InOrder chain { c with waiters := c.waiters.filter f } where
  free hfree := by
    show c.waiters.filter f = []
    rw [h.free hfree, List.filter_nil]
  holder p hp hmem := h.holder p hp (List.mem_filter.mp hmem).1
  ordered := h.ordered.filter f

/-- A holder that does not wait is in order. -/
theorem passed (h : c.InOrder chain) {p : PortId} (hp : p ∉ c.waiters) (now : GTime) : InOrder chain (c.passed now (some p)) where
  free hfree := by cases hfree
  holder q hq := by
    cases hq
    exact hp
  ordered := h.ordered

/-- The port that holds the channel, or any port once it is free, does not wait. -/
theorem not_waits (h : c.InOrder chain) {p : PortId} (hp : c.holder = none ∨ c.holder = some p) : p ∉ c.waiters := by
  obtain hfree | hheld := hp
  · rw [h.free hfree]
    exact List.not_mem_nil
  · exact h.holder p hheld

theorem passedOn (h : c.InOrder chain) (hchain : chain.Nodup) (now : GTime) : InOrder chain (c.passedOn now) where
  free hfree := by
    show c.waiters.tail = []
    rw [List.head?_eq_none_iff.mp hfree, List.tail_nil]
  holder p hp := by
    obtain ⟨ws, hws⟩ := List.head?_eq_some_iff.mp hp
    have hnodup := h.ordered.nodup hchain
    show p ∉ c.waiters.tail
    rw [hws] at hnodup ⊢
    exact (List.nodup_cons.mp hnodup).1
  ordered := h.ordered.tail hchain

/-- A port that does not hold the channel joins the wait list of another (R115). -/
theorem join (h : c.InOrder chain) {p : PortId} (hheld : c.holder ≠ none) (hp : c.holder ≠ some p) :
    InOrder chain { c with waiters := chain.filter fun q => q == p || c.waiters.contains q } where
  free hfree := absurd hfree hheld
  holder q hq hmem := by
    have hwaits := (List.mem_filter.mp hmem).2
    rw [Bool.or_eq_true, beq_iff_eq, List.contains_iff_mem] at hwaits
    obtain rfl | hwaits := hwaits
    · exact hp hq
    · exact h.holder q hq hwaits
  ordered := inOrderOf_filter chain _

end Channel.InOrder

/-! ### The promise through the arbiter's operations -/

/-- Holders, waiters and roles stand. -/
structure TenureStands (s t : State) : Prop where
  roles  : t.part .roles = s.part .roles
  tenure : t.part .tenure = s.part .tenure

theorem chain_of_roles {s t : State} (h : t.part .roles = s.part .roles) : t.chain = s.chain :=
  chain_congr fun p => congrArg Prod.snd (congrFun h p)

namespace TenureInOrder

variable {s t : State} {z : ZoneId} {ch : ChanKind}

theorem chan (h : TenureInOrder s) (z : ZoneId) (ch : ChanKind) : (s.chan z ch).InOrder s.chain := (tenureInOrder_iff s).mp h z ch

theorem stands (h : TenureInOrder s) (k : TenureStands s t) : TenureInOrder t := fun x j => by
  obtain ⟨hholder, hwaiters⟩ := Prod.mk.inj (congrFun (congrFun k.tenure x) j)
  rw [hholder, hwaiters, chain_of_roles k.roles]
  exact h x j

/-- One channel's record is written, and the roles stand. -/
theorem of_channels (h : TenureInOrder s) (hchain : t.chain = s.chain) {c : Channel}
    (hchannels : ∀ x j, t.chan x j = if x = z ∧ j = ch then c else s.chan x j) (hc : c.InOrder s.chain) : TenureInOrder t :=
  (tenureInOrder_iff t).mpr fun x j => by
    rw [hchannels x j, hchain]
    split
    · exact hc
    · exact h.chan x j

theorem of_step {c : Channel} {new : List Record} (h : TenureInOrder s) (k : TenureStep z ch c new s t)
    (hc : c.InOrder s.chain) : TenureInOrder t :=
  h.of_channels (chain_of_roles (k.touches .roles (by decide))) k.channels hc

theorem passOn (h : TenureInOrder s) (z : ZoneId) (ch : ChanKind) (reason : TenureReason) :
    TenureInOrder (s.passOn z ch reason) :=
  h.of_step (passOn_step s z ch reason) ((h.chan z ch).passedOn (chain_nodup s) s.clock)

theorem takeLapse (h : TenureInOrder s) (z : ZoneId) (ch : ChanKind) : TenureInOrder (s.takeLapse z ch) := by
  unfold State.takeLapse
  split
  · exact h.passOn z ch _
  · exact h

theorem filterWaiters (h : TenureInOrder s) (z : ZoneId) (ch : ChanKind) (f : PortId → Bool) :
    TenureInOrder (s.modChan z ch fun c => { c with waiters := c.waiters.filter f }) :=
  h.of_step (modWaiters_step s z ch (·.filter f)) ((h.chan z ch).filter f)

theorem preempt (h : TenureInOrder s) (p : PortId) (z : ZoneId) (ch : ChanKind) : TenureInOrder (s.preempt p z ch) :=
  h.of_step (preempt_step s z ch p) (((h.chan z ch).filter _).passed (by simp) s.clock)

theorem dropUnrighted (h : TenureInOrder s) (z : ZoneId) (ch : ChanKind) (r : Right) :
    TenureInOrder (s.dropUnrighted z ch r) := by
  have hleft := h.filterWaiters z ch fun q => s.may q z r
  unfold State.dropUnrighted
  dsimp only
  split
  · split
    · exact hleft
    · exact hleft.passOn z ch _
  · exact hleft

theorem takeChannel (h : TenureInOrder s) (p : PortId) (z : ZoneId) (ch : ChanKind) (pre : Bool) :
    TenureInOrder (s.takeChannel p z ch pre).1 := by
  unfold State.takeChannel
  split
  · next hfree =>
    exact h.of_step (changeHolder_step s z ch _ _) ((h.chan z ch).passed ((h.chan z ch).not_waits (.inl hfree)) s.clock)
  · next q hq =>
    split
    · exact h
    · next hne =>
      split
      · exact h.preempt p z ch
      · refine h.of_step (modWaiters_step s z ch (s.insertWaiter p)) ((h.chan z ch).join ?_ ?_)
        · rw [hq]
          exact Option.some_ne_none q
        · rw [hq]
          exact fun e => hne (Option.some.inj e)

theorem releaseChannel (h : TenureInOrder s) (p : PortId) (z : ZoneId) (ch : ChanKind) :
    TenureInOrder (s.releaseChannel p z ch) := by
  unfold State.releaseChannel
  split
  · exact h.passOn z ch _
  · exact h.filterWaiters z ch _

/-- Check 4 makes the port the holder of a channel that is free or its own (R81). -/
theorem tenureCheck (h : TenureInOrder s) {p : PortId} (ht : s.tenureCheck p z ch = some t) : TenureInOrder t := by
  have hstands := tenureCheck_stands ht
  have hport : (s.chan z ch).holder = none ∨ (s.chan z ch).holder = some p := by
    by_contra hnot
    rw [not_or] at hnot
    cases (tenureCheck_eq_none.mpr hnot).symm.trans ht
  exact h.of_channels (chain_of_roles (hstands.inZone.touches .roles (by decide))) hstands.channels
    ((h.chan z ch).passed ((h.chan z ch).not_waits hport) s.clock)

theorem loseRight (h : TenureInOrder s) (z : ZoneId) (r : Right) (removed : Bool) : TenureInOrder (s.loseRight z r removed) := by
  unfold State.loseRight
  split
  · exact foldl_keeps _ TenureInOrder (fun t ch ht => ht.dropUnrighted z ch r) _ s h
  · exact h

end TenureInOrder

end Sys2Proof.Machine
end

section
/-! ## Every step keeps every tenure record in order (R112, R114)

Only TA's own operations write holders and waiters, and only start-up gives roles. What else a command does leaves both, up to the
count of the request against an open set, whose close may take channels for its members (R108). -/

namespace Sys2Proof.Machine

open Sys2Proof

set_option Elab.async false

/-! ### Single parts written -/

theorem clockSet_touches (s : State) (time : GTime) : Touches [.clock, .clockLost, .marks] s
    { s with clock := time, clockLost := false, minuteMarks := [], fiveMarks := [] } := by
  intro k hk
  cases k <;> first | rfl | simp at hk

theorem holds_touches (s : State) (hs : Vector Nat 4) : Touches [.holds] s { s with holds := hs } := by
  intro k hk
  cases k <;> first | rfl | simp at hk

theorem pending_touches (s : State) (rest : List Instr) : Touches [.pending] s { s with pending := rest } := by
  intro k hk
  cases k <;> first | rfl | simp at hk

/-! ### What leaves holders, waiters and roles -/

namespace TenureStands

variable {s t u : State} {p : PortId} {f : Frame}

theorem refl (s : State) : TenureStands s s := ⟨rfl, rfl⟩

theorem trans (h : TenureStands s t) (k : TenureStands t u) : TenureStands s u :=
  ⟨k.roles.trans h.roles, k.tenure.trans h.tenure⟩

theorem of_touches {F : List Part} (h : Touches F s t) (hroles : Part.roles ∉ F := by decide)
    (htenure : Part.tenure ∉ F := by decide) : TenureStands s t := ⟨h .roles hroles, h .tenure htenure⟩

theorem then_touches (h : TenureStands s t) {F : List Part} (k : Touches F t u) (hroles : Part.roles ∉ F := by decide)
    (htenure : Part.tenure ∉ F := by decide) : TenureStands s u := h.trans (.of_touches k hroles htenure)

theorem refuse (s : State) (p : PortId) (f : Frame) (code : Status) : TenureStands s (s.refuse p f code) :=
  .of_touches (refuse_touches s p f code)

theorem answer (h : TenureStands s t) {st : Status} {payload : List Byte} : TenureStands s (t.answer p f st payload) :=
  h.then_touches (answer_touches t p f st payload)

theorem ite {c : Prop} [Decidable c] {a b : State} (ha : TenureStands s a) (hb : TenureStands s b) :
    TenureStands s (if c then a else b) := by
  split
  · exact ha
  · exact hb

/-! ### The shapes of a request -/

theorem withArg {α : Type} {arg : Option α} {act : α → State → State} (h : ∀ a, TenureStands s (act a s)) :
    TenureStands s (s.withArg p f arg act) := by
  unfold State.withArg
  split
  · exact refuse s p f _
  · exact h _

theorem withRight {z : ZoneId} {r : Right} {act : State → State} (h : TenureStands s (act s)) :
    TenureStands s (s.withRight p f z r act) := by
  unfold State.withRight
  split
  · exact h
  · exact refuse s p f _

theorem withSub {act : Subscription → State → State} (h : ∀ sub, TenureStands s (act sub s)) :
    TenureStands s (s.withSub p f act) := by
  unfold State.withSub
  split
  · exact refuse s p f _
  · exact h _

theorem asSystem {act : State → State} (h : TenureStands s (act s)) : TenureStands s (s.asSystem p f act) := by
  unfold State.asSystem
  split
  · exact h
  · exact refuse s p f _

theorem writeFields {α : Type} {mask : Nat} {fields : List Byte} {field : Nat → List Byte → α → Option (α × List Byte)} {held : α}
    {ok : α → Bool} {apply : α → State → State} {bytes : State → List Byte} (h : ∀ a, TenureStands s (apply a s)) :
    TenureStands s (s.writeFields p f mask fields field held ok apply bytes) := by
  unfold State.writeFields
  split
  · exact refuse s p f _
  · split
    · exact (h _).answer
    · exact refuse s p f _

/-! ### Requests -/

theorem writeZoneRequest (s : State) (p : PortId) (f : Frame) : TenureStands s (s.writeZoneRequest p f) := by
  unfold State.writeZoneRequest
  split
  · split
    · exact refuse s p f _
    · exact .ite (.withRight (refl s).answer) (.withRight (.writeFields fun new => .of_touches (applyZone_inZone s _ new).touches))
  · exact refuse s p f _

theorem writeEnvelopeRequest (s : State) (p : PortId) (f : Frame) : TenureStands s (s.writeEnvelopeRequest p f) := by
  unfold State.writeEnvelopeRequest
  split
  · split
    · exact refuse s p f _
    · exact .ite (.withRight (refl s).answer) (.withRight (.writeFields fun e => .of_touches (applyEnvelope_inZone s _ e).touches))
  · exact refuse s p f _

theorem writeObjectRequest (s : State) (p : PortId) (f : Frame) : TenureStands s (s.writeObjectRequest p f) := by
  unfold State.writeObjectRequest
  split
  · split
    · exact refuse s p f _
    · exact .ite (.withRight (refl s).answer)
        (.ite (.writeFields fun new => .of_touches (applyObject_inZones s _ new).1) (refuse s p f _))
  · exact refuse s p f _

theorem setClock (s : State) (time : GTime) : TenureStands s (s.setClock time) := by
  have hrings : ∀ t : State, Touches [.est] t
      (t.forZones fun z s => s.modZone z fun zn => { zn with est := { zn.est with ring := [] } }) := fun t =>
    forZones_touches t _ fun z s => modZone_touches s z _
  have hhorizons : ∀ t : State, Touches [.horizon] t (t.forZones fun z s => s.modZone z fun zn => { zn with horizon := s.clock }) :=
    fun t => forZones_touches t _ fun z s => modZone_touches s z _
  have hdose : ∀ t : State, TenureStands t t.clockDose := fun t =>
    ((of_touches (hhorizons t)).then_touches (periodStart_touches _ _)).then_touches (reevalAll_touches _)
  exact ((((((of_touches (clockSet_touches s time)).then_touches (offer_touches _ _)).then_touches (hrings _)).trans
    (hdose _)).then_touches (touchAll_touches _)).then_touches (clockLoop_touches _)).then_touches (F := [.det])
    (forZones_touches _ _ fun z s => modZone_touches s z _)

theorem endRead (s : State) (n : NodeId) (d : Option ReplyData) : TenureStands s (s.endRead n d) := by
  have hnoted : ∀ (f : Node → Node) (st : NodeState),
      TenureStands s (((s.modNode n f).setNodeState n st).rescheduleRead n) := fun f st =>
    ((of_touches (modNode_touches s n f)).then_touches (setNodeState_touches _ n st)).then_touches (rescheduleRead_touches _ n)
  unfold State.endRead
  split
  · exact hnoted _ _
  · dsimp only
    split
    · exact (hnoted _ _).then_touches (climateSample_touches _ _ _ _)
    · exact (hnoted _ _).then_touches (lightSample_touches _ _ _ _)
    · exact hnoted _ _

theorem endTransaction (s : State) (x : Transaction) (d : Option ReplyData) : TenureStands s (s.endTransaction x d) := by
  have hfree := of_touches (txn_touches s none)
  unfold State.endTransaction
  dsimp only
  split
  · exact hfree.trans (endRead _ _ d)
  · exact hfree.then_touches (endCommand_touches _ _ d)
  · exact hfree.then_touches (endStatus_touches _ _ d)

end TenureStands

/-! ### The count of a request, and SET_POINT and LINK -/

namespace TenureInOrder

variable {s t : State}

theorem of_touches (h : TenureInOrder s) {F : List Part} (k : Touches F s t) (hroles : Part.roles ∉ F := by decide)
    (htenure : Part.tenure ∉ F := by decide) : TenureInOrder t := h.stands (.of_touches k hroles htenure)

/-- Checks 2 to 4 write a tenure record at check 4 alone (R81). -/
theorem standing (h : TenureInOrder s) (p : PortId) (z : ZoneId) (ch : ChanKind) : TenureInOrder (s.standing p z ch).1 := by
  unfold State.standing
  split
  · exact h
  · split
    · exact h
    · split
      · exact h
      · next ht => exact h.tenureCheck ht

theorem recheck (p : PortId) (z : ZoneId) (ms : List Member) (h : TenureInOrder s) :
    TenureInOrder (State.recheck p z ms s).1 := by
  induction ms generalizing s with
  | nil => exact h
  | cons m ms ih =>
    have hstood := h.standing p z m.ch
    unfold State.recheck
    generalize s.standing p z m.ch = r at hstood ⊢
    obtain ⟨t, code⟩ := r
    cases code with
    | some code => exact hstood
    | none =>
      dsimp only
      split
      · exact hstood
      · exact ih hstood

theorem closeMembers (h : TenureInOrder s) (p : PortId) (z : ZoneId) (l : LinkRecord) : TenureInOrder (s.closeMembers p z l) := by
  have hchecked := (h.of_touches (closing_touches s z)).recheck p z l.ordered
  unfold State.closeMembers
  generalize State.recheck p z l.ordered (s.closing z) = r at hchecked ⊢
  obtain ⟨t, failed⟩ := r
  cases failed with
  | some f => exact hchecked.of_touches (refuseLinked_effects t p z l _ _ _)
  | none =>
    have hrecorded := hchecked.of_touches (recordEvaluation_touches t z (t.evaluate z l.values).conds)
    dsimp only
    split
    · exact hrecorded.of_touches (grantLinked_effects _ p z l _)
    · exact hrecorded.of_touches (refuseLinked_effects _ p z l _ _ _)

theorem closeLink (h : TenureInOrder s) (p : PortId) : TenureInOrder (s.closeLink p) := by
  unfold State.closeLink
  split
  · exact h
  · split
    · exact (h.closeMembers p _ _).of_touches (dropLink_touches _ p)
    · exact h.of_touches (dropLink_touches s p)

/-- R102: the count of a request closes the set or lowers its count. -/
theorem countRequest (h : TenureInOrder s) (p : PortId) : TenureInOrder (s.countRequest p) := by
  unfold State.countRequest
  split
  · exact h
  · split
    · exact h.closeLink p
    · exact h.of_touches (F := [.link]) (modPort_touches s p _)

theorem setPointStanding (h : TenureInOrder s) (p : PortId) (tag : Byte) (z : ZoneId) (ch : ChanKind) (v : Int) :
    TenureInOrder (s.setPointStanding p tag z ch v) := by
  unfold State.setPointStanding
  split
  · unfold State.admitAlone
    split
    · exact h.of_touches (refuseSetPoint_touches s p tag _ _ _ _)
    · have hrecorded := h.of_touches (recordEvaluation_touches s z (s.evaluate z (.only ch v)).conds)
      dsimp only
      split
      · exact (hrecorded.of_touches (grant_touches _ _ z ch _ _ _)).of_touches (respond_touches _ p tag _ _)
      · exact hrecorded.of_touches (refuseSetPoint_touches _ p tag _ _ _ _)
  · split
    · exact (h.of_touches (refuseSetPoint_touches s p tag _ _ _ _)).of_touches (breakLink_touches _ p true)
    · exact (h.of_touches (F := [.link]) (modPort_touches s p _)).countRequest p

theorem setPointRequest (h : TenureInOrder s) (p : PortId) (f : Frame) : TenureInOrder (s.setPointRequest p f) := by
  have hbroken : ∀ (t : State) (asked : Option (ZoneId × ChanKind)) (v : Option Int) (code : Status), TenureInOrder t →
      TenureInOrder ((t.refuseSetPoint p f.tag asked v code 0).breakLink p true) := fun t asked v code ht =>
    (ht.of_touches (refuseSetPoint_touches t p f.tag asked v code 0)).of_touches (breakLink_touches _ p true)
  unfold State.setPointRequest
  split
  · exact hbroken s _ _ _ h
  · next z ch v _ =>
    split
    · exact hbroken s _ _ _ h
    · have hstood := h.standing p z ch
      generalize s.standing p z ch = r at hstood ⊢
      obtain ⟨t, code⟩ := r
      cases code with
      | some code => exact hbroken t _ _ _ hstood
      | none => exact hstood.setPointStanding p f.tag z ch v

theorem linkRequest (h : TenureInOrder s) (p : PortId) (f : Frame) : TenureInOrder (s.linkRequest p f) := by
  unfold State.linkRequest
  split
  · exact ((h.stands (.refuse s p f .badArg)).of_touches (F := [.link]) (modPort_touches _ p _)).countRequest p
  · split
    · exact h.stands (.refuse s p f _)
    · exact (h.of_touches (F := [.link]) (modPort_touches s p _)).stands (TenureStands.refl _).answer

/-! ### Each request -/

theorem takeFrame (h : TenureInOrder s) {p : PortId} {row : ReqRow} {f : Frame} (ht : s.takeFrame p row = some (f, t)) :
    TenureInOrder t := by
  unfold State.takeFrame at ht
  split at ht
  · cases ht
  · split at ht
    · cases ht
      exact h.of_touches (taken_touches s p _)
    · cases ht

theorem serve (h : TenureInOrder s) (p : PortId) (row : ReqRow) {handle : Frame → State → State}
    (hh : ∀ f t, TenureInOrder t → TenureInOrder (handle f t)) : TenureInOrder (s.serve p row handle) := by
  unfold State.serve
  split
  · next ht => exact (hh _ _ (h.takeFrame ht)).countRequest p
  · exact h

/-- A request that leaves every tenure record. -/
theorem serveStill (h : TenureInOrder s) (p : PortId) (row : ReqRow) {handle : Frame → State → State}
    (hh : ∀ f t, TenureStands t (handle f t)) : TenureInOrder (s.serve p row handle) :=
  h.serve p row fun f t ht => ht.stands (hh f t)

theorem execTakeTenure (h : TenureInOrder s) (p : PortId) : NextHas TenureInOrder (execTakeTenure p s) :=
  h.serve p .takeTenure fun f t ht => by
    unfold State.withArg
    split
    · exact ht.stands (.refuse t p f _)
    · next arg _ =>
      obtain ⟨z, ch, pre⟩ := arg
      unfold State.withRight
      dsimp only
      split
      · have htaken := (ht.takeChannel p z ch pre).stands
          (TenureStands.refl (t.takeChannel p z ch pre).1 |>.answer (p := p) (f := f) (st := (t.takeChannel p z ch pre).2)
            (payload := tenureBytes ((t.takeChannel p z ch pre).1.chan z ch)))
        split
        · exact htaken.takeLapse z ch
        · exact htaken
      · exact ht.stands (.refuse t p f _)

theorem execReleaseTenure (h : TenureInOrder s) (p : PortId) : NextHas TenureInOrder (execReleaseTenure p s) :=
  h.serve p .releaseTenure fun f t ht => by
    unfold State.withArg
    split
    · exact ht.stands (.refuse t p f _)
    · next arg _ => exact (ht.releaseChannel p arg.1 arg.2).stands (TenureStands.refl _).answer

theorem execSetHold (h : TenureInOrder s) (p : PortId) : NextHas TenureInOrder (execSetHold p s) :=
  h.serve p .setHold fun f t ht => by
    unfold State.asSystem
    split
    · unfold State.withArg
      split
      · exact ht.stands (.refuse t p f _)
      · next arg _ =>
        obtain ⟨ch, n⟩ := arg
        exact foldl_keeps (fun u z => u.takeLapse z ch) TenureInOrder (fun u z hu => hu.takeLapse z ch) allZones _
          (ht.stands (TenureStands.of_touches (holds_touches t _)).answer)
    · exact ht.stands (.refuse t p f _)

theorem execWriteAuthority (h : TenureInOrder s) (p : PortId) : NextHas TenureInOrder (execWriteAuthority p s) :=
  h.serve p .writeAuthority fun f t ht => by
    unfold State.asSystem
    split
    · unfold State.withArg
      split
      · exact ht.stands (.refuse t p f _)
      · next arg _ =>
        obtain ⟨q, zs, rs⟩ := arg
        have hwritten : ∀ u z, TenureInOrder u → TenureInOrder (if inZoneSet zs z then u.writeRights q z rs else u) :=
          fun u z hu => by
            split
            · exact ((hu.of_touches (F := [.rights]) (modPort_touches u q _)).loseRight z _ _).loseRight z _ _
            · exact hu
        dsimp only
        split
        · exact ht.stands (.refuse t p f _)
        · exact (foldl_keeps _ TenureInOrder hwritten allZones t ht).stands (TenureStands.refl _).answer
    · exact ht.stands (.refuse t p f _)

theorem execSetPoint (h : TenureInOrder s) (p : PortId) : NextHas TenureInOrder (execSetPoint p s) := by
  unfold Machine.execSetPoint
  split
  · next ht => exact (h.takeFrame ht).setPointRequest p _
  · exact h

theorem execLink (h : TenureInOrder s) (p : PortId) : NextHas TenureInOrder (execLink p s) := by
  unfold Machine.execLink
  split
  · next ht => exact (h.takeFrame ht).linkRequest p _
  · exact h

/-! ### Each event -/

/-- R189: start-up leaves no waiters. -/
theorem startUp (s : State) (straps : Straps) (running : GTime) (flag lost byPin : Bool) :
    TenureInOrder (s.startUp straps running flag lost byPin) := by
  refine TenureInOrder.of_touches ((tenureInOrder_iff _).mpr fun z ch => .of_unwaited ?_)
    (startUp_touches s straps running flag lost byPin)
  rw [State.chan, loaded_zone]
  simp only [startZone, Zone.chan, Fin.getElem_fin, Vector.getElem_ofFn]
  rfl

theorem execPowerOn (s : State) (straps : Straps) (kept : Option Nat) :
    NextHas TenureInOrder (execPowerOn straps kept s) := by
  cases kept <;> exact startUp s straps _ _ _ _

theorem execInterByteGap (h : TenureInOrder s) (p : PortId) : NextHas TenureInOrder (execInterByteGap p s) := by
  unfold Machine.execInterByteGap
  split
  · exact h
  · exact h.of_touches (discard_touches s p)

theorem execMinuteMark (h : TenureInOrder s) : NextHas TenureInOrder (execMinuteMark s) := by
  unfold Machine.execMinuteMark
  split
  · exact h
  · next ms _ => exact (h.of_touches (minuteMarks_touches s ms)).of_touches (minuteWork_effects _ _)

theorem execFiveMinuteMark (h : TenureInOrder s) : NextHas TenureInOrder (execFiveMinuteMark s) := by
  unfold Machine.execFiveMinuteMark
  split
  · exact h
  · next ms _ =>
    exact (h.of_touches (fiveMarks_touches s ms)).of_touches (forZones_touches _ _ fun z t => markZone_touches t z)

theorem execSensorPollDue (h : TenureInOrder s) (addr : Nat) : NextHas TenureInOrder (execSensorPollDue addr s) := by
  unfold Machine.execSensorPollDue
  split
  · exact h
  · dsimp only
    split
    · exact h.of_touches (modNode_touches s _ _)
    · exact h

theorem execStatusDue (h : TenureInOrder s) (addr : Nat) : NextHas TenureInOrder (execStatusDue addr s) := by
  unfold Machine.execStatusDue
  split
  · exact h
  · split
    · exact h.of_touches (modNode_touches s _ _)
    · exact h

theorem execActuatorRetry (h : TenureInOrder s) (addr : Nat) : NextHas TenureInOrder (execActuatorRetry addr s) := by
  unfold Machine.execActuatorRetry
  split
  · exact h
  · split
    · exact h.of_touches (retryNode_touches s _)
    · exact h

theorem execLoopTransactionStart (h : TenureInOrder s) : NextHas TenureInOrder (execLoopTransactionStart s) := by
  unfold Machine.execLoopTransactionStart
  split
  · exact h
  · have hpruned := h.of_touches (pruneCommands_touches s)
    dsimp only
    split
    · exact hpruned.of_touches (begin_touches _ _)
    · exact hpruned

theorem execLoopReply (h : TenureInOrder s) (bytes : List Byte) : NextHas TenureInOrder (execLoopReply bytes s) := by
  unfold Machine.execLoopReply
  split
  · exact h
  · split
    · exact h
    · exact h.stands (.endTransaction s _ _)

theorem execLoopReplyTimeout (h : TenureInOrder s) : NextHas TenureInOrder (execLoopReplyTimeout s) := by
  unfold Machine.execLoopReplyTimeout
  split
  · exact h
  · split
    · exact h.of_touches (txn_touches s none)
    · exact h.stands (.endTransaction s _ _)

/-! ### Every command -/

theorem exec (h : TenureInOrder s) (i : Instr) : NextHas TenureInOrder (exec i s) := by
  cases i with
  | powerOn straps kept => exact execPowerOn s straps kept
  | resetPin straps => exact startUp s straps _ _ _ _
  | frame p bytes => exact h.of_touches (foldl_touches _ (fun t b => takeByte_touches t p b) bytes s)
  | interByteGap p => exact h.execInterByteGap p
  | responseSent p => exact h.of_touches (F := [.tx]) (modPort_touches s p fun pt => { pt with tx := pt.tx.drop 1 })
  | attentionPulseEnd p => exact h.of_touches (F := [.attn]) (modPort_touches s p fun pt => { pt with pulse := false })
  | badCmd p => exact h.serveStill p _ fun f t => .refuse t p f _
  | setPoint p => exact h.execSetPoint p
  | link p => exact h.execLink p
  | linkTimeout p => exact h.stands (.ite (.of_touches (breakLink_touches s p false)) (.refl s))
  | takeTenure p => exact h.execTakeTenure p
  | releaseTenure p => exact h.execReleaseTenure p
  | tenureLapse z ch => exact h.takeLapse z ch
  | clearConditions p =>
    exact h.serveStill p _ fun f t => .withArg fun (z, cs) => .withRight <| TenureStands.answer <|
      .of_touches (F := [.sticky]) (modZone_touches t z fun zn => { zn with sticky := zn.sticky &&& ~~~cs })
  | writeZone p => exact h.serveStill p _ fun f t => .writeZoneRequest t p f
  | writeEnvelope p => exact h.serveStill p _ fun f t => .writeEnvelopeRequest t p f
  | writeObject p => exact h.serveStill p _ fun f t => .writeObjectRequest t p f
  | readObject p => exact h.serveStill p _ fun f t => .withArg fun _ => .withRight (TenureStands.refl t).answer
  | readZone p => exact h.serveStill p _ fun f t => .withArg fun _ => .withRight (TenureStands.refl t).answer
  | readNode p =>
    exact h.serveStill p _ fun f t => .withArg fun n => by
      split
      · exact .withRight (TenureStands.refl t).answer
      · exact (TenureStands.refl t).answer
  | readPort p =>
    exact h.serveStill p _ fun f t => .withArg fun q => (TenureStands.of_touches (Current.drawFor_touches t q)).answer
  | readSystem p => exact h.serveStill p _ fun f t => .withArg fun _ => (TenureStands.refl t).answer
  | subscribeOn p =>
    exact h.serveStill p _ fun f t => .withArg fun w => (TenureStands.of_touches (subscribe_touches t p w)).answer
  | subscribeOff p => exact h.serveStill p _ fun f t => (TenureStands.of_touches (unsubscribe_touches t p)).answer
  | drain p =>
    exact h.serveStill p _ fun f t => .ite (.refuse t p f _) <| .withSub fun sub => .withArg fun n =>
      .of_touches (drainRequest_touches t p f sub n)
  | scan p =>
    exact h.serveStill p _ fun f t => .ite (.refuse t p f _) <| .withSub fun sub => .withArg fun sel =>
      .of_touches (scanRequest_touches t p f sub sel)
  | setWatchOn p =>
    exact h.serveStill p _ fun f t => .ite (.refuse t p f _) <| .withSub fun _ => .withArg fun sel =>
      (TenureStands.of_touches (setWatch_touches t p (some sel))).answer
  | setWatchOff p =>
    exact h.serveStill p _ fun f t => .withSub fun _ => (TenureStands.of_touches (setWatch_touches t p none)).answer
  | mark p =>
    exact h.serveStill p _ fun f t => .withArg fun zs =>
      .ite (TenureStands.of_touches (markZones_touches t zs)).answer (.refuse t p f _)
  | setAttention p =>
    exact h.serveStill p _ fun f t => .withArg fun (enable, zones, conds, mode) => TenureStands.answer <|
      .of_touches (F := [.attn, .settings]) (modPort_touches t p fun pt => pt.setAttention enable zones conds mode)
  | ackAttention p =>
    exact h.serveStill p _ fun f t => .withArg fun bits => TenureStands.answer <|
      .of_touches (F := [.attn]) (modPort_touches t p fun pt => { pt with attn := pt.attn &&& ~~~bits })
  | superviseOn p =>
    exact h.serveStill p _ fun f t => .asSystem <| .withArg fun _ => TenureStands.answer <|
      .ite (.refl t) (.of_touches (enterSupervised_touches t))
  | superviseOff p =>
    exact h.serveStill p _ fun f t => .asSystem <| TenureStands.answer <| .ite (.of_touches (enterStandby_touches t)) (.refl t)
  | setClock p => exact h.serveStill p _ fun f t => .asSystem <| .withArg fun time => (TenureStands.setClock t time).answer
  | save p =>
    exact h.serveStill p _ fun f t => .asSystem <| .withArg fun _ => (TenureStands.of_touches (requestSave_touches t)).answer
  | writeAuthority p => exact h.execWriteAuthority p
  | writeNode p =>
    exact h.serveStill p _ fun f t => .asSystem <| .withArg fun (n, kind, code) =>
      .ite (TenureStands.of_touches (applyNode_touches t n kind code)).answer (.refuse t p f _)
  | resetDose p =>
    exact h.serveStill p _ fun f t => .asSystem <| .withArg fun (o, dose) =>
      (TenureStands.of_touches (resetDose_touches t o dose)).answer
  | setPeriod p =>
    exact h.serveStill p _ fun f t => .asSystem <| .withArg fun (n, start) =>
      .ite (TenureStands.of_touches (setPeriod_touches t n start)).answer (.refuse t p f _)
  | setHold p => exact h.execSetHold p
  | clockSecond => exact h.of_touches (tick_touches s)
  | minuteMark => exact h.execMinuteMark
  | fiveMinuteMark => exact h.execFiveMinuteMark
  | storeWriteEnd verified => exact h.of_touches (endSection_touches s verified)
  | sensorPollDue addr => exact h.execSensorPollDue addr
  | statusDue addr => exact h.execStatusDue addr
  | actuatorRetry addr => exact h.execActuatorRetry addr
  | loopTransactionStart => exact h.execLoopTransactionStart
  | loopReply bytes => exact h.execLoopReply bytes
  | loopReplyTimeout => exact h.execLoopReplyTimeout

theorem step (h : TenureInOrder s) : NextHas TenureInOrder (step s) := by
  unfold Machine.step
  split
  · exact h
  · next rest _ => exact (h.of_touches (pending_touches s rest)).exec _

end TenureInOrder

end Sys2Proof.Machine

open Sys2Proof Sys2Proof.Machine

set_option Elab.async false

/-- Settles O56: TA's own operations put a tenure record in order into a tenure record in order, start-up leaves no waiters, and no
other operation writes holders, waiters or roles. -/
theorem stepKeepsTenureInOrder : Obligations.StepKeepsTenureInOrder := by
  intro s t hs hstep
  exact hs.step.of_next hstep

end

section
/-! ## Requests on a channel's tenure (R115, R117, R118)

TAKE_TENURE and RELEASE_TENURE carry out one change of one channel and answer with the channel as it then stands. -/

namespace Sys2Proof.Machine

open Sys2Proof

set_option Elab.async false

/-! ### What the payloads spell -/

theorem chanOf?_u1 (ch : ChanKind) : chanOf? (u1 (chanIdx ch).val) = some ch := chanOf?_eq_some.mpr rfl

theorem chanOf?_eq_none {b : Byte} (h : 4 ≤ b.toNat) : chanOf? b = none :=
  Option.eq_none_iff_forall_ne_some.mpr fun ch hch => by
    have hb : b.toNat = (chanIdx ch).val % 0x100 := by rw [chanOf?_eq_some.mp hch, u1_toNat]
    omega

theorem flagOf?_eq_none {b : Byte} (h : 2 ≤ b.toNat) : flagOf? b = none := by
  unfold flagOf?
  split
  · next hb => omega
  · next hb => omega
  · rfl

theorem takeOf?_eq (z : ZoneId) (ch : ChanKind) (pre : Bool) :
    takeOf? [u1 z.val, u1 (chanIdx ch).val, if pre then 1 else 0] = some (z, ch, pre) := by
  simp only [takeOf?, zoneOf?_u1, chanOf?_u1, flagOf?_flag]

theorem takeOf?_eq_none {zb cb fb : Byte} (h : 8 ≤ zb.toNat ∨ 4 ≤ cb.toNat ∨ 2 ≤ fb.toNat) : takeOf? [zb, cb, fb] = none := by
  obtain hz | hc | hfb := h
  · simp only [takeOf?, zoneOf?_eq_none hz]
  · simp only [takeOf?, chanOf?_eq_none hc]
    cases zoneOf? zb <;> rfl
  · simp only [takeOf?, flagOf?_eq_none hfb]
    cases zoneOf? zb <;> cases chanOf? cb <;> rfl

theorem releaseOf?_eq (z : ZoneId) (ch : ChanKind) : releaseOf? [u1 z.val, u1 (chanIdx ch).val] = some (z, ch) := by
  simp only [releaseOf?, zoneOf?_u1, chanOf?_u1]

/-! ### A change of one channel, answered -/

/-- The next request of `p` has been carried out: a channel is as `c` says, the others stand, the record `r` is reported, and the
answer is DONE with the channel as it then stands. -/
structure TenureServed (z : ZoneId) (ch : ChanKind) (c : Channel) (r : Record) (p : PortId) (f : Frame) (rest : List Frame)
    (s t : State) : Prop where
  chan     : t.chan z ch = c
  others   : OtherChannels s t z ch
  reports  : Reports s t r
  accepted : Accepted s t p f rest .done (holderBytes (t.chan z ch))
  touches  : Touches (intake ++ reporting ++ [.tenure, .activity]) s t

section

variable {s t u : State} {p : PortId} {f : Frame} {rest : List Frame} {z : ZoneId} {ch : ChanKind} {c : Channel}

theorem answer_chan (s : State) (p : PortId) (f : Frame) (st : Status) (bytes : List Byte) (z : ZoneId) (ch : ChanKind) :
    (s.answer p f st bytes).chan z ch = s.chan z ch := (answer_touches_tx s p f st bytes).chan z ch

theorem answer_keepsAttention (s : State) (p : PortId) (f : Frame) (st : Status) (bytes : List Byte) :
    KeepsAttention s (s.answer p f st bytes) := .of_touches (answer_touches_tx s p f st bytes)

theorem TenureStep.served {after : Option PortId} {reason : TenureReason}
    (h : TenureStep z ch c [(s.withTaken p rest).tenureRecord z ch after reason] (s.withTaken p rest) u) (f : Frame) :
    TenureServed z ch c (s.tenureRecord z ch after reason) p f rest s (u.answer p f .done (tenureBytes (u.chan z ch))) where
  chan := (answer_chan u p f _ _ z ch).trans h.chan
  others x j hne := (answer_chan u p f _ _ x j).trans (h.otherChannels x j hne)
  reports := by
    have htaken : Logs s (s.withTaken p rest) [] := .of_touches (withTaken_touches s p rest) (withTaken_raises s p rest)
    have hanswer : Logs u (u.answer p f .done (tenureBytes (u.chan z ch))) [] :=
      .of_touches (answer_touches_tx u p f _ _) (answer_raises u p f _ _)
    exact ((htaken.trans h.logs).trans hanswer).reportsAll (Nat.le_of_ble_eq_true rfl)
  accepted := by
    rw [answer_chan]
    exact h.touches.accepted f .done _
  touches := (h.touches.answered f .done _).mono (by decide)

/-! ### TAKE_TENURE -/

theorem takeChannel_free (h : (s.chan z ch).holder = none) (pre : Bool) :
    s.takeChannel p z ch pre = (s.changeHolder z ch (some p) .take, .done) := by simp only [State.takeChannel, h]

theorem takeChannel_own (h : (s.chan z ch).holder = some p) (pre : Bool) : s.takeChannel p z ch pre = (s, .done) := by
  simp only [State.takeChannel, h, if_pos]

theorem takeChannel_preempts {q : PortId} (h : (s.chan z ch).holder = some q) (hq : q ≠ p)
    (hrole : (s.port p).role = .conservation) : s.takeChannel p z ch true = (s.preempt p z ch, .done) := by
  simp only [State.takeChannel, h, if_neg hq, State.isConservation, hrole]
  rfl

theorem takeChannel_waits {q : PortId} {pre : Bool} (h : (s.chan z ch).holder = some q) (hq : q ≠ p)
    (hpre : pre = false ∨ (s.port p).role ≠ .conservation) : s.takeChannel p z ch pre =
      (s.modChan z ch fun c => { c with waiters := s.insertWaiter p c.waiters }, .waiting) := by
  have hnot : (pre && s.isConservation p) = false := by
    rw [Bool.and_eq_false_iff, State.isConservation, beq_eq_false_iff_ne]
    exact hpre
  simp only [State.takeChannel, h, if_neg hq, hnot, Bool.false_eq_true, if_false]

/-- A TAKE_TENURE with the channel's right: the answer, and after it the lapse that a joining waiter brings on (R115, R120). -/
def answerTake (p : PortId) (f : Frame) (z : ZoneId) (ch : ChanKind) (taken : State × Status) : State :=
  let t := taken.1.answer p f taken.2 (tenureBytes (taken.1.chan z ch))
  if taken.2 = .waiting then t.takeLapse z ch else t

theorem answerTake_waiting (p : PortId) (f : Frame) (z : ZoneId) (ch : ChanKind) (t : State) :
    answerTake p f z ch (t, .waiting) = (t.answer p f .waiting (tenureBytes (t.chan z ch))).takeLapse z ch := rfl

theorem takeTenure_row (h : NextRequest s p 0x03 f rest) : rowOf f = .takeTenure := by simp [rowOf, h.2]

theorem takeTenure_answers {pre : Bool} (h : NextRequest s p 0x03 f rest)
    (hf : f.payload = [u1 z.val, u1 (chanIdx ch).val, if pre then 1 else 0]) :
    exec (.takeTenure p) s = .next ((if s.may p z (chanRight ch) then
      answerTake p f z ch ((s.withTaken p rest).takeChannel p z ch pre)
      else s.refusedWith p f rest .noRight (some z) (some ch)).countRequest p) := by
  have hnamed : namedBy f = (some z, some ch) := by
    rw [namedBy, takeTenure_row h, hf]
    exact congrArg₂ Prod.mk (zoneOf?_u1 z) (chanOf?_u1 ch)
  show Host.Outcome.next (s.serve p _ _) = _
  rw [h.serve (takeTenure_row h), hf, takeOf?_eq]
  simp only [State.withArg, withTaken_withRight, refuse_withTaken, hnamed]
  rfl

theorem takeTenure_refusesArg {zb cb fb : Byte} (h : NextRequest s p 0x03 f rest) (hf : f.payload = [zb, cb, fb])
    (hbad : 8 ≤ zb.toNat ∨ 4 ≤ cb.toNat ∨ 2 ≤ fb.toNat) :
    exec (.takeTenure p) s = .next ((s.refusedWith p f rest .badArg (zoneOf? zb) (chanOf? cb)).countRequest p) := by
  have hnamed : namedBy f = (zoneOf? zb, chanOf? cb) := by rw [namedBy, takeTenure_row h, hf]
  show Host.Outcome.next (s.serve p _ _) = _
  rw [h.serve (takeTenure_row h), hf, takeOf?_eq_none hbad]
  simp only [State.withArg, refuse_withTaken, hnamed]

/-! ### Wait lists after a leave and after a join -/

theorem filter_bne (l : List PortId) (p : PortId) : l.filter (· != p) = l.filter (· ≠ p) :=
  List.filter_congr fun q _ => by rw [Bool.eq_iff_iff, bne_iff_ne, decide_eq_true_iff]

theorem mem_insertWaiter (s : State) (p q : PortId) (l : List PortId) : q ∈ s.insertWaiter p l ↔ q = p ∨ q ∈ l := by
  rw [State.insertWaiter, List.mem_filter, and_iff_right (mem_chain s q), Bool.or_eq_true, beq_iff_eq, List.contains_iff_mem]

theorem insertWaiter_nodup (s : State) (p : PortId) (l : List PortId) : (s.insertWaiter p l).Nodup := (chain_nodup s).filter _

theorem insertWaiter_inChainOrder (s : State) (p : PortId) (l : List PortId) : InChainOrder s (s.insertWaiter p l) :=
  (chain_inChainOrder s).filter _

theorem withTaken_insertWaiter (s : State) (p q : PortId) (rest : List Frame) (l : List PortId) :
    (s.withTaken p rest).insertWaiter q l = s.insertWaiter q l := by
  rw [State.insertWaiter, State.insertWaiter, chain_congr (withTaken_port_role s p · rest)]

/-- A join writes the wait list of the channel as it stood before the request was taken. -/
theorem withTaken_join (s : State) (p : PortId) (rest : List Frame) (z : ZoneId) (ch : ChanKind) :
    ((s.withTaken p rest).modChan z ch fun c => { c with waiters := (s.withTaken p rest).insertWaiter p c.waiters }) =
      (s.modChan z ch fun c => { c with waiters := s.insertWaiter p (s.chan z ch).waiters }).withTaken p rest := by
  simp only [withTaken_insertWaiter]
  rfl

theorem withTaken_waiters (s : State) (p : PortId) (rest : List Frame) (z : ZoneId) (ch : ChanKind) (w : List PortId) :
    ((s.modChan z ch fun c => { c with waiters := w }).withTaken p rest).chan z ch = { s.chan z ch with waiters := w } :=
  State.chan_modChan_self s z ch _

end

end Sys2Proof.Machine

open Sys2Proof Sys2Proof.Machine

set_option Elab.async false

/-- Settles O33: the channel's holder decides among the four outcomes of a take, and a joining port is put in its place by the chain. -/
theorem takeTenureByTheChannelsState : Obligations.TakeTenureByTheChannelsState := by
  intro s p f rest hnext
  refine ⟨fun z ch pre hf => ⟨fun hmay => ?noRight, fun hmay => ?right⟩, fun zb cb fb hf hbad => takeTenure_refusesArg hnext hf hbad⟩
  case noRight => rw [takeTenure_answers hnext hf, hmay, if_neg Bool.false_ne_true]
  case right =>
    have hexec := takeTenure_answers hnext hf
    rw [hmay, if_pos rfl] at hexec
    refine ⟨fun hfree => ?free, fun hown => ?own, fun q hq hne => ⟨fun hpre hrole => ?preempted, fun hpre => ?waits⟩⟩
    case free =>
      rw [takeChannel_free (s := s.withTaken p rest) hfree] at hexec
      have hserved := (changeHolder_step (s.withTaken p rest) z ch (some p) .take).served f
      have hwaiters := congrArg Channel.waiters hserved.chan
      have hreports := hserved.reports
      rw [State.tenureRecord, hfree] at hreports
      exact ⟨_, hexec, congrArg Channel.holder hserved.chan, hwaiters,
        congrArg Channel.lastActivity hserved.chan, hserved.others,
        answer_keepsAttention _ p f _ _ _ _ (changeHolder_gained _ z ch p _), hreports, hserved.accepted, hserved.touches⟩
    case own =>
      rw [takeChannel_own (s := s.withTaken p rest) hown] at hexec
      rw [hexec, ← answer_withTaken]
      rfl
    case preempted =>
      subst hpre
      rw [takeChannel_preempts (s := s.withTaken p rest) hq hne ((withTaken_port_role s p p rest).trans hrole)] at hexec
      have hserved := (preempt_step (s.withTaken p rest) z ch p).served f
      have hwaiters := congrArg Channel.waiters hserved.chan
      have hreports := hserved.reports
      rw [State.tenureRecord, hq] at hreports
      exact ⟨_, hexec, congrArg Channel.holder hserved.chan, hwaiters.trans (filter_bne _ p),
        congrArg Channel.lastActivity hserved.chan, hserved.others, answer_keepsAttention _ p f _ _ _ _ (preempt_gained _ z ch p),
        answer_keepsAttention _ p f _ _ _ _ (preempt_lost (s.withTaken p rest) z ch hq p), hreports, hserved.accepted, hserved.touches⟩
    case waits =>
      have hrole : pre = false ∨ ((s.withTaken p rest).port p).role ≠ .conservation := by rwa [withTaken_port_role]
      rw [takeChannel_waits (s := s.withTaken p rest) hq hne hrole] at hexec
      refine ⟨s.insertWaiter p (s.chan z ch).waiters, (mem_insertWaiter s p · _), insertWaiter_nodup s p _,
        insertWaiter_inChainOrder s p _, hexec.trans ?_⟩
      rw [withTaken_join, answerTake_waiting, withTaken_waiters, ← answer_withTaken]
      rfl

end

section
/-! ## A channel released, and a channel that lapses (R118, R120) -/

namespace Sys2Proof.Machine

open Sys2Proof

set_option Elab.async false

section

variable {s t : State} {p : PortId} {f : Frame} {rest : List Frame} {z : ZoneId} {ch : ChanKind}

theorem releaseTenure_answers (h : NextRequest s p 0x04 f rest) (hf : f.payload = [u1 z.val, u1 (chanIdx ch).val]) :
    exec (.releaseTenure p) s = .next ((((s.withTaken p rest).releaseChannel p z ch).answer p f .done
      (tenureBytes (((s.withTaken p rest).releaseChannel p z ch).chan z ch))).countRequest p) := by
  have hrow : rowOf f = .releaseTenure := by simp [rowOf, h.2]
  show Host.Outcome.next (s.serve p _ _) = _
  rw [h.serve hrow, hf, releaseOf?_eq]
  rfl

theorem releaseChannel_holder (h : (s.chan z ch).holder = some p) : s.releaseChannel p z ch = s.passOn z ch .release := if_pos h

theorem releaseChannel_other (h : (s.chan z ch).holder ≠ some p) :
    s.releaseChannel p z ch = s.modChan z ch fun c => { c with waiters := c.waiters.filter (· ≠ p) } := by
  simp only [State.releaseChannel, if_neg h, filter_bne]

/-- The model's test of R120's six conditions. -/
theorem lapses_iff (s : State) (z : ZoneId) (ch : ChanKind) : s.lapses z ch = true ↔ Lapses s z ch := by
  simp only [State.lapses, Lapses, Bool.and_eq_true, decide_eq_true_iff, Bool.not_eq_true', List.isEmpty_eq_false_iff, and_assoc]
  rfl

theorem takeLapse_stands (h : ¬ Lapses s z ch) : s.takeLapse z ch = s := if_neg fun hl => h ((lapses_iff s z ch).mp hl)

theorem takeLapse_passes (h : Lapses s z ch) : s.takeLapse z ch = s.passOn z ch .lapse := if_pos ((lapses_iff s z ch).mpr h)

theorem Channel.passedOn_lastActivity {c : Channel} {w : PortId} (h : c.waiters.head? = some w) (now : GTime) :
    (c.passedOn now).lastActivity = now := if_neg fun hnil => by simp [hnil] at h

end

end Sys2Proof.Machine

open Sys2Proof Sys2Proof.Machine

set_option Elab.async false

/-- Settles O34: a release by the holder and a lapse are the same change, the channel passed on, which differs in the reason alone. -/
theorem releaseAndLapsePassTheChannelOn : Obligations.ReleaseAndLapsePassTheChannelOn := by
  refine ⟨fun s p z ch f rest hnext hf => ⟨fun hheld => ?held, fun hother => ?other⟩,
    fun s z ch => ⟨fun hnot => ?stands, fun q w ws hlapses hq hws => ?lapses⟩⟩
  case held =>
    have hexec := releaseTenure_answers hnext hf
    rw [releaseChannel_holder (s := s.withTaken p rest) hheld] at hexec
    have hserved := (passOn_step (s.withTaken p rest) z ch .release).served f
    have hholder := congrArg Channel.holder hserved.chan
    have hwaiters := congrArg Channel.waiters hserved.chan
    have hactivity := congrArg Channel.lastActivity hserved.chan
    have hreports := hserved.reports
    rw [State.tenureRecord, hheld] at hreports
    exact ⟨_, hexec, hholder, hwaiters, fun w hw => ⟨hactivity.trans (Channel.passedOn_lastActivity hw _),
      answer_keepsAttention _ p f _ _ _ _ (passOn_gained (s.withTaken p rest) z ch hw _)⟩, hserved.others, hreports,
      hserved.accepted, hserved.touches⟩
  case other =>
    rw [releaseTenure_answers hnext hf, releaseChannel_other (s := s.withTaken p rest) hother, State.chan_modChan_self,
      ← answer_withTaken]
    rfl
  case stands => exact congrArg Host.Outcome.next (takeLapse_stands hnot)
  case lapses =>
    have hhead : (s.chan z ch).waiters.head? = some w := by rw [hws, List.head?_cons]
    have htail : (s.chan z ch).waiters.tail = ws := by rw [hws, List.tail_cons]
    have hstep := passOn_step s z ch .lapse
    have hreports := hstep.logs.reportsAll (Nat.le_of_ble_eq_true rfl)
    rw [State.tenureRecord, hq, hhead] at hreports
    refine ⟨s.passOn z ch .lapse, congrArg Host.Outcome.next (takeLapse_passes hlapses), ?_, ?_, ?_, hstep.otherChannels,
      passOn_gained s z ch hhead _, passOn_lost s z ch hq rfl, hreports, hstep.touches.mono (by decide)⟩
    · rw [hstep.chan]
      exact hhead
    · rw [hstep.chan]
      exact htail
    · rw [hstep.chan]
      exact Channel.passedOn_lastActivity hhead _

end

section
/-! ## A hold time replaced (R119, R120) -/

namespace Sys2Proof.Machine

open Sys2Proof

set_option Elab.async false

theorem setHoldOf?_eq {n : Nat} (ch : ChanKind) (hn : n ≤ 3600) : setHoldOf? (u1 (chanIdx ch).val :: u2 n) = some (ch, n) := by
  simp only [setHoldOf?, u2, chanOf?_u1, within_u16 hn (by decide : 3600 < 0x10000)]

theorem setHoldOf?_eq_none {n : Nat} (ch : ChanKind) (hn : 3600 < n) (hbits : n < 0x10000) :
    setHoldOf? (u1 (chanIdx ch).val :: u2 n) = none := by
  have hwithin : within 0 3600 n = none := if_neg fun hle => by omega
  simp only [setHoldOf?, u2, chanOf?_u1, u16_bytes hbits, hwithin]

/-- What follows an answer leaves the request accepted, if it leaves queues, counters and responses. -/
theorem Accepted.then_touches {F : List Part} {s t u : State} {p : PortId} {f : Frame} {rest : List Frame} {st : Status}
    {payload : List Byte} (h : Accepted s t p f rest st payload) (k : Touches F t u) (hF : ∀ k ∈ intake, k ∉ F := by decide) :
    Accepted s u p f rest st payload := by
  have hqueue : ∀ q, (u.port q).queue = (t.port q).queue := fun q => congrFun (k .queue (hF _ (by decide))) q
  have htx : ∀ q, (u.port q).tx = (t.port q).tx := fun q => congrFun (k .tx (hF _ (by decide))) q
  have hcounters : ∀ q, (u.port q).taken = (t.port q).taken ∧ (u.port q).discards = (t.port q).discards ∧
      (u.port q).portFull = (t.port q).portFull := fun q => by
    have hq := congrFun (k .counters (hF _ (by decide))) q
    simpa only [State.part, Prod.mk.injEq] using hq
  refine ⟨(hqueue p).trans h.queue, (hcounters p).1.trans h.taken, (htx p).trans h.response, ?_, fun q hq => ?_⟩
  · rw [(hcounters p).2.1, (hcounters p).2.2]
    exact h.faults
  · rw [hqueue, htx, (hcounters q).1, (hcounters q).2.1, (hcounters q).2.2]
    exact h.others q hq

/-! ### The lapses of one kind -/

section

variable {F : List Part} {s t : State} {z : ZoneId} {ch : ChanKind}

/-- The lapses of a kind's channels that are due, zone by zone (R120). -/
def State.takeLapses (s : State) (ch : ChanKind) : State := s.forZones fun z s => s.takeLapse z ch

theorem Touches.lapses (h : Touches F s t) (hchan : t.chan z ch = s.chan z ch)
    (hF : ∀ k ∈ [Part.supervised, .cfg, .holds, .clock], k ∉ F := by decide) : Lapses t z ch ↔ Lapses s z ch := by
  have hsupervised : t.supervised = s.supervised := h .supervised (hF _ (by decide))
  have hcfg : (t.zone z).cfg = (s.zone z).cfg := h.zoneCfg z (hF _ (by decide))
  have hhold : t.hold ch = s.hold ch := congrArg (·[chanIdx ch]) (h .holds (hF _ (by decide)))
  have hclock : t.clock = s.clock := h .clock (hF _ (by decide))
  rw [Lapses, Lapses, hsupervised, hcfg, hhold, hclock, hchan]

/-- What a lapse can change (R120, R123). -/
abbrev lapseEffects : List Part := [.tenure, .activity] ++ reporting

theorem takeLapse_effects (s : State) (z : ZoneId) (ch : ChanKind) : Touches lapseEffects s (s.takeLapse z ch) := by
  by_cases h : Lapses s z ch
  · rw [takeLapse_passes h]
    exact (passOn_step s z ch _).touches
  · rw [takeLapse_stands h]
    exact .refl _ s

theorem takeLapse_otherChannels (s : State) (z : ZoneId) (ch : ChanKind) : OtherChannels s (s.takeLapse z ch) z ch := by
  by_cases h : Lapses s z ch
  · rw [takeLapse_passes h]
    exact (passOn_step s z ch _).otherChannels
  · rw [takeLapse_stands h]
    exact fun _ _ _ => rfl

theorem takeLapses_effects (s : State) (ch : ChanKind) : Touches lapseEffects s (s.takeLapses ch) :=
  foldl_keeps (fun t z => t.takeLapse z ch) (Touches _ s) (fun t z ht => ht.trans (takeLapse_effects t z ch)) allZones s (.refl _ s)

theorem takeLapses_otherKinds (s : State) (z : ZoneId) {ch ch' : ChanKind} (h : ch' ≠ ch) :
    (s.takeLapses ch).chan z ch' = s.chan z ch' :=
  foldl_keeps _ (fun t => t.chan z ch' = s.chan z ch')
    (fun t x ht => (takeLapse_otherChannels t x ch z ch' fun e => h (congrArg Prod.snd e)).trans ht) _ s rfl

/-- Each zone's channel is as its own lapse, taken in a state that agrees on what the lapse hangs on, leaves it. -/
theorem takeLapses_own (s : State) (z : ZoneId) (ch : ChanKind) : ∃ t, Touches lapseEffects s t ∧ t.chan z ch = s.chan z ch ∧
    (s.takeLapses ch).chan z ch = (t.takeLapse z ch).chan z ch := by
  obtain ⟨-, -, t, -, htouch, hbefore, hafter⟩ := foldl_own (f := fun z s => s.takeLapse z ch) (cost := fun _ => 0)
    (I := Touches lapseEffects s) (R := fun _ t u => u.chan z ch = t.chan z ch) (s := s)
    (fun x t ht => ht.trans (takeLapse_effects t x ch)) (fun _ => rfl) (fun _ _ _ _ _ h k => k.trans h)
    (fun x hx t _ => takeLapse_otherChannels t x ch z ch fun e => hx (congrArg Prod.fst e).symm)
    (List.nodup_finRange 8) (List.mem_finRange z) (.refl _ s)
  exact ⟨t, htouch, hbefore, hafter⟩

theorem takeLapses_lapsed (h : Lapses s z ch) : (s.takeLapses ch).chan z ch = (s.chan z ch).passedOn s.clock := by
  obtain ⟨t, htouch, hbefore, hafter⟩ := takeLapses_own s z ch
  rw [hafter, takeLapse_passes ((htouch.lapses hbefore).mpr h), (passOn_step t z ch _).chan, hbefore]
  exact congrArg (s.chan z ch).passedOn (htouch .clock (by decide))

theorem takeLapses_stood (h : ¬ Lapses s z ch) : (s.takeLapses ch).chan z ch = s.chan z ch := by
  obtain ⟨t, htouch, hbefore, hafter⟩ := takeLapses_own s z ch
  rw [hafter, takeLapse_stands fun hlapses => h ((htouch.lapses hbefore).mp hlapses), hbefore]

end

/-! ### SET_HOLD -/

/-- A kind's hold time replaced (R119). -/
def State.setHold (s : State) (ch : ChanKind) (n : Nat) : State := { s with holds := s.holds.set (chanIdx ch) n }

section

variable {s : State} {p : PortId} {f : Frame} {rest : List Frame} {ch : ChanKind} {n : Nat}

theorem setHold_touches (s : State) (ch : ChanKind) (n : Nat) : Touches [.holds] s (s.setHold ch n) :=
  holds_touches s _

theorem setHold_hold_self (s : State) (ch : ChanKind) (n : Nat) : (s.setHold ch n).hold ch = n :=
  Vector.getElem_set_self _

theorem setHold_hold_ne (s : State) {ch ch' : ChanKind} (h : ch' ≠ ch) (n : Nat) : (s.setHold ch n).hold ch' = s.hold ch' :=
  Vector.getElem_set_ne (chanIdx ch).isLt (chanIdx ch').isLt fun e => h (chanIdx_injective.mp (Fin.ext e.symm))

theorem setHold_row (h : NextRequest s p 0x37 f rest) : rowOf f = .setHold := by simp [rowOf, h.2]

theorem setHold_answers (h : NextRequest s p 0x37 f rest) (hf : f.payload = u1 (chanIdx ch).val :: u2 n)
    (hrole : (s.port p).role = .conservation) (hn : n ≤ 3600) :
    exec (.setHold p) s = .next (((((s.withTaken p rest).setHold ch n).answer p f .done []).takeLapses ch).countRequest p) := by
  show Host.Outcome.next (s.serve p _ _) = _
  rw [h.serve (setHold_row h), withTaken_asSystem hrole, hf, setHoldOf?_eq ch hn]
  rfl

theorem setHold_refuses (h : NextRequest s p 0x37 f rest) (hf : f.payload = u1 (chanIdx ch).val :: u2 n)
    (hrole : (s.port p).role = .conservation) (hn : 3600 < n) (hbits : n < 0x10000) :
    exec (.setHold p) s = .next ((s.refusedWith p f rest .badArg none (some ch)).countRequest p) := by
  have hnamed : namedBy f = (none, some ch) := by
    rw [namedBy, setHold_row h, hf]
    exact congrArg (none, ·) (chanOf?_u1 ch)
  show Host.Outcome.next (s.serve p _ _) = _
  rw [h.serve (setHold_row h), withTaken_asSystem hrole, hf, setHoldOf?_eq_none ch hn hbits, State.withArg, refuse_withTaken, hnamed]

end

end Sys2Proof.Machine

open Sys2Proof Sys2Proof.Machine

set_option Elab.async false

/-- Settles O35: the hold time is replaced before the lapses are looked at, and each zone's lapse is that of its own channel. -/
theorem setHoldReplacesTheTime : Obligations.SetHoldReplacesTheTime := by
  intro s p ch n f rest hnext hf hrole
  refine ⟨fun hn => ?replaced, fun hn hbits => setHold_refuses hnext hf hrole hn hbits⟩
  have hset := setHold_touches (s.withTaken p rest) ch n
  set u := (s.withTaken p rest).setHold ch n
  have hanswer := answer_touches_tx u p f .done []
  have htaken := takeLapses_effects (u.answer p f .done []) ch
  have hhold : ∀ j, ((u.answer p f .done []).takeLapses ch).hold j = u.hold j := fun j =>
    congrArg (·[chanIdx j]) ((htaken .holds (by decide)).trans (hanswer .holds (by decide)))
  have hchan : ∀ z j, (u.answer p f .done []).chan z j = s.chan z j := fun z j => answer_chan u p f _ _ z j
  have hlapses : ∀ z, Lapses (u.answer p f .done []) z ch ↔ Lapses (s.setHold ch n) z ch := fun z =>
    (hanswer.lapses (hchan z ch)).trans ((withTaken_touches (s.setHold ch n) p rest).lapses rfl)
  refine ⟨_, setHold_answers hnext hf hrole hn, (hhold ch).trans (setHold_hold_self _ ch n),
    fun j hj => (hhold j).trans (setHold_hold_ne _ hj n), fun z j hj => (takeLapses_otherKinds _ z hj).trans (hchan z j),
    fun z hz => ?lapsed, fun z hz => ?stood, (hset.accepted f .done []).then_touches htaken, ?touches⟩
  case lapsed =>
    rw [takeLapses_lapsed ((hlapses z).mpr hz), hchan]
    exact ⟨rfl, rfl⟩
  case stood => rw [takeLapses_stood fun hl => hz ((hlapses z).mp hl), hchan]
  case touches => exact (hset.answered f .done []).mono (by decide) |>.then_mono htaken (by decide)

end

section
/-! ## Rights written, and the tenure that hangs on them (R122, R123, R174)

Seen from one channel, all of a WRITE_AUTHORITY is quiet but the write of its zone's rights and, where the port loses the right the
channel hangs on, the turn at which the channel's own record is gone through. -/

namespace Sys2Proof.Machine

open Sys2Proof

set_option Elab.async false

/-! ### What leaves one channel alone -/

theorem anySubscribed_of_sub {s t : State} (h : t.part .sub = s.part .sub) : t.anySubscribed = s.anySubscribed := by
  have hsub : ∀ q, (t.port q).sub = (s.port q).sub := congrFun h
  simp only [State.anySubscribed, hsub]

/-- Nothing that concerns the channel happens: it stands, no TENURE record names it, and attention bits stay. What is reported
takes at most `n` bytes. -/
structure SilentAt (z : ZoneId) (ch : ChanKind) (n : Nat) (s t : State) : Prop where
  chan      : t.chan z ch = s.chan z ch
  clock     : t.clock = s.clock
  logs      : LogsOf (Record.isTenureOf z ch) n s t []
  attention : KeepsAttention s t

/-- The rights of every port in a zone stand. -/
def SameRights (z : ZoneId) (s t : State) : Prop := ∀ q, (t.port q).rights[z] = (s.port q).rights[z]

theorem SameRights.refl (z : ZoneId) (s : State) : SameRights z s s := fun _ => rfl

theorem SameRights.trans {z : ZoneId} {s t u : State} (h : SameRights z s t) (k : SameRights z t u) : SameRights z s u := fun q =>
  (k q).trans (h q)

theorem SameRights.may {z : ZoneId} {s t : State} (h : SameRights z s t) (q : PortId) (r : Right) : t.may q z r = s.may q z r :=
  congrArg (hasRight · r) (h q)

theorem Touches.sameRights {F : List Part} {s t : State} (h : Touches F s t) (z : ZoneId) (hF : Part.rights ∉ F := by decide) :
    SameRights z s t := fun q => congrArg (·[z]) (congrFun (h .rights hF) q)

/-- Nothing that concerns the channel happens, and the rights in its zone stand. -/
structure QuietAt (z : ZoneId) (ch : ChanKind) (n : Nat) (s t : State) : Prop extends SilentAt z ch n s t where
  rights : SameRights z s t

section

variable {z x : ZoneId} {ch : ChanKind} {m n : Nat} {s t u : State}

theorem SilentAt.trans (h : SilentAt z ch m s t) (k : SilentAt z ch n t u) : SilentAt z ch (m + n) s u where
  chan := k.chan.trans h.chan
  clock := k.clock.trans h.clock
  logs := h.logs.trans k.logs
  attention := h.attention.trans k.attention

theorem SilentAt.of_touches {F : List Part} (h : Touches F s t)
    (hF : ∀ k ∈ [Part.granted, .delivery, .tenure, .activity, .clock, .records, .sub, .attn], k ∉ F := by decide) :
    SilentAt z ch 0 s t where
  chan := h.chan z ch fun k hk => hF k (List.mem_append_left _ hk)
  clock := h .clock (hF _ (by decide))
  logs := .of_silent (.of_same (anySubscribed_of_sub (h .sub (hF _ (by decide)))) (h .records (hF _ (by decide)))) 0
  attention := .of_touches h (hF _ (by decide))

theorem SilentAt.mono (h : SilentAt z ch m s t) (hmn : m ≤ n) : SilentAt z ch n s t :=
  ⟨h.chan, h.clock, h.logs.mono hmn, h.attention⟩

namespace QuietAt

theorem refl (z : ZoneId) (ch : ChanKind) (s : State) : QuietAt z ch 0 s s := ⟨⟨rfl, rfl, .refl 0 s, .refl s⟩, .refl z s⟩

theorem trans (h : QuietAt z ch m s t) (k : QuietAt z ch n t u) : QuietAt z ch (m + n) s u :=
  ⟨h.toSilentAt.trans k.toSilentAt, h.rights.trans k.rights⟩

theorem mono (h : QuietAt z ch m s t) (hmn : m ≤ n) : QuietAt z ch n s t :=
  ⟨h.toSilentAt.mono hmn, h.rights⟩

theorem of_touches {F : List Part} (h : Touches F s t)
    (hF : ∀ k ∈ [Part.granted, .delivery, .tenure, .activity, .clock, .records, .sub, .attn, .rights], k ∉ F := by decide) :
    QuietAt z ch 0 s t :=
  ⟨.of_touches h fun k hk => hF k (List.mem_append_left [Part.rights] hk), h.sameRights z (hF _ (by decide))⟩

end QuietAt

/-! ### One tenure record gone through (R122) -/

/-- A tenure record gone through for a right: a change of that channel with at most one TENURE record. -/
theorem dropUnrighted_step (s : State) (z : ZoneId) (ch : ChanKind) (r : Right) :
    ∃ c new, TenureStep z ch c new s (s.dropUnrighted z ch r) ∧ totalSize new ≤ 11 ∧
      ∀ x j, (x, j) ≠ (z, ch) → new.filter (Record.isTenureOf x j) = [] := by
  have hdrop := dropWaiters_step s z ch r
  by_cases h : ∀ q, (s.chan z ch).holder = some q → s.may q z r = true
  · rw [dropUnrighted_keeps s z ch h]
    exact ⟨_, _, hdrop, Nat.zero_le _, fun _ _ _ => rfl⟩
  · push Not at h
    obtain ⟨q, hq, hr⟩ := h
    rw [dropUnrighted_passes s z ch hq (Bool.eq_false_iff.mpr hr)]
    refine ⟨_, _, hdrop.trans (passOn_step _ z ch .right), le_rfl, fun x j hne => ?_⟩
    have hother : (z == x && ch == j) = false := by
      rw [Bool.and_eq_false_iff, beq_eq_false_iff_ne, beq_eq_false_iff_ne]
      by_contra hsame
      push Not at hsame
      exact hne (by rw [hsame.1, hsame.2])
    rw [List.nil_append, List.filter_cons_of_neg, List.filter_nil]
    exact Bool.eq_false_iff.mp hother

theorem dropUnrighted_effects (s : State) (z : ZoneId) (ch : ChanKind) (r : Right) :
    Touches ([.tenure, .activity] ++ reporting) s (s.dropUnrighted z ch r) := by
  obtain ⟨_, _, hstep, -, -⟩ := dropUnrighted_step s z ch r
  exact hstep.touches

theorem dropUnrighted_quiet (s : State) {j : ChanKind} (h : (z, ch) ≠ (x, j)) (r : Right) :
    QuietAt z ch 11 s (s.dropUnrighted x j r) := by
  obtain ⟨_, new, hstep, hsize, hothers⟩ := dropUnrighted_step s x j r
  refine ⟨⟨hstep.otherChannels z ch h, hstep.clock, ?_, hstep.attention⟩, hstep.touches.sameRights z⟩
  exact hothers z ch h ▸ .of_logs hstep.logs hsize

/-- A holder without the right: the channel goes to the first port left (R122, R123). -/
theorem dropUnrighted_passed_step {q : PortId} {r : Right} (hq : (s.chan z ch).holder = some q) (hr : s.may q z r = false) :
    TenureStep z ch (Channel.passedOn { s.chan z ch with waiters := s.righted z ch r } s.clock)
      [.tenure s.clock z ch (some q) (s.righted z ch r).head? .right] s (s.dropUnrighted z ch r) := by
  have hdrop := dropWaiters_step s z ch r
  have hstep := hdrop.trans (passOn_step (s.dropWaiters z ch r) z ch .right)
  rw [State.tenureRecord, hdrop.chan, hdrop.clock, hq] at hstep
  rwa [dropUnrighted_passes s z ch hq hr]

theorem dropUnrighted_lost {q : PortId} {r : Right} (hq : (s.chan z ch).holder = some q) (hr : s.may q z r = false) :
    hasAttn ((s.dropUnrighted z ch r).port q).attn .tenureLost = true := by
  rw [dropUnrighted_passes s z ch hq hr]
  exact passOn_lost _ z ch ((congrArg Channel.holder (dropWaiters_step s z ch r).chan).trans hq) rfl

theorem dropUnrighted_gained {q w : PortId} {r : Right} (hq : (s.chan z ch).holder = some q) (hr : s.may q z r = false)
    (hw : (s.righted z ch r).head? = some w) : hasAttn ((s.dropUnrighted z ch r).port w).attn .tenureGained = true := by
  rw [dropUnrighted_passes s z ch hq hr]
  exact passOn_gained _ z ch ((congrArg (·.waiters.head?) (dropWaiters_step s z ch r).chan).trans hw) _

/-- What is left of the tenure record once its own turn is over (R122, R123). -/
theorem rightLost_of_turn (before : SilentAt z ch m s t) (after : QuietAt z ch n (t.dropUnrighted z ch (chanRight ch)) u)
    (hsize : m + 11 + n ≤ queueCapacity) :
    RightLost s u z ch ((s.chan z ch).waiters.filter fun w => u.may w z (chanRight ch)) := by
  have hmay : ∀ w, u.may w z (chanRight ch) = t.may w z (chanRight ch) := fun w =>
    (after.rights.may w _).trans (((dropUnrighted_effects t z ch _).sameRights z).may w _)
  have hleft : ((s.chan z ch).waiters.filter fun w => u.may w z (chanRight ch)) = t.righted z ch (chanRight ch) := by
    rw [State.righted, before.chan]
    exact List.filter_congr fun w _ => hmay w
  have hlogs : ∀ {c new}, TenureStep z ch c new t (t.dropUnrighted z ch (chanRight ch)) → totalSize new ≤ 11 →
      RecordsOf (Record.isTenureOf z ch) s u (new.filter (Record.isTenureOf z ch)) := fun hstep hnew => by
    have hall := (before.logs.trans (.of_logs hstep.logs hnew)).trans after.logs
    rw [List.nil_append, List.append_nil] at hall
    exact hall.recordsOf hsize
  rw [hleft]
  refine ⟨fun h hh hno => ?_, fun hkeeps => ?_⟩
  · have hheld : (t.chan z ch).holder = some h := by rw [before.chan, hh]
    rw [hmay] at hno
    have hstep := dropUnrighted_passed_step hheld hno
    have hrecords := hlogs hstep le_rfl
    rw [before.clock, List.filter_cons_of_pos (by simp [Record.isTenureOf]), List.filter_nil] at hrecords
    refine ⟨?_, hrecords, after.attention _ _ (dropUnrighted_lost hheld hno),
      fun w hw => after.attention _ _ (dropUnrighted_gained hheld hno hw)⟩
    rw [after.chan, hstep.chan, before.chan, before.clock]
    rfl
  · have hstep := dropWaiters_step t z ch (chanRight ch)
    rw [← dropUnrighted_keeps t z ch fun q hq => (hmay q).symm.trans (hkeeps q (before.chan ▸ hq))] at hstep
    refine ⟨?_, hlogs hstep (Nat.zero_le _)⟩
    rw [after.chan, hstep.chan, before.chan]

/-- A port without the right neither holds the channel nor waits for it afterwards (R122). -/
theorem RightLost.left_out {q : PortId} (hlost : RightLost s t z ch ((s.chan z ch).waiters.filter fun w => t.may w z (chanRight ch)))
    (hq : t.may q z (chanRight ch) = false) : (t.chan z ch).holder ≠ some q ∧ q ∉ (t.chan z ch).waiters := by
  have hleft : q ∉ (s.chan z ch).waiters.filter fun w => t.may w z (chanRight ch) := fun hmem =>
    Bool.false_ne_true (hq.symm.trans (List.mem_filter.mp hmem).2)
  by_cases h : ∀ p, (s.chan z ch).holder = some p → t.may p z (chanRight ch) = true
  · rw [(hlost.kept h).1]
    exact ⟨fun hheld => Bool.false_ne_true (hq.symm.trans (h q hheld)), hleft⟩
  · push Not at h
    obtain ⟨p, hp, hno⟩ := h
    rw [(hlost.passed p hp (Bool.eq_false_iff.mpr hno)).1]
    exact ⟨fun hheld => hleft (List.mem_of_mem_head? hheld), fun hwaits => hleft (List.mem_of_mem_tail hwaits)⟩

/-! ### A right removed -/

/-- Among changes that are quiet at the channel, it has its own turn, in which its record is gone through for its right. -/
def TurnAt (z : ZoneId) (ch : ChanKind) (n : Nat) (s u : State) : Prop :=
  ∃ t k l, k + 11 + l = n ∧ QuietAt z ch k s t ∧ QuietAt z ch l (t.dropUnrighted z ch (chanRight ch)) u

theorem TurnAt.after (h : TurnAt z ch n t u) (k : QuietAt z ch m s t) : TurnAt z ch (m + n) s u := by
  obtain ⟨v, i, j, hsum, hbefore, hafter⟩ := h
  exact ⟨v, m + i, j, by omega, k.trans hbefore, hafter⟩

theorem TurnAt.before (h : TurnAt z ch m s t) (k : QuietAt z ch n t u) : TurnAt z ch (m + n) s u := by
  obtain ⟨v, i, j, hsum, hbefore, hafter⟩ := h
  exact ⟨v, i, j + n, by omega, hbefore, hafter.trans k⟩

theorem mem_rightChans {r : Right} {j : ChanKind} (h : j ∈ rightChans r) : chanRight j = r := by
  revert h; cases r <;> cases j <;> decide

theorem chan_mem_rightChans (ch : ChanKind) : ch ∈ rightChans (chanRight ch) := by cases ch <;> decide

theorem rightChans_nodup (r : Right) : (rightChans r).Nodup := by cases r <;> decide

theorem rightChans_length (r : Right) : (rightChans r).length ≤ 2 := by cases r <;> decide

/-- A removal that does not concern the channel: of another zone, of a right it does not hang on, or none. -/
theorem loseRight_quiet (s : State) {r : Right} {removed : Bool} (h : x ≠ z ∨ chanRight ch ≠ r ∨ removed = false) :
    QuietAt z ch 22 s (s.loseRight x r removed) := by
  have hquiet : ∀ (l : List ChanKind) (s : State), (∀ j ∈ l, (z, ch) ≠ (x, j)) →
      QuietAt z ch (11 * l.length) s (l.foldl (fun s j => s.dropUnrighted x j r) s) := fun l => by
    induction l with
    | nil => exact fun s _ => .refl z ch s
    | cons j l ih =>
      intro s hl
      exact ((dropUnrighted_quiet s (hl j List.mem_cons_self) r).trans
        (ih _ fun i hi => hl i (List.mem_cons_of_mem j hi))).mono (by rw [List.length_cons]; omega)
  unfold State.loseRight
  split
  · next hremoved =>
    refine (hquiet (rightChans r) s fun j hj hsame => ?_).mono (by have := rightChans_length r; omega)
    obtain ⟨rfl, rfl⟩ := Prod.mk.inj hsame
    obtain hz | hr | hkept := h
    · exact hz rfl
    · exact hr (mem_rightChans hj)
    · exact Bool.false_ne_true (hkept.symm.trans hremoved)
  · exact (QuietAt.refl z ch s).mono (Nat.zero_le _)

/-- A removal of the right the channel hangs on, in its zone. -/
theorem loseRight_turn (s : State) (z : ZoneId) (ch : ChanKind) : TurnAt z ch 22 s (s.loseRight z (chanRight ch) true) := by
  obtain ⟨k, l, t, hsum, -, hbefore, hafter⟩ := foldl_own (f := fun j s => s.dropUnrighted z j (chanRight ch)) (cost := fun _ => 11)
    (I := fun _ => True) (R := QuietAt z ch) (s := s) (fun _ _ _ => trivial) (QuietAt.refl z ch) (fun _ _ _ _ _ h k => h.trans k)
    (fun j hj t _ => dropUnrighted_quiet t (fun e => hj (congrArg Prod.snd e).symm) _) (rightChans_nodup _)
    (chan_mem_rightChans ch) trivial
  refine ⟨t, k, l, ?_, hbefore, hafter⟩
  rw [hsum]
  cases ch <;> rfl

theorem loseRight_effects (s : State) (z : ZoneId) (r : Right) (removed : Bool) :
    Touches ([.tenure, .activity] ++ reporting) s (s.loseRight z r removed) := by
  unfold State.loseRight
  split
  · exact foldl_touches _ (fun s ch => dropUnrighted_effects s z ch r) _ s
  · exact .refl _ s

/-! ### The rights of a port in a zone written -/

/-- The rights of a port in a zone, before TA acts on a right removed (R174). -/
def State.setRights (s : State) (q : PortId) (z : ZoneId) (rs : RightSet) : State :=
  s.modPort q fun pt => { pt with rights := pt.rights.set z rs }

/-- Whether a port loses a right in a zone by the write of its rights there (R122). -/
def State.removes (s : State) (q : PortId) (z : ZoneId) (rs : RightSet) (r : Right) : Bool := s.may q z r && !hasRight rs r

theorem writeRights_eq (s : State) (q : PortId) (z : ZoneId) (rs : RightSet) :
    s.writeRights q z rs = ((s.setRights q z rs).loseRight z .light (s.removes q z rs .light)).loseRight z .climate
      (s.removes q z rs .climate) := rfl

theorem setRights_touches (s : State) (q : PortId) (z : ZoneId) (rs : RightSet) : Touches [.rights] s (s.setRights q z rs) :=
  modPort_touches s q _

theorem setRights_rights (s : State) (q p : PortId) (x z : ZoneId) (rs : RightSet) :
    ((s.setRights q x rs).port p).rights[z] = if p = q ∧ x = z then rs else (s.port p).rights[z] := by
  rw [State.setRights, State.port_modPort]
  by_cases hp : p = q
  · subst hp
    by_cases hz : x = z
    · subst hz
      simp
    · have hval : x.val ≠ z.val := fun e => hz (Fin.ext e)
      simp [hz, hval]
  · simp [hp]

theorem writeRights_effects (s : State) (q : PortId) (z : ZoneId) (rs : RightSet) :
    Touches ([.rights, .tenure, .activity] ++ reporting) s (s.writeRights q z rs) :=
  (((setRights_touches s q z rs).mono (by decide)).then_mono (loseRight_effects _ z _ _) (by decide)).then_mono
    (loseRight_effects _ z _ _) (by decide)

theorem writeRights_rights (s : State) (q p : PortId) (z : ZoneId) (rs : RightSet) :
    ((s.writeRights q z rs).port p).rights[z] = if p = q then rs else (s.port p).rights[z] := by
  have hlost := (loseRight_effects (s.setRights q z rs) z .light (s.removes q z rs .light)).trans (loseRight_effects _ z .climate
    (s.removes q z rs .climate))
  rw [writeRights_eq, (hlost.sameRights z) p, setRights_rights]
  simp only [and_true]

/-- A write in another zone. -/
theorem writeRights_quiet (s : State) (q : PortId) (h : x ≠ z) (rs : RightSet) : QuietAt z ch 44 s (s.writeRights q x rs) := by
  have hset : QuietAt z ch 0 s (s.setRights q x rs) :=
    ⟨.of_touches (setRights_touches s q x rs), fun p => by rw [setRights_rights, if_neg fun hp => h hp.2]⟩
  exact (hset.trans (loseRight_quiet _ (.inl h))).trans (loseRight_quiet _ (.inl h))

/-- A write in the channel's zone that takes no right the channel hangs on. -/
theorem writeRights_keeps (s : State) (q : PortId) {rs : RightSet} (h : s.removes q z rs (chanRight ch) = false) :
    QuietAt z ch 44 (s.setRights q z rs) (s.writeRights q z rs) := by
  have hright : ∀ r, chanRight ch ≠ r ∨ s.removes q z rs r = false := fun r => by
    by_cases hr : chanRight ch = r
    · exact .inr (hr ▸ h)
    · exact .inl hr
  exact (loseRight_quiet _ (.inr (hright .light))).trans (loseRight_quiet _ (.inr (hright .climate)))

theorem chanRight_cases (ch : ChanKind) : chanRight ch = .light ∨ chanRight ch = .climate := by cases ch <;> decide

/-- A write in the channel's zone that takes the right the channel hangs on. -/
theorem writeRights_turn (s : State) (q : PortId) {rs : RightSet} (h : s.removes q z rs (chanRight ch) = true) :
    TurnAt z ch 44 (s.setRights q z rs) (s.writeRights q z rs) := by
  have hturn : ∀ t : State, TurnAt z ch 22 t (t.loseRight z (chanRight ch) (s.removes q z rs (chanRight ch))) := fun t =>
    h ▸ loseRight_turn t z ch
  rw [writeRights_eq]
  obtain hr | hr := chanRight_cases ch
  · have hother : chanRight ch ≠ .climate := by rw [hr]; decide
    exact (hr ▸ hturn _).before (loseRight_quiet _ (.inr (.inl hother)))
  · have hother : chanRight ch ≠ .light := by rw [hr]; decide
    exact (hr ▸ hturn _).after (loseRight_quiet _ (.inr (.inl hother)))

/-! ### The rights of a port written zone by zone -/

/-- The writes of a WRITE_AUTHORITY (R174). -/
def State.writeAuthority (s : State) (q : PortId) (zs : ZoneSet) (rs : RightSet) : State :=
  s.forZones fun z s => if inZoneSet zs z then s.writeRights q z rs else s

/-- Only the zone's own write concerns the channel. -/
theorem writeAuthority_own (s : State) (q : PortId) (zs : ZoneSet) (rs : RightSet) (z : ZoneId) (ch : ChanKind) :
    ∃ t k l, k + 44 + l = 352 ∧ QuietAt z ch k s t ∧
      QuietAt z ch l (if inZoneSet zs z then t.writeRights q z rs else t) (s.writeAuthority q zs rs) := by
  obtain ⟨k, l, t, hsum, -, hbefore, hafter⟩ := foldl_own
    (f := fun z s => if inZoneSet zs z then State.writeRights s q z rs else s) (cost := fun _ => 44)
    (I := fun _ => True) (R := QuietAt z ch) (s := s) (fun _ _ _ => trivial) (QuietAt.refl z ch) (fun _ _ _ _ _ h k => h.trans k)
    (fun x hx t _ => by
      split
      · exact writeRights_quiet t q hx rs
      · exact (QuietAt.refl z ch t).mono (Nat.zero_le _)) (List.nodup_finRange 8) (List.mem_finRange z) trivial
  exact ⟨t, k, l, hsum, hbefore, hafter⟩

theorem writeAuthority_effects (s : State) (q : PortId) (zs : ZoneSet) (rs : RightSet) :
    Touches ([.rights, .tenure, .activity] ++ reporting) s (s.writeAuthority q zs rs) :=
  foldl_keeps (fun t z => if inZoneSet zs z then t.writeRights q z rs else t) (Touches _ s)
    (fun t z ht => by
      split
      · exact ht.trans (writeRights_effects t q z rs)
      · exact ht) allZones s (.refl _ s)

/-- R174: the port's rights in the zones named become the set given. -/
theorem writeAuthority_rights (s : State) (q p : PortId) (zs : ZoneSet) (rs : RightSet) (z : ZoneId) :
    ((s.writeAuthority q zs rs).port p).rights[z] =
      if p = q ∧ inZoneSet zs z = true then rs else (s.port p).rights[z] := by
  obtain ⟨t, _, _, -, hbefore, hafter⟩ := writeAuthority_own s q zs rs z .light
  rw [hafter.rights p]
  cases hz : inZoneSet zs z
  · rw [if_neg Bool.false_ne_true, hbefore.rights p, if_neg fun h => Bool.false_ne_true h.2]
  · rw [if_pos rfl, writeRights_rights, hbefore.rights p]
    simp only [and_true]

/-- A channel of a zone not named, or that hangs on no right the port loses there, stands. -/
theorem writeAuthority_silent {q : PortId} {zs : ZoneSet} {rs : RightSet}
    (h : inZoneSet zs z = false ∨ s.removes q z rs (chanRight ch) = false) : SilentAt z ch 352 s (s.writeAuthority q zs rs) := by
  obtain ⟨t, k, l, hsum, hbefore, hafter⟩ := writeAuthority_own s q zs rs z ch
  cases hz : inZoneSet zs z
  · rw [hz, if_neg Bool.false_ne_true] at hafter
    exact (hbefore.trans hafter).toSilentAt.mono (by omega)
  · rw [hz, if_pos rfl] at hafter
    have hkept : t.removes q z rs (chanRight ch) = false := by
      rw [State.removes, hbefore.rights.may]
      exact h.resolve_left fun hnot => Bool.false_ne_true (hnot.symm.trans hz)
    exact ((hbefore.toSilentAt.trans (.of_touches (setRights_touches t q z rs))).trans
      ((writeRights_keeps t q hkept).trans hafter).toSilentAt).mono (by omega)

/-- The turn of a channel that hangs on a right the port loses. -/
theorem writeAuthority_turn {q : PortId} {zs : ZoneSet} {rs : RightSet} (hz : inZoneSet zs z = true)
    (hr : s.removes q z rs (chanRight ch) = true) : ∃ t k l, k + 11 + l = 352 ∧ SilentAt z ch k s t ∧
      QuietAt z ch l (t.dropUnrighted z ch (chanRight ch)) (s.writeAuthority q zs rs) := by
  obtain ⟨t, k, l, hsum, hbefore, hafter⟩ := writeAuthority_own s q zs rs z ch
  rw [hz, if_pos rfl] at hafter
  have hremoved : t.removes q z rs (chanRight ch) = true := by rwa [State.removes, hbefore.rights.may]
  obtain ⟨v, i, j, hturn, hset, hleft⟩ := writeRights_turn t q hremoved
  exact ⟨v, k + 0 + i, j + l, by omega,
    (hbefore.toSilentAt.trans (.of_touches (setRights_touches t q z rs))).trans hset.toSilentAt, hleft.trans hafter⟩

/-! ### The request -/

theorem authorityOf?_eq (q : PortId) {zs : Byte} (rs : RightSet) (h : zs ≠ 0) :
    authorityOf? [u1 q.val, zs, u1 rs.toNat] = some (q, zs, rs) := by
  have hrs : (u1 rs.toNat).toNat = rs.toNat := by rw [u1_toNat, Nat.mod_eq_of_lt (by omega)]
  have hbits : ¬(zs = 0 ∨ 16 ≤ rs.toNat) := not_or.mpr ⟨h, by omega⟩
  simp only [authorityOf?, portOf?_u1, hrs, if_neg hbits, BitVec.ofNat_toNat, BitVec.setWidth_eq]

theorem authorityOf?_noZone (q : PortId) (rs : RightSet) : authorityOf? [u1 q.val, 0, u1 rs.toNat] = none := by
  simp only [authorityOf?, portOf?_u1, true_or, if_true]

section

variable {p q : PortId} {zs : Byte} {rs : RightSet} {f : Frame} {rest : List Frame}

/-- The state in which a WRITE_AUTHORITY has been taken, carried out and answered (R174). -/
def State.authorityWritten (s : State) (p : PortId) (f : Frame) (rest : List Frame) (q : PortId) (zs : Byte) (rs : RightSet) :
    State :=
  let t := (s.withTaken p rest).writeAuthority q zs rs
  t.answer p f .done (t.rightsBytes q)

variable (s p f rest q zs rs) in
theorem authorityWritten_quiet (z : ZoneId) (ch : ChanKind) : QuietAt z ch 0 s (s.withTaken p rest) ∧
    QuietAt z ch 0 ((s.withTaken p rest).writeAuthority q zs rs) (s.authorityWritten p f rest q zs rs) :=
  ⟨.of_touches (withTaken_touches s p rest), .of_touches (answer_touches_tx _ p f .done _)⟩

variable (s p f rest q zs rs) in
theorem authorityWritten_rights (x : PortId) (z : ZoneId) : ((s.authorityWritten p f rest q zs rs).port x).rights[z] =
    if x = q ∧ inZoneSet zs z = true then rs else (s.port x).rights[z] := by
  obtain ⟨htaken, hanswer⟩ := authorityWritten_quiet s p q zs rs f rest z .light
  rw [hanswer.rights x, writeAuthority_rights, htaken.rights x]

theorem authorityWritten_silent (h : inZoneSet zs z = false ∨ s.removes q z rs (chanRight ch) = false) :
    SilentAt z ch 352 s (s.authorityWritten p f rest q zs rs) := by
  obtain ⟨htaken, hanswer⟩ := authorityWritten_quiet s p q zs rs f rest z ch
  have hwritten : SilentAt z ch 352 (s.withTaken p rest) _ := writeAuthority_silent (by rwa [State.removes, htaken.rights.may])
  exact ((htaken.toSilentAt.trans hwritten).trans hanswer.toSilentAt).mono (by omega)

theorem authorityWritten_rightLost (hz : inZoneSet zs z = true) (hr : s.removes q z rs (chanRight ch) = true) :
    RightLost s (s.authorityWritten p f rest q zs rs) z ch
      ((s.chan z ch).waiters.filter fun w => (s.authorityWritten p f rest q zs rs).may w z (chanRight ch)) := by
  obtain ⟨htaken, hanswer⟩ := authorityWritten_quiet s p q zs rs f rest z ch
  obtain ⟨t, k, l, hsum, hbefore, hafter⟩ := writeAuthority_turn (s := s.withTaken p rest) (rs := rs) hz
    (by rwa [State.removes, htaken.rights.may])
  exact rightLost_of_turn (htaken.toSilentAt.trans hbefore) (hafter.trans hanswer) (by unfold queueCapacity; omega)

theorem writeAuthority_row (h : NextRequest s p 0x33 f rest) : rowOf f = .writeAuthority := by simp [rowOf, h.2]

theorem writeAuthority_named (h : NextRequest s p 0x33 f rest) : namedBy f = (none, none) := by
  rw [namedBy, writeAuthority_row h]

theorem writeAuthority_answers (h : NextRequest s p 0x33 f rest) (hf : f.payload = [u1 q.val, zs, u1 rs.toNat])
    (hrole : (s.port p).role = .conservation) (hzs : zs ≠ 0) :
    exec (.writeAuthority p) s = .next ((if s.isConservation q && !hasRight rs .envelope then
      s.refusedWith p f rest .badArg none none
      else s.authorityWritten p f rest q zs rs).countRequest p) := by
  have hconservation : (s.withTaken p rest).isConservation q = s.isConservation q :=
    congrArg (· == Role.conservation) (withTaken_port_role s p q rest)
  show Host.Outcome.next (s.serve p _ _) = _
  rw [h.serve (writeAuthority_row h), withTaken_asSystem hrole, hf, authorityOf?_eq q rs hzs]
  simp only [State.withArg, hconservation, refuse_withTaken, writeAuthority_named h]
  rfl

theorem writeAuthority_refusesNoZone (h : NextRequest s p 0x33 f rest) (hf : f.payload = [u1 q.val, 0, u1 rs.toNat])
    (hrole : (s.port p).role = .conservation) :
    exec (.writeAuthority p) s = .next ((s.refusedWith p f rest .badArg none none).countRequest p) := by
  show Host.Outcome.next (s.serve p _ _) = _
  rw [h.serve (writeAuthority_row h), withTaken_asSystem hrole, hf, authorityOf?_noZone, State.withArg, refuse_withTaken,
    writeAuthority_named h]

end

end

end Sys2Proof.Machine

open Sys2Proof Sys2Proof.Machine

set_option Elab.async false

/-- Settles O39: seen from a channel, the write is quiet but for the turn, if it has one, at which its tenure record is gone through
with the rights as they are afterwards. -/
theorem writeAuthorityActsOnTenure : Obligations.WriteAuthorityActsOnTenure := by
  intro s p q zs rs f rest hnext hf hrole
  refine ⟨fun hzs henvelope => ?written, fun hbad => ?refused⟩
  case written =>
    have hpass : (s.isConservation q && !hasRight rs .envelope) = false := by
      cases hconservation : s.isConservation q
      · rfl
      · rw [henvelope (beq_iff_eq.mp hconservation)]
        rfl
    have hexec := writeAuthority_answers hnext hf hrole hzs
    rw [hpass, if_neg Bool.false_ne_true] at hexec
    have hwrites := writeAuthority_effects (s.withTaken p rest) q zs rs
    refine ⟨_, hexec, fun z => ?_, fun x hx => Vector.ext fun i hi => ?_, fun z ch hstands => ?_, fun z ch hz hhad hlost => ?_,
      ?_, (hwrites.answered f .done _).mono (by decide)⟩
    · rw [authorityWritten_rights]
      simp only [true_and, inZoneSet]
    · exact (authorityWritten_rights s p q zs rs f rest x ⟨i, hi⟩).trans (if_neg fun h => hx h.1)
    · have hsilent : SilentAt z ch 352 s (s.authorityWritten p f rest q zs rs) := authorityWritten_silent <| by
        rw [State.removes, Bool.and_eq_false_iff, Bool.not_eq_false']
        exact hstands
      exact ⟨hsilent.chan, hsilent.logs.recordsOf (by decide)⟩
    · have hrightLost := authorityWritten_rightLost (p := p) (f := f) (rest := rest) hz
        (by rw [State.removes, hhad, hlost]; rfl)
      have hnot : (s.authorityWritten p f rest q zs rs).may q z (chanRight ch) = false := by
        rw [State.may, authorityWritten_rights, if_pos ⟨rfl, hz⟩, hlost]
      obtain ⟨hholder, hwaiters⟩ := hrightLost.left_out hnot
      exact ⟨hholder, hwaiters, hrightLost⟩
    · have hbytes : ((List.finRange 8).map fun z : ZoneId => u1 ((s.authorityWritten p f rest q zs rs).port q).rights[z].toNat) =
          ((s.withTaken p rest).writeAuthority q zs rs).rightsBytes q := List.map_congr_left fun z _ =>
        congrArg (fun r : RightSet => u1 r.toNat) ((authorityWritten_quiet s p q zs rs f rest z .light).2.rights q)
      rw [hbytes]
      exact hwrites.accepted f .done _
  case refused =>
    obtain hnone | ⟨hconservation, henvelope⟩ := hbad
    · exact writeAuthority_refusesNoZone hnext (hnone ▸ hf) hrole
    · by_cases hzs : zs = 0
      · exact writeAuthority_refusesNoZone hnext (hzs ▸ hf) hrole
      · have hrefused : (s.isConservation q && !hasRight rs .envelope) = true := by
          rw [State.isConservation, hconservation, henvelope]
          rfl
        rw [writeAuthority_answers hnext hf hrole hzs, hrefused, if_pos rfl]

end

section
/-! ## One kind's excursion opened, tracked or closed (R133 to R135) -/

namespace Sys2Proof.Machine

open Sys2Proof

set_option Elab.async false

/-- The override of a zone once the parts of the excursions that closed have ended (R141). -/
def Zone.partsLeft (before after : Zone) : Override :=
  { light := if (before.exc .lux).isSome ∧ after.exc .lux = none then none else before.ovr.light
    shadeLux := if (before.exc .lux).isSome ∧ after.exc .lux = none then none else before.ovr.shadeLux
    shadeUv := if (before.exc .uv).isSome ∧ after.exc .uv = none then none else before.ovr.shadeUv }

theorem Touches.zoneSets {F : List Part} {s t : State} (h : Touches F s t) (p : PortId) (hF : Part.settings ∉ F := by decide) :
    (t.port p).zoneSet = (s.port p).zoneSet := by
  have hp := congrFun (h .settings hF) p
  simp only [State.part, Prod.mk.injEq] at hp
  exact hp.2.1

theorem excursionRecord_self (now : GTime) (z : ZoneId) (reason : CloseReason) (k : ExcKind) (e : Option Excursion) :
    excursionRecord now z reason k e e = [] := by
  cases e <;> rfl

theorem totalSize_excursionRecord (now : GTime) (z : ZoneId) (reason : CloseReason) (k : ExcKind)
    (before after : Option Excursion) : totalSize (excursionRecord now z reason k before after) ≤ 21 := by
  cases before <;> cases after <;> simp [excursionRecord, totalSize, recordSize]

/-- The excursion of the kind `k` has become `after`, with what is reported of it, and the rest of the zone's detection stands. -/
structure Becomes (z : ZoneId) (k : ExcKind) (after : Option Excursion) (s t : State) : Prop where
  inZone    : InZone z ([.det, .ovr] ++ reporting) s t
  exc       : ∀ j, (t.zone z).exc j = if j = k then after else (s.zone z).exc j
  samples   : (t.zone z).det.luxPending = (s.zone z).det.luxPending ∧ (t.zone z).det.uvFirst = (s.zone z).det.uvFirst
  ovr       : (t.zone z).ovr = if ((s.zone z).exc k).isSome ∧ after = none then (s.zone z).ovr.endWith k else (s.zone z).ovr
  logs      : Logs s t (excursionRecord s.clock z .returned k ((s.zone z).exc k) after)
  attention : ∀ p, hasAttn (t.port p).attn .excursion = true ↔ hasAttn (s.port p).attn .excursion = true ∨
    ((s.port p).zoneSet.getLsbD z.val = true ∧ ((s.zone z).exc k).isSome ≠ after.isSome)

section

variable {s : State} {z : ZoneId} {k : ExcKind}

/-- A test that leaves the excursion as it is. -/
theorem becomes_self {after : Option Excursion} (h : (s.zone z).exc k = after) : Becomes z k after s s := by
  subst h
  refine ⟨.refl z _ s, fun j => ?_, ⟨rfl, rfl⟩, ?_, ?_, fun p => by simp⟩
  · split
    · next hj => rw [hj]
    · rfl
  · rw [if_neg fun h => by simp [h.2] at h]
  · rw [excursionRecord_self]
    exact .refl s

/-- R133: an excursion that stays open reports nothing. -/
theorem setExc_becomes {e : Excursion} (h : (s.zone z).exc k = some e) (e' : Excursion) :
    Becomes z k (some e') s (s.setExc z k (some e')) := by
  obtain ⟨hexc, hsamples⟩ := setExc_det s z k (some e')
  refine ⟨(InZone.of_modZone (setExc_touches s z k _)).mono (by decide), hexc, hsamples, ?_, ?_,
    fun p => by simp [h, State.setExc]⟩
  · rw [if_neg (by simp)]
    exact (setExc_touches s z k _).zoneOvr z
  · rw [h]
    exact .of_same rfl rfl

theorem openExc_eq (s : State) (z : ZoneId) (k : ExcKind) (e : Excursion) :
    s.openExc z k e = ((s.setExc z k (some e)).offer (.excursionOpen z k e.side e.start)).pendZone z .excursion := rfl

/-- What an offered record and the EXCURSION bit that goes with it make pending (R134, R135). -/
theorem excursion_reported (s : State) (z : ZoneId) (r : Record) (p : PortId) :
    hasAttn (((s.offer r).pendZone z .excursion).port p).attn .excursion =
      (hasAttn (s.port p).attn .excursion || inZoneSet (s.port p).zoneSet z) := by
  rw [State.pendZone, hasAttn_pendWhere, (offer_raises s r p).others .excursion (by decide), ((offer_reported s r).2 p).zoneSet]
  rfl

theorem excursion_logs (s : State) (z : ZoneId) (r : Record) : Logs s ((s.offer r).pendZone z .excursion) [r] :=
  (Logs.offer s r).trans (.of_same (pendWhere_raises _ _ _).anySubscribed (pendWhere_records _ _ _))

theorem excursion_signalled (s : State) (z : ZoneId) (r : Record) : Signalled s ((s.offer r).pendZone z .excursion) :=
  (offer_signalled s r).trans (pendWhere_signalled _ _ _)

/-- R134: an opening is recorded, and makes EXCURSION pending. -/
theorem openExc_becomes (h : (s.zone z).exc k = none) (e : Excursion) : Becomes z k (some e) s (s.openExc z k e) := by
  obtain ⟨hexc, hsamples⟩ := setExc_det s z k (some e)
  have hset : Touches [.det] s (s.setExc z k (some e)) := setExc_touches s z k _
  have hreport := excursion_signalled (s.setExc z k (some e)) z (.excursionOpen z k e.side e.start)
  have hzone := hreport.reported.zone z
  rw [← openExc_eq] at hreport hzone
  refine ⟨((InZone.of_modZone hset).mono (by decide)).then_mono (hreport.inZone z) (by decide), fun j => ?_, ?_, ?_, ?_,
    fun p => ?_⟩
  · rw [hzone, hexc]
  · rw [hzone]
    exact hsamples
  · rw [hzone, if_neg (by simp)]
    exact hset.zoneOvr z
  · rw [h]
    exact (Logs.of_same rfl rfl : Logs s (s.setExc z k (some e)) []).trans (excursion_logs _ z _)
  · rw [openExc_eq, excursion_reported, Bool.or_eq_true, h]
    simp [State.setExc, inZoneSet]

/-- R135, R141: a close ends its override parts, is recorded, and makes EXCURSION pending. -/
theorem closeExc_becomes (s : State) (z : ZoneId) (k : ExcKind) : Becomes z k none s (s.closeExc z k .returned) := by
  cases h : (s.zone z).exc k with
  | none =>
    rw [closeExc_absent h]
    exact becomes_self h
  | some e =>
    obtain ⟨hexc, hsamples⟩ := closeExc_det s z k .returned
    refine ⟨closeExc_inZone s z k _, hexc, hsamples, ?_, ?_, fun p => ?_⟩
    · simp only [h, Option.isSome_some, and_self, if_true, State.closeExc]
      rw [(excursion_signalled _ z _).reported.zone z, (setExc_touches _ z k none).zoneOvr z, State.zone_modZone_self]
    · simp only [h, State.closeExc]
      have hset : Logs s ((s.modZone z fun zn => { zn with ovr := zn.ovr.endWith k }).setExc z k none) [] := .of_same rfl rfl
      exact hset.trans (excursion_logs _ z _)
    · rw [closeExc_attention, h, Bool.or_eq_true, Bool.and_eq_true]
      simp [inZoneSet]

end

/-! ### The tests of several kinds, one after the other -/

/-- What tests of the kinds `ks` leave: excursions of other kinds stand, closed ones have no part in the override, and openings and
closes are reported in the order of the kinds. -/
structure Watched (z : ZoneId) (ks : List ExcKind) (s t : State) : Prop where
  inZone    : InZone z ([.det, .ovr] ++ reporting) s t
  others    : ∀ k, k ∉ ks → (t.zone z).exc k = (s.zone z).exc k
  ovr       : (t.zone z).ovr = (s.zone z).partsLeft (t.zone z)
  logs      : Logs s t (ks.flatMap fun k => excursionRecord s.clock z .returned k ((s.zone z).exc k) ((t.zone z).exc k))
  attention : ∀ p, hasAttn (t.port p).attn .excursion = true ↔ hasAttn (s.port p).attn .excursion = true ∨
    ((s.port p).zoneSet.getLsbD z.val = true ∧ ∃ k ∈ ks, ((s.zone z).exc k).isSome ≠ ((t.zone z).exc k).isSome)

theorem partsLeft_of_becomes {a b : Zone} {k : ExcKind} {after : Option Excursion}
    (hexc : ∀ j, b.exc j = if j = k then after else a.exc j) :
    a.partsLeft b = if (a.exc k).isSome ∧ after = none then a.ovr.endWith k else a.ovr := by
  have hstands : ∀ j, ¬ ((a.exc j).isSome ∧ a.exc j = none) := fun j h => by simp [h.2] at h
  unfold Zone.partsLeft
  simp only [hexc]
  cases k <;> simp only [reduceCtorEq, if_false, if_true, hstands] <;> split <;> rfl

theorem Becomes.watched {z : ZoneId} {k : ExcKind} {after : Option Excursion} {s t : State} (h : Becomes z k after s t) :
    Watched z [k] s t := by
  have hk : (t.zone z).exc k = after := (h.exc k).trans (if_pos rfl)
  refine ⟨h.inZone, fun j hj => (h.exc j).trans (if_neg (List.ne_of_not_mem_cons hj)), ?_, ?_, fun p => ?_⟩
  · rw [h.ovr, partsLeft_of_becomes h.exc]
  · rw [List.flatMap_singleton, hk]
    exact h.logs
  · simp only [List.mem_singleton, exists_eq_left, hk]
    exact h.attention p

namespace Watched

variable {z : ZoneId} {ks ks' : List ExcKind} {s t u : State}

theorem refl (z : ZoneId) (s : State) : Watched z [] s s :=
  ⟨.refl z _ s, fun _ _ => rfl, (becomes_self (k := .tBand) rfl).watched.ovr, .refl s, fun p => by simp⟩

/-- A change of a zone's pending light samples alone: nothing is reported, and no excursion moves. -/
theorem of_pending {f : Zone → Zone} (hf : Touches [.det] s (s.modZone z f))
    (hexc : ∀ k, (f (s.zone z)).exc k = (s.zone z).exc k) : Watched z [] s (s.modZone z f) := by
  have hzone : ∀ k, ((s.modZone z f).zone z).exc k = (s.zone z).exc k := fun k => by rw [State.zone_modZone_self, hexc]
  refine ⟨(InZone.of_modZone hf).mono (by decide), fun k _ => hzone k, ?_, .of_same rfl rfl, fun p => by simp⟩
  rw [hf.zoneOvr z, (Watched.refl z s).ovr]
  simp only [Zone.partsLeft, hzone]

theorem partsLeft_trans {a b c : Zone} (hstands : ∀ k, b.exc k = a.exc k ∨ c.exc k = b.exc k) (hb : b.ovr = a.partsLeft b) :
    b.partsLeft c = a.partsLeft c := by
  have hl := hstands .lux
  have hu := hstands .uv
  simp only [Zone.partsLeft] at hb ⊢
  rw [hb]
  grind

/-- Tests of different kinds follow one another. -/
theorem trans (h : Watched z ks s t) (k : Watched z ks' t u) (hd : ∀ k ∈ ks, k ∉ ks' := by decide) :
    Watched z (ks ++ ks') s u := by
  have hbefore : ∀ j ∈ ks', (t.zone z).exc j = (s.zone z).exc j := fun j hj => h.others j fun hk => hd j hk hj
  have hafter : ∀ j ∈ ks, (u.zone z).exc j = (t.zone z).exc j := fun j hj => k.others j (hd j hj)
  have hclock : t.clock = s.clock := h.inZone.touches .clock (by decide)
  refine ⟨h.inZone.trans k.inZone, fun j hj => ?_, ?_, ?_, fun p => ?_⟩
  · rw [List.mem_append, not_or] at hj
    exact (k.others j hj.2).trans (h.others j hj.1)
  · rw [k.ovr]
    refine partsLeft_trans (fun j => ?_) h.ovr
    by_cases hj : j ∈ ks
    · exact .inr (hafter j hj)
    · exact .inl (h.others j hj)
  · have hlogs := h.logs.trans k.logs
    have hfirst : (ks.flatMap fun j => excursionRecord s.clock z .returned j ((s.zone z).exc j) ((u.zone z).exc j)) =
        ks.flatMap fun j => excursionRecord s.clock z .returned j ((s.zone z).exc j) ((t.zone z).exc j) :=
      List.flatMap_congr fun j hj => by rw [hafter j hj]
    have hthen : (ks'.flatMap fun j => excursionRecord s.clock z .returned j ((s.zone z).exc j) ((u.zone z).exc j)) =
        ks'.flatMap fun j => excursionRecord t.clock z .returned j ((t.zone z).exc j) ((u.zone z).exc j) :=
      List.flatMap_congr fun j hj => by rw [hbefore j hj, hclock]
    rw [List.flatMap_append, hfirst, hthen]
    exact hlogs
  · rw [k.attention, h.attention, h.inZone.touches.zoneSets, or_assoc, ← and_or_left]
    simp only [List.mem_append, or_and_right, exists_or]
    refine or_congr_right (and_congr_right fun _ => or_congr ?_ ?_)
    · exact exists_congr fun j => and_congr_right fun hj => by rw [hafter j hj]
    · exact exists_congr fun j => and_congr_right fun hj => by rw [hbefore j hj]

/-- The reports of at most six tests all find room in the queue (R159, R160). -/
theorem reported (h : Watched z ks s t) (hlen : ks.length ≤ 6 := by decide) : ExcursionsReported s t z ks .returned := by
  have hsize : ∀ ks : List ExcKind, totalSize (ks.flatMap fun k =>
      excursionRecord s.clock z .returned k ((s.zone z).exc k) ((t.zone z).exc k)) ≤ 21 * ks.length := fun ks => by
    induction ks with
    | nil => exact Nat.le_refl 0
    | cons k ks ih =>
      have hk := totalSize_excursionRecord s.clock z .returned k ((s.zone z).exc k) ((t.zone z).exc k)
      rw [List.flatMap_cons, totalSize_append, List.length_cons]
      omega
  have hks := hsize ks
  exact ⟨h.logs.reportsAll (by unfold queueCapacity; omega), h.attention⟩

end Watched

end Sys2Proof.Machine
end

section
/-! ## The tests at a climate output (R127, R128) -/

namespace Sys2Proof.Machine

open Sys2Proof

set_option Elab.async false

/-- The test of one climate kind: `P` relates the excursion before to the one after, and the light kinds' samples stand. -/
structure KindTested (z : ZoneId) (k : ExcKind) (P : Option Excursion → Option Excursion → Prop) (s t : State) : Prop where
  watched : Watched z [k] s t
  tested  : P ((s.zone z).exc k) ((t.zone z).exc k)
  samples : (t.zone z).det.luxPending = (s.zone z).det.luxPending ∧ (t.zone z).det.uvFirst = (s.zone z).det.uvFirst

theorem Becomes.kindTested {z : ZoneId} {k : ExcKind} {after : Option Excursion} {s t : State}
    {P : Option Excursion → Option Excursion → Prop} (h : Becomes z k after s t) (hP : P ((s.zone z).exc k) after) :
    KindTested z k P s t :=
  ⟨h.watched, by rwa [h.exc, if_pos rfl], h.samples⟩

section

variable {now : GTime} {opens closes : Prop} {amount : Nat} {side : Side} {before after : Option Excursion}

/-- A test of a kind with no excursion open is right if it opens one when it should. -/
theorem Tested.of_absent (h : before = none)
    (hopens : opens → after = some { start := now, side := side, peak := amount, peakTime := now })
    (hquiet : ¬ opens → after = none) : Tested now opens closes amount side before after :=
  ⟨fun _ => hopens, fun _ => hquiet, fun e he => by simp [h] at he, fun e he => by simp [h] at he⟩

/-- A test of a kind with an excursion open is right if it closes it when it should. -/
theorem Tested.of_open {e : Excursion} (h : before = some e) (hcloses : closes → after = none)
    (hkeeps : ¬ closes → after = some (e.tracked now amount side)) : Tested now opens closes amount side before after :=
  ⟨fun hn => by simp [h] at hn, fun hn => by simp [h] at hn, fun x _ => hcloses, fun x hx => by
    cases h.symm.trans hx
    exact hkeeps⟩

end

/-- The side and the amount of R133 are those of the test of R127. -/
theorem beyondBand_eq (lo hi v : Int) : beyondBand lo hi v =
    if v < lo ∨ hi < v then some (if v < lo then .low else .high, if v < lo then (lo - v).toNat else (v - hi).toNat)
    else none := by
  unfold beyondBand
  split
  · next hlow => rw [if_pos (.inl hlow)]
  · next hlow => simp only [hlow, false_or]

/-- The margin that R127 gives a band kind at most. -/
def bandMost (k : ExcKind) : Int := if k = .tBand then 20 else 100

theorem testBand_tested (s : State) (z : ZoneId) (k : ExcKind) (lo hi v : Int) :
    KindTested z k (BandTested s.clock (bandMost k) lo hi v) s (s.testBand z k lo hi v) := by
  unfold State.testBand
  rw [beyondBand_eq]
  cases h : (s.zone z).exc k with
  | none =>
    by_cases hbeyond : v < lo ∨ hi < v
    · rw [if_pos hbeyond]
      exact (openExc_becomes h _).kindTested (.of_absent h (fun _ => rfl) (absurd hbeyond))
    · rw [if_neg hbeyond]
      exact (becomes_self h).kindTested (.of_absent h (fun hb => absurd hb hbeyond) fun _ => rfl)
  | some e =>
    dsimp only
    split
    · next hcloses => exact (closeExc_becomes s z k).kindTested (.of_open h (fun _ => rfl) (absurd hcloses))
    · next hkeeps =>
      by_cases hbeyond : v < lo ∨ hi < v
      · rw [if_pos hbeyond]
        exact (setExc_becomes h _).kindTested (.of_open h (fun hc => absurd hc hkeeps) fun _ => rfl)
      · rw [if_neg hbeyond]
        refine (becomes_self h).kindTested (.of_open h (fun hc => absurd hc hkeeps) fun _ => ?_)
        have hamount : (if v < lo then (lo - v).toNat else (v - hi).toNat) = 0 := by
          split <;> omega
        rw [hamount, Excursion.tracked, if_neg (Nat.not_lt_zero _)]

theorem testSwing_tested (s : State) (z : ZoneId) (k : ExcKind) (swing limit : Int) :
    KindTested z k (SwingTested s.clock (swingMargin k) limit swing) s (s.testSwing false z k swing limit) := by
  unfold State.testSwing
  cases h : (s.zone z).exc k with
  | none =>
    by_cases hwide : limit < swing
    · rw [if_pos ⟨hwide, rfl⟩]
      exact (openExc_becomes h _).kindTested (.of_absent h (fun _ => rfl) (absurd hwide))
    · rw [if_neg fun hopens => hwide hopens.1]
      exact (becomes_self h).kindTested (.of_absent h (fun hw => absurd hw hwide) fun _ => rfl)
  | some e =>
    dsimp only
    split
    · next hcloses => exact (closeExc_becomes s z k).kindTested (.of_open h (fun _ => rfl) (absurd hcloses))
    · next hkeeps => exact (setExc_becomes h _).kindTested (.of_open h (fun hc => absurd hc hkeeps) fun _ => rfl)

/-- R18: RH_BAND is tested outside CONFLICT. -/
def RhBandTested (now : GTime) (conflict : Bool) (lo hi v : Int) (before after : Option Excursion) : Prop :=
  (conflict = false → BandTested now 100 lo hi v before after) ∧ (conflict = true → after = before)

theorem testRhBand_tested (s : State) (z : ZoneId) (conflict : Bool) (lo hi v : Int) :
    KindTested z .rhBand (RhBandTested s.clock conflict lo hi v) s (if conflict then s else s.testBand z .rhBand lo hi v) := by
  cases conflict with
  | true => exact (becomes_self rfl).kindTested ⟨fun h => absurd h (by decide), fun _ => rfl⟩
  | false =>
    obtain ⟨hwatched, htested, hsamples⟩ := testBand_tested s z .rhBand lo hi v
    exact ⟨hwatched, ⟨fun _ => htested, fun h => absurd h (by decide)⟩, hsamples⟩

/-- What a climate output's tests leave of a zone, from its filtered values and the extremes of its ring (R127, R128, R136). -/
structure ClimateTested (z : ZoneId) (ft frh : Int) (x : Slot) (s t : State) : Prop where
  watched : Watched z [.tBand, .rhBand, .tSwing, .rhSwing] s t
  tBand   : BandTested s.clock 20 (s.zone z).eff.tLo (s.zone z).eff.tHi ft ((s.zone z).exc .tBand) ((t.zone z).exc .tBand)
  rhBand  : RhBandTested s.clock (s.zone z).conflict (s.zone z).eff.rhLo (s.zone z).eff.rhHi frh ((s.zone z).exc .rhBand)
    ((t.zone z).exc .rhBand)
  tSwing  : SwingTested s.clock 20 (s.zone z).eff.tSwing (x.tMax - x.tMin) ((s.zone z).exc .tSwing) ((t.zone z).exc .tSwing)
  rhSwing : SwingTested s.clock 100 (s.zone z).eff.rhSwing (x.rhMax - x.rhMin) ((s.zone z).exc .rhSwing) ((t.zone z).exc .rhSwing)
  samples : (t.zone z).det.luxPending = (s.zone z).det.luxPending ∧ (t.zone z).det.uvFirst = (s.zone z).det.uvFirst

/-- A test that comes between others of other kinds is one from the first state to the last. -/
theorem KindTested.between {z : ZoneId} {k : ExcKind} {P : Option Excursion → Option Excursion → Prop} {ks ks' : List ExcKind}
    {s t u v : State} (h : KindTested z k P t u) (hbefore : Watched z ks s t) (hafter : Watched z ks' u v)
    (hks : k ∉ ks := by decide) (hks' : k ∉ ks' := by decide) : P ((s.zone z).exc k) ((v.zone z).exc k) := by
  have htested := h.tested
  rwa [hbefore.others k hks, ← hafter.others k hks'] at htested

/-- The tests of a zone that is ON, with a usable estimate (R136). -/
theorem testClimate_tested {s : State} {z : ZoneId} {ft frh : Int} {x : Slot} (huse : (s.zone z).cfg.use = true)
    (husable : s.usable z = true) (hfilt : (s.zone z).est.filt = some (ft, frh)) (hx : (s.zone z).est.extremes = some x) :
    ClimateTested z ft frh x s (s.testClimate z) := by
  have h1 := testBand_tested s z .tBand (s.zone z).eff.tLo (s.zone z).eff.tHi ft
  unfold State.testClimate
  simp only [huse, husable, Bool.and_self, if_true, hfilt]
  generalize s.testBand z .tBand (s.zone z).eff.tLo (s.zone z).eff.tHi ft = t1 at h1 ⊢
  have hd1 := h1.watched.inZone.touches
  have h2 := testRhBand_tested t1 z (t1.zone z).conflict (s.zone z).eff.rhLo (s.zone z).eff.rhHi frh
  generalize (if (t1.zone z).conflict = true then t1 else _) = t2 at h2 ⊢
  have h12 := h1.watched.trans h2.watched
  have hd2 := h12.inZone.touches
  unfold State.testSwings
  simp only [hd2.zoneEst z, hx, hd2.zoneEff z]
  have h3 := testSwing_tested t2 z .tSwing (x.tMax - x.tMin) (s.zone z).eff.tSwing
  generalize t2.testSwing false z .tSwing (x.tMax - x.tMin) (s.zone z).eff.tSwing = t3 at h3 ⊢
  have h123 := h12.trans h3.watched
  have h4 := testSwing_tested t3 z .rhSwing (x.rhMax - x.rhMin) (s.zone z).eff.rhSwing
  generalize t3.testSwing false z .rhSwing (x.rhMax - x.rhMin) (s.zone z).eff.rhSwing = t4 at h4 ⊢
  have hclock1 : t1.clock = s.clock := hd1 .clock (by decide)
  have hclock2 : t2.clock = s.clock := hd2 .clock (by decide)
  have hclock3 : t3.clock = s.clock := h123.inZone.touches .clock (by decide)
  rw [hclock1, hd1.zoneConflict z] at h2
  rw [hclock2] at h3
  rw [hclock3] at h4
  exact ⟨h123.trans h4.watched, h1.between (.refl z s) ((h2.watched.trans h3.watched).trans h4.watched),
    h2.between h1.watched (h3.watched.trans h4.watched), h3.between h12 h4.watched, h4.between h123 (.refl z t4),
    h4.samples.1.trans (h3.samples.1.trans (h2.samples.1.trans h1.samples.1)),
    h4.samples.2.trans (h3.samples.2.trans (h2.samples.2.trans h1.samples.2))⟩

end Sys2Proof.Machine
end

section
/-! ## A good reply to a READ, up to the values' way to the zone (R144, R148) -/

namespace Sys2Proof.Machine

open Sys2Proof

set_option Elab.async false

/-- The state once a good reply has ended a READ of the node: the loop is free, and the node's record is as R148 has it. -/
def State.readAnswered (s : State) (n : NodeId) : State :=
  (({ s with txn := none }.modNode n fun nd => { nd with misses := 0 }).setNodeState n .fresh).rescheduleRead n

/-- What the end of a READ touches before its values reach the zone. -/
abbrev readParts : List Part := [.txn, .nodes] ++ reporting

/-- A change of a node's state, with its record, its NODE bits and no zone told of it (R149). -/
theorem nodeState_noted {s u : State} {n : NodeId} {st : NodeState}
    (hu : Signalled (s.modNode n fun nd => { nd with state := st }) u)
    (hraises : Raises [.watermark, .watchMatch] (s.modNode n fun nd => { nd with state := st }) u) (test : Port → Bool) :
    Touches (.nodes :: reporting) s (u.pendWhere .node test) ∧
      Raises [.watermark, .watchMatch, .node] s (u.pendWhere .node test) ∧ ((u.pendWhere .node test).node n).state = st := by
  have hsignalled := hu.trans (pendWhere_signalled u .node test)
  have hset : Touches (.nodes :: reporting) s (s.modNode n fun nd => { nd with state := st }) :=
    (modNode_touches s n _).mono (by decide)
  have hports : Raises [.watermark, .watchMatch, .node] s (s.modNode n fun nd => { nd with state := st }) := .of_ports _ rfl
  refine ⟨hset.then_mono hsignalled.touches (by decide), ?_, ?_⟩
  · exact (hports.then_mono hraises (by decide)).then_mono (pendWhere_raises u .node test) (by decide)
  · rw [hsignalled.reported.node, State.node_modNode_self]

/-- A sensor that becomes FRESH is reported, and no zone is told of it (R149). -/
theorem setNodeState_fresh (s : State) (n : NodeId) : Touches (.nodes :: reporting) s (s.setNodeState n .fresh) ∧
    Raises [.watermark, .watchMatch, .node] s (s.setNodeState n .fresh) ∧ ((s.setNodeState n .fresh).node n).state = .fresh := by
  have hlive : ¬ (NodeState.fresh = .stale ∨ NodeState.fresh = .absent) := by decide
  unfold State.setNodeState
  dsimp only
  rw [if_neg hlive]
  split
  · next hfresh => exact ⟨.refl _ s, .refl _ s, hfresh⟩
  · split
    · exact nodeState_noted (offer_signalled _ _) (offer_raises _ _) _
    · exact nodeState_noted (offer_signalled _ _) (offer_raises _ _) _

theorem rescheduleRead_state (s : State) (n : NodeId) : ((s.rescheduleRead n).node n).state = (s.node n).state := by
  unfold State.rescheduleRead
  dsimp only
  split
  · rfl
  · rw [State.setDue, State.node_modNode_self]

theorem rescheduleRead_ports (s : State) (n : NodeId) : (s.rescheduleRead n).ports = s.ports := by
  unfold State.rescheduleRead
  dsimp only
  split <;> rfl

section

variable (s : State) (n : NodeId)

theorem readAnswered_touches : Touches readParts s (s.readAnswered n) := by
  have hfree : Touches readParts s ({ s with txn := none }.modNode n fun nd => { nd with misses := 0 }) :=
    ((txn_touches s none).mono (by decide)).then_mono (modNode_touches _ n _) (by decide)
  exact (hfree.then_mono (setNodeState_fresh _ n).1 (by decide)).then_mono (rescheduleRead_touches _ n) (by decide)

theorem readAnswered_raises : Raises [.watermark, .watchMatch, .node] s (s.readAnswered n) := by
  have hfree : Raises [.watermark, .watchMatch, .node] s ({ s with txn := none }.modNode n fun nd => { nd with misses := 0 }) :=
    .of_ports _ rfl
  exact (hfree.trans (setNodeState_fresh _ n).2.1).trans (.of_ports _ (rescheduleRead_ports _ n))

theorem readAnswered_fresh : ((s.readAnswered n).node n).state = .fresh :=
  (rescheduleRead_state _ n).trans (setNodeState_fresh _ n).2.2

end

/-! ### Bindings -/

theorem Touches.boundAt {F : List Part} {s t : State} (h : Touches F s t) (n : NodeId) (hF : Part.cfg ∉ F := by decide) :
    t.boundAt n = s.boundAt n := by
  unfold State.boundAt
  exact congrArg (allZones.findSome? ·) (funext fun z => by rw [h.zoneCfg z hF])

theorem climateNode_of_boundAt {s : State} {n : NodeId} {z : ZoneId} (h : s.boundAt n = some (z, 2)) :
    (s.zone z).cfg.climateNode = some n := by
  obtain ⟨x, -, hx⟩ := List.exists_of_findSome?_eq_some h
  obtain ⟨j, hj, heq⟩ := Option.map_eq_some_iff.mp hx
  cases heq
  unfold ZoneRec.fieldOf at hj
  grind

/-! ### The frame -/

theorem replyData_replyFrame (n : NodeId) (op : LoopOp) (kind : NodeKind) (data : List Byte) :
    replyData n op kind (replyFrame n data) = replyBody n op kind (u1 (n.val + 1 + 0x80) :: 0 :: data) := by
  have hframe : replyFrame n data = (u1 (n.val + 1 + 0x80) :: 0 :: data) ++ [u1 (crc8 (u1 (n.val + 1 + 0x80) :: 0 :: data))] := rfl
  rw [replyData, hframe, List.getLast?_concat, List.dropLast_concat]
  exact if_pos rfl

theorem replyBody_climate (n : NodeId) {T : Int} {rh : Nat} (hlo : -4000 ≤ T) (hhi : T ≤ 8500) (hrh : rh < 0x10000) :
    replyBody n .read .climateSensor (u1 (n.val + 1 + 0x80) :: 0 :: (s2 T ++ u2 rh)) = some (.climate T rh) := by
  have hT : s16 (u1 ((T % 0x10000).toNat / 0x100)) (u1 (T % 0x10000).toNat) = T := s16_bytes (by omega) (by omega)
  simp only [s2, u2, List.cons_append, List.nil_append, replyBody, hT, u16_bytes hrh, nodeAddr, and_self, if_true, hlo, hhi]

theorem replyBody_light (n : NodeId) {e uv : Nat} (he : e < 0x10000) (huv : uv < 0x10000) :
    replyBody n .read .lightSensor (u1 (n.val + 1 + 0x80) :: 0 :: (u2 e ++ u2 uv)) = some (.light e uv) := by
  simp only [u2, List.cons_append, List.nil_append, replyBody, u16_bytes he, u16_bytes huv, nodeAddr, and_self, if_true]

section

variable {s : State} {n : NodeId} {value : Int} {z : ZoneId}
  (htxn : s.txn = some { node := n, op := .read, value := value, abandoned := false })

include htxn

theorem exec_loopReply_read (data : List Byte) : exec (.loopReply (replyFrame n data)) s =
    .next ({ s with txn := none }.endRead n (replyBody n .read (s.node n).kind (u1 (n.val + 1 + 0x80) :: 0 :: data))) := by
  show execLoopReply _ s = _
  simp only [execLoopReply, htxn, replyData_replyFrame]
  rfl

/-- R21: the values of a good climate reply reach the zone that binds the sensor. -/
theorem exec_climateReply (hkind : (s.node n).kind = .climateSensor) (hbound : s.boundAt n = some (z, 2)) {T : Int} {rh : Nat}
    (hlo : -4000 ≤ T) (hhi : T ≤ 8500) (hrh : rh < 0x10000) :
    exec (.loopReply (replyFrame n (s2 T ++ u2 rh))) s = .next ((s.readAnswered n).climateSample z T rh) := by
  have hzone := ((readAnswered_touches s n).boundAt n).trans hbound
  rw [exec_loopReply_read htxn, hkind, replyBody_climate n hlo hhi hrh]
  unfold State.readAnswered at hzone ⊢
  simp only [State.endRead, hzone]

/-- R30: the values of a good light reply reach the zone that binds the sensor. -/
theorem exec_lightReply (hkind : (s.node n).kind = .lightSensor) (hbound : s.boundAt n = some (z, 3)) {e uv : Nat}
    (he : e < 0x10000) (huv : uv < 0x10000) :
    exec (.loopReply (replyFrame n (u2 e ++ u2 uv))) s = .next ((s.readAnswered n).lightSample z e uv) := by
  have hzone := ((readAnswered_touches s n).boundAt n).trans hbound
  rw [exec_loopReply_read htxn, hkind, replyBody_light n he huv]
  unfold State.readAnswered at hzone ⊢
  simp only [State.endRead, hzone]

end

end Sys2Proof.Machine
end

section
/-! ## The extremes of the swing ring (R25, R27) -/

namespace Sys2Proof.Machine

open Sys2Proof

set_option Elab.async false

theorem attained_of_join {a b : Slot} {l : List (Option Slot)} {f : Slot → Int} {v : Int}
    (hf : f (a.join b) = f a ∨ f (a.join b) = f b)
    (h : ∃ y, some y ∈ some (a.join b) :: l ∧ f y = v) : ∃ y, some y ∈ some a :: some b :: l ∧ f y = v := by
  obtain ⟨y, hy, hv⟩ := h
  obtain hy | hy := List.mem_cons.mp hy
  · cases hy
    rcases hf with hf | hf
    · exact ⟨a, by simp, hf ▸ hv⟩
    · exact ⟨b, by simp, hf ▸ hv⟩
  · exact ⟨y, by simp [hy], hv⟩

/-- What spans two slots joined into one spans the two. -/
theorem Spans.of_join {a b x : Slot} {l : List (Option Slot)} (h : Spans (some (a.join b) :: l) x) :
    Spans (some a :: some b :: l) x := by
  obtain ⟨hall, htMin, htMax, hrhMin, hrhMax⟩ := h
  refine ⟨fun y hy => ?_, attained_of_join (min_choice _ _) htMin, attained_of_join (max_choice _ _) htMax,
    attained_of_join (min_choice _ _) hrhMin, attained_of_join (max_choice _ _) hrhMax⟩
  have hjoin := hall (a.join b) (by simp)
  simp only [Slot.join] at hjoin
  simp only [List.mem_cons, Option.some.injEq] at hy
  rcases hy with rfl | rfl | hy
  · omega
  · omega
  · exact hall y (by simp [hy])

theorem spans_skip {x : Slot} {l : List (Option Slot)} : Spans (none :: l) x ↔ Spans l x := by
  simp [Spans]

theorem spans_of_ringSpan_cons (a : Slot) (l : List (Option Slot)) (x : Slot) (h : ringSpan (some a :: l) = some x) :
    Spans (some a :: l) x := by
  induction l generalizing a with
  | nil =>
    cases h
    simp [Spans]
  | cons o l ih =>
    cases o with
    | none => simpa [Spans] using ih a h
    | some b => exact (ih (a.join b) h).of_join

/-- R27: the ring's span is spanned by its non-empty slots. -/
theorem spans_of_ringSpan {l : List (Option Slot)} {x : Slot} (h : ringSpan l = some x) : Spans l x := by
  induction l with
  | nil => cases h
  | cons o l ih =>
    cases o with
    | none => exact spans_skip.mpr (ih h)
    | some a => exact spans_of_ringSpan_cons a l x h

/-- R25: a filter output leaves a slot that is not empty. -/
theorem widenRing_ne_none (ring : List (Option Slot)) (t rh : Int) : ringSpan (widenRing ring t rh) ≠ none := by
  have hslot : ∃ y, some y ∈ widenRing ring t rh := by
    unfold widenRing
    split <;> simp
  obtain ⟨y, hy⟩ := hslot
  exact fun h => absurd ((ringSpan_eq_none_iff _).mp h _ hy) (by simp)

theorem takeClimate_eq (e : Estimate) (code : Nat) (t rh : Int) : ∃ ft frh, e.takeClimate code t rh =
    { e with raw := some (t, rh), filt := some (ft, frh), seeded := true, ring := widenRing e.ring ft frh } := ⟨_, _, rfl⟩

/-- A climate sample leaves filtered values, and a ring with extremes (R22, R23, R25, R27). -/
theorem takeClimate_output (e : Estimate) (code : Nat) (t rh : Int) : ∃ ft frh x,
    (e.takeClimate code t rh).filt = some (ft, frh) ∧ (e.takeClimate code t rh).extremes = some x ∧
      Spans (e.takeClimate code t rh).ring x := by
  obtain ⟨ft, frh, htaken⟩ := takeClimate_eq e code t rh
  obtain ⟨x, hx⟩ := Option.ne_none_iff_exists'.mp (widenRing_ne_none e.ring ft frh)
  rw [htaken]
  exact ⟨ft, frh, x, rfl, by simp only [Estimate.extremes, hx], spans_of_ringSpan hx⟩

end Sys2Proof.Machine
end

section
/-! ## A climate sample as a whole (R21) -/

namespace Sys2Proof.Machine

open Sys2Proof

set_option Elab.async false

theorem modEst_touches (s : State) (z : ZoneId) (f : Zone → Estimate) :
    Touches [.est] s (s.modZone z fun zn => { zn with est := f zn }) := modZone_touches s z _

/-- The state in which a climate reply's values are tested: the READ over, the estimate taken (R21 steps 1 to 3). -/
def State.climateTaken (s : State) (n : NodeId) (z : ZoneId) (t rh : Int) : State :=
  (s.readAnswered n).modZone z fun zn => { zn with est := zn.est.takeClimate zn.cfg.filterCode t (min 10000 rh) }

section

variable (s : State) (n : NodeId) (z : ZoneId) (t rh : Int)

theorem climateSample_readAnswered :
    (s.readAnswered n).climateSample z t rh = ((s.climateTaken n z t rh).testClimate z).countClimate z := rfl

theorem climateTaken_touches : Touches (.est :: readParts) s (s.climateTaken n z t rh) :=
  ((readAnswered_touches s n).mono (by decide)).then_mono (modEst_touches _ z _) (by decide)

theorem climateTaken_sameWatch : SameWatch z s (s.climateTaken n z t rh) :=
  .of_touches (climateTaken_touches s n z t rh) ((readAnswered_raises s n).trans (.of_ports _ rfl))

theorem climateTaken_est : ((s.climateTaken n z t rh).zone z).est =
    ((s.readAnswered n).zone z).est.takeClimate ((s.readAnswered n).zone z).cfg.filterCode t (min 10000 rh) := by
  rw [State.climateTaken, State.zone_modZone_self]

/-- R29: a sample that has just been taken leaves the estimate usable. -/
theorem climateTaken_usable (hbound : s.boundAt n = some (z, 2)) : (s.climateTaken n z t rh).usable z = true := by
  have hnode : ((s.climateTaken n z t rh).zone z).cfg.climateNode = some n := by
    rw [(climateTaken_touches s n z t rh).zoneCfg z]
    exact climateNode_of_boundAt hbound
  have hfresh : ((s.climateTaken n z t rh).node n).state = .fresh := readAnswered_fresh s n
  simp only [State.usable, hnode, hfresh, climateTaken_est]
  rfl

end

theorem testClimate_off {s : State} {z : ZoneId} (h : (s.zone z).cfg.use = false) : s.testClimate z = s := by
  simp only [State.testClimate, h, Bool.false_and, Bool.false_eq_true, if_false]

end Sys2Proof.Machine

open Sys2Proof Sys2Proof.Machine

set_option Elab.async false

/-- Settles O50: the tests run one after the other on the estimate that the sample leaves, and what the end of the READ and the
intake of the sample do before them moves no detection and makes no EXCURSION pending. -/
theorem climateOutputsTestExcursions : Obligations.ClimateOutputsTestExcursions := by
  intro s n value T rh z htxn hkind hlo hhi hrh hbound
  have hexec := exec_climateReply htxn hkind hbound hlo hhi hrh
  rw [climateSample_readAnswered] at hexec
  have htaken := climateTaken_touches s n z T rh
  have hwatch := climateTaken_sameWatch s n z T rh
  refine ⟨fun huse => ?on, fun huse => ?off⟩
  case on =>
    obtain ⟨ft, frh, x, hfilt, hx, hspans⟩ := takeClimate_output ((s.readAnswered n).zone z).est
      ((s.readAnswered n).zone z).cfg.filterCode T (min 10000 rh)
    rw [← climateTaken_est s n z T rh] at hfilt hx hspans
    obtain ⟨hwatched, htBand, hrhBand, htSwing, hrhSwing, hlux, huv⟩ := testClimate_tested
      ((congrArg ZoneRec.use (htaken.zoneCfg z)).trans huse) (climateTaken_usable s n z T rh hbound) hfilt hx
    have hest := hwatched.inZone.touches.zoneEst z
    rw [hwatch.clock, hwatch.exc, htaken.zoneEff z] at htBand htSwing hrhSwing
    rw [hwatch.clock, hwatch.exc, htaken.zoneEff z, htaken.zoneConflict z] at hrhBand
    exact ⟨_, ft, frh, x, hexec, by rw [hest, hfilt], by rwa [hest], htBand, hrhBand.1, hrhBand.2, htSwing, hrhSwing,
      (hwatched.others .lux (by decide)).trans (hwatch.exc .lux), (hwatched.others .uv (by decide)).trans (hwatch.exc .uv),
      by rw [hlux, hwatch.det], by rw [huv, hwatch.det], hwatch.reported hwatched.reported⟩
  case off =>
    have hoff : ((s.climateTaken n z T rh).zone z).cfg.use = false := (congrArg ZoneRec.use (htaken.zoneCfg z)).trans huse
    rw [testClimate_off hoff] at hexec
    exact ⟨_, hexec, ((countClimate_touches _ z).zoneDet z).trans hwatch.det⟩

end

section
/-! ## The light tests (R129, R131) -/

namespace Sys2Proof.Machine

open Sys2Proof

set_option Elab.async false

/-- What a light test leaves: the excursion of its kind, the pending start of LUX and the one over-sample of UV are `after`, `q` and
`first`. -/
structure LightBecomes (z : ZoneId) (k : ExcKind) (after : Option Excursion) (q : Option LuxPending) (first : Option UvSample)
    (s t : State) : Prop where
  watched    : Watched z [k] s t
  exc        : (t.zone z).exc k = after
  luxPending : (t.zone z).det.luxPending = q
  uvFirst    : (t.zone z).det.uvFirst = first

theorem Becomes.light {z : ZoneId} {k : ExcKind} {after : Option Excursion} {s t : State} (h : Becomes z k after s t) :
    LightBecomes z k after (s.zone z).det.luxPending (s.zone z).det.uvFirst s t :=
  ⟨h.watched, (h.exc k).trans (if_pos rfl), h.samples.1, h.samples.2⟩

/-- Replace the running LUX pending time. -/
def State.setLuxPending (s : State) (z : ZoneId) (q : Option LuxPending) : State :=
  s.modZone z fun zn => { zn with det := { zn.det with luxPending := q } }

section

variable (s : State) (z : ZoneId)

theorem setLuxPending_exc (q : Option LuxPending) (k : ExcKind) : ((s.setLuxPending z q).zone z).exc k = (s.zone z).exc k := by
  rw [State.setLuxPending, State.zone_modZone_self]
  rfl

theorem setUvFirst_exc (u : Option UvSample) (k : ExcKind) : ((s.setUvFirst z u).zone z).exc k = (s.zone z).exc k := by
  rw [State.setUvFirst, State.zone_modZone_self]
  rfl

theorem setLuxPending_watched (q : Option LuxPending) : Watched z [] s (s.setLuxPending z q) :=
  .of_pending (modZone_touches s z _) fun _ => rfl

theorem setUvFirst_watched (u : Option UvSample) : Watched z [] s (s.setUvFirst z u) :=
  .of_pending (modZone_touches s z _) fun _ => rfl

end

variable {s t : State} {z : ZoneId} {k : ExcKind} {after : Option Excursion}

/-- A test that moves the pending start, and then the excursion. -/
theorem Becomes.after_setLuxPending {q : Option LuxPending} (h : Becomes z k after (s.setLuxPending z q) t) :
    LightBecomes z k after q (s.zone z).det.uvFirst s t := by
  obtain ⟨hwatched, hexc, hq, hu⟩ := h.light
  simp only [State.setLuxPending, State.zone_modZone_self] at hq hu
  exact ⟨(setLuxPending_watched s z q).trans hwatched (fun _ hk => absurd hk List.not_mem_nil), hexc, hq, hu⟩

/-- A test that moves the one over-sample, and then the excursion. -/
theorem Becomes.after_setUvFirst {u : Option UvSample} (h : Becomes z k after (s.setUvFirst z u) t) :
    LightBecomes z k after (s.zone z).det.luxPending u s t := by
  obtain ⟨hwatched, hexc, hq, hu⟩ := h.light
  simp only [State.setUvFirst, State.zone_modZone_self] at hq hu
  exact ⟨(setUvFirst_watched s z u).trans hwatched (fun _ hk => absurd hk List.not_mem_nil), hexc, hq, hu⟩

/-! ### LUX (R129) -/

section

variable {e : Nat} {x : Excursion} {p : LuxPending}

theorem testLux_running (hx : (s.zone z).exc .lux = some x) :
    LightBecomes z .lux (if e ≤ (s.zone z).ceiling then none else some (x.tracked s.clock (e - (s.zone z).ceiling) .high))
      (s.zone z).det.luxPending (s.zone z).det.uvFirst s (s.testLux z e) := by
  unfold State.testLux
  simp only [hx]
  by_cases hover : (s.zone z).ceiling < e
  · rw [if_pos hover, if_neg (Nat.not_le.mpr hover)]
    exact (setExc_becomes hx _).light
  · rw [if_neg hover, if_pos (Nat.not_lt.mp hover)]
    exact (closeExc_becomes s z .lux).light

theorem testLux_idle_under (hexc : (s.zone z).exc .lux = none) (hq : (s.zone z).det.luxPending = none)
    (hunder : e ≤ (s.zone z).ceiling) : LightBecomes z .lux none none (s.zone z).det.uvFirst s (s.testLux z e) := by
  unfold State.testLux
  simp only [hexc, hq, if_neg (Nat.not_lt.mpr hunder)]
  exact hq ▸ (becomes_self hexc).light

theorem testLux_idle_over (hexc : (s.zone z).exc .lux = none) (hq : (s.zone z).det.luxPending = none)
    (hover : (s.zone z).ceiling < e) : LightBecomes z .lux
      (if (s.zone z).cfg.lightGrace = 0 then
        some { start := s.clock, side := .high, peak := e - (s.zone z).ceiling, peakTime := s.clock } else none)
      (if (s.zone z).cfg.lightGrace = 0 then none
        else some { start := s.clock, peak := e - (s.zone z).ceiling, peakTime := s.clock })
      (s.zone z).det.uvFirst s (s.testLux z e) := by
  unfold State.testLux
  simp only [hexc, hq, if_pos hover]
  split
  · exact hq ▸ (openExc_becomes hexc _).light
  · exact (becomes_self ((setLuxPending_exc s z _ .lux).trans hexc)).after_setLuxPending

/-- A pending start with the peak of its samples so far. -/
def LuxPending.tracked (p : LuxPending) (now : GTime) (amount : Nat) : LuxPending :=
  { start := p.start, peak := max p.peak amount, peakTime := if p.peak < amount then now else p.peakTime }

theorem luxPending_tracked (p : LuxPending) (now : GTime) (amount : Nat) :
    (if p.peak < amount then { p with peak := amount, peakTime := now } else p) = p.tracked now amount := by
  unfold LuxPending.tracked
  split
  · next h => rw [max_eq_right h.le]
  · next h => rw [max_eq_left (Nat.not_lt.mp h)]

theorem testLux_pending_under (hexc : (s.zone z).exc .lux = none) (hq : (s.zone z).det.luxPending = some p)
    (hunder : e ≤ (s.zone z).ceiling) : LightBecomes z .lux none none (s.zone z).det.uvFirst s (s.testLux z e) := by
  unfold State.testLux
  simp only [hexc, hq, if_neg (Nat.not_lt.mpr hunder)]
  exact (becomes_self ((setLuxPending_exc s z none .lux).trans hexc)).after_setLuxPending

theorem testLux_pending_over (hexc : (s.zone z).exc .lux = none) (hq : (s.zone z).det.luxPending = some p)
    (hover : (s.zone z).ceiling < e) :
    let p' := p.tracked s.clock (e - (s.zone z).ceiling)
    LightBecomes z .lux
      (if (s.zone z).cfg.lightGrace ≤ s.clock.since p.start then
        some { start := p'.start, side := .high, peak := p'.peak, peakTime := p'.peakTime } else none)
      (if (s.zone z).cfg.lightGrace ≤ s.clock.since p.start then none else some p')
      (s.zone z).det.uvFirst s (s.testLux z e) := by
  have hstep : s.testLux z e = if (s.zone z).cfg.lightGrace ≤ s.clock.since p.start then
      (s.setLuxPending z none).openExc z .lux
        { start := p.start, side := .high, peak := (p.tracked s.clock (e - (s.zone z).ceiling)).peak
          peakTime := (p.tracked s.clock (e - (s.zone z).ceiling)).peakTime }
      else s.setLuxPending z (some (p.tracked s.clock (e - (s.zone z).ceiling))) := by
    simp only [State.testLux, hexc, hq, if_pos hover, luxPending_tracked]
    rfl
  have habsent := fun q => (setLuxPending_exc s z q .lux).trans hexc
  rw [hstep]
  by_cases hgrace : (s.zone z).cfg.lightGrace ≤ s.clock.since p.start
  · simp only [if_pos hgrace]
    exact (openExc_becomes (habsent none) _).after_setLuxPending
  · simp only [if_neg hgrace]
    exact (becomes_self (habsent _)).after_setLuxPending

end

/-- What a light test of the kind `k` leaves of the zone, `P` relating what it held to what it holds. -/
structure LightTested (z : ZoneId) (k : ExcKind) (P : Zone → Zone → Prop) (s t : State) : Prop where
  watched : Watched z [k] s t
  tested  : P (s.zone z) (t.zone z)

theorem testLux_tested (s : State) (z : ZoneId) (e : Nat) :
    LightTested z .lux (LuxTested s.clock (s.zone z).cfg.lightGrace (s.zone z).ceiling e) s (s.testLux z e) ∧
      ((s.testLux z e).zone z).det.uvFirst = (s.zone z).det.uvFirst := by
  cases hexc : (s.zone z).exc .lux with
  | some x =>
    obtain ⟨hwatched, hafter, hq, hu⟩ := testLux_running (e := e) hexc
    refine ⟨⟨hwatched, fun h => (nomatch hexc.symm.trans h), fun _ h => (nomatch hexc.symm.trans h), fun y hy => ?_⟩, hu⟩
    cases hexc.symm.trans hy
    exact ⟨hafter, hq⟩
  | none =>
    cases hq : (s.zone z).det.luxPending with
    | none =>
      by_cases hunder : e ≤ (s.zone z).ceiling
      · obtain ⟨hwatched, hafter, hq', hu⟩ := testLux_idle_under hexc hq hunder
        refine ⟨⟨hwatched, fun _ _ => ?_, fun y _ hy => (nomatch hq.symm.trans hy),
          fun y hy => (nomatch hexc.symm.trans hy)⟩, hu⟩
        rw [if_pos hunder]
        exact ⟨hafter, hq'⟩
      · obtain ⟨hwatched, hafter, hq', hu⟩ := testLux_idle_over hexc hq (Nat.not_le.mp hunder)
        refine ⟨⟨hwatched, fun _ _ => ?_, fun y _ hy => (nomatch hq.symm.trans hy),
          fun y hy => (nomatch hexc.symm.trans hy)⟩, hu⟩
        rw [if_neg hunder, hafter, hq']
        split
        · exact ⟨rfl, rfl⟩
        · exact ⟨rfl, rfl⟩
    | some p =>
      by_cases hunder : e ≤ (s.zone z).ceiling
      · obtain ⟨hwatched, hafter, hq', hu⟩ := testLux_pending_under hexc hq hunder
        refine ⟨⟨hwatched, fun _ h => (nomatch hq.symm.trans h), fun y _ hy => ?_,
          fun y hy => (nomatch hexc.symm.trans hy)⟩, hu⟩
        rw [if_pos hunder]
        exact ⟨hafter, hq'⟩
      · obtain ⟨hwatched, hafter, hq', hu⟩ := testLux_pending_over hexc hq (Nat.not_le.mp hunder)
        refine ⟨⟨hwatched, fun _ h => (nomatch hq.symm.trans h), fun y _ hy => ?_,
          fun y hy => (nomatch hexc.symm.trans hy)⟩, hu⟩
        cases hq.symm.trans hy
        rw [if_neg hunder, hafter, hq', GTime.since]
        dsimp only
        split
        · exact ⟨rfl, rfl⟩
        · exact ⟨rfl, rfl⟩

/-! ### UV (R131) -/

section

variable {uv : Nat} {x : Excursion} {u : UvSample}

theorem testUv_under (hunder : uv ≤ (s.zone z).eff.uv) :
    LightBecomes z .uv none (s.zone z).det.luxPending none s (s.testUv z uv) := by
  unfold State.testUv
  simp only [if_neg (Nat.not_lt.mpr hunder)]
  exact (closeExc_becomes (s.setUvFirst z none) z .uv).after_setUvFirst

theorem testUv_running (hover : (s.zone z).eff.uv < uv) (hx : (s.zone z).exc .uv = some x) :
    LightBecomes z .uv (some (x.tracked s.clock (uv - (s.zone z).eff.uv) .high)) (s.zone z).det.luxPending (s.zone z).det.uvFirst s
      (s.testUv z uv) := by
  unfold State.testUv
  simp only [if_pos hover, hx]
  exact (setExc_becomes hx _).light

theorem testUv_first (hover : (s.zone z).eff.uv < uv) (hexc : (s.zone z).exc .uv = none) (hfirst : (s.zone z).det.uvFirst = none) :
    LightBecomes z .uv none (s.zone z).det.luxPending (some { time := s.clock, amount := uv - (s.zone z).eff.uv }) s
      (s.testUv z uv) := by
  unfold State.testUv
  simp only [if_pos hover, hexc, hfirst]
  exact (becomes_self ((setUvFirst_exc s z _ .uv).trans hexc)).after_setUvFirst

theorem testUv_second (hover : (s.zone z).eff.uv < uv) (hexc : (s.zone z).exc .uv = none)
    (hfirst : (s.zone z).det.uvFirst = some u) :
    LightBecomes z .uv
      (some { start := u.time, side := .high, peak := max u.amount (uv - (s.zone z).eff.uv)
              peakTime := if u.amount < uv - (s.zone z).eff.uv then s.clock else u.time })
      (s.zone z).det.luxPending none s (s.testUv z uv) := by
  unfold State.testUv
  simp only [if_pos hover, hexc, hfirst]
  exact (openExc_becomes ((setUvFirst_exc s z none .uv).trans hexc) _).after_setUvFirst

end

theorem testUv_tested (s : State) (z : ZoneId) (uv : Nat) :
    LightTested z .uv (UvTested s.clock (s.zone z).eff.uv uv) s (s.testUv z uv) ∧
      ((s.testUv z uv).zone z).det.luxPending = (s.zone z).det.luxPending := by
  by_cases hunder : uv ≤ (s.zone z).eff.uv
  · have hnot : ¬ (s.zone z).eff.uv < uv := Nat.not_lt.mpr hunder
    obtain ⟨hwatched, hafter, hq, hu⟩ := testUv_under (s := s) (z := z) hunder
    exact ⟨⟨hwatched, fun _ => ⟨hafter, hu⟩, fun h => absurd h hnot, fun _ h => absurd h hnot,
      fun _ h => absurd h hnot⟩, hq⟩
  · have hover : (s.zone z).eff.uv < uv := Nat.not_le.mp hunder
    cases hexc : (s.zone z).exc .uv with
    | some x =>
      obtain ⟨hwatched, hafter, hq, hu⟩ := testUv_running hover hexc
      refine ⟨⟨hwatched, fun h => absurd h hunder, fun _ h => (nomatch hexc.symm.trans h),
        fun _ _ h => (nomatch hexc.symm.trans h), fun y _ hy => ?_⟩, hq⟩
      cases hexc.symm.trans hy
      exact ⟨hafter, hu⟩
    | none =>
      cases hfirst : (s.zone z).det.uvFirst with
      | none =>
        obtain ⟨hwatched, hafter, hq, hu⟩ := testUv_first hover hexc hfirst
        exact ⟨⟨hwatched, fun h => absurd h hunder, fun _ _ _ => ⟨hafter, hu⟩, fun _ _ _ h => (nomatch hfirst.symm.trans h),
          fun y _ hy => (nomatch hexc.symm.trans hy)⟩, hq⟩
      | some u =>
        obtain ⟨hwatched, hafter, hq, hu⟩ := testUv_second hover hexc hfirst
        refine ⟨⟨hwatched, fun h => absurd h hunder, fun _ _ h => (nomatch hfirst.symm.trans h), fun y _ _ hy => ?_,
          fun y _ hy => (nomatch hexc.symm.trans hy)⟩, hq⟩
        cases hfirst.symm.trans hy
        exact ⟨hafter, hu⟩

end Sys2Proof.Machine
end

section
/-! ## A light sample as a whole (R30, R34) -/

namespace Sys2Proof.Machine

open Sys2Proof

set_option Elab.async false

/-! ### The charge makes no EXCURSION pending -/

/-- The bits that a record and a new condition can make pending. -/
abbrev chargeBits : List AttnBit := [.watermark, .watchMatch, .zoneCondition]

theorem reevalPace_raises (s : State) (o : ObjId) : Raises chargeBits s (s.reevalPace o) := by
  unfold State.reevalPace
  dsimp only
  split
  · exact .refl _ s
  · have hoffer : Raises chargeBits s ((s.modObject o fun ob => { ob with pace := s.paceNow o }).offer (.pace s.clock o
        (s.object o).cfg.zone (s.object o).pace (s.paceNow o) (s.object o).acct.consumed)) :=
      (Raises.of_ports _ rfl).then_mono (offer_raises (s.modObject o _) _) (by decide)
    split
    · exact hoffer.trans (recomputeCeiling_raises _ _)
    · exact hoffer

theorem chargeIn_raises (s : State) (z : ZoneId) (e dt : Nat) (o : ObjId) : Raises chargeBits s (s.chargeIn z e dt o) := by
  unfold State.chargeIn State.chargeObject
  dsimp only
  split
  · split
    · exact .of_ports _ rfl
    · exact (Raises.of_ports _ rfl).trans (reevalPace_raises (s.modObject o _) o)
  · exact .refl _ s

theorem chargeZone_raises (s : State) (z : ZoneId) (upTo : GTime) (e : Nat) : Raises chargeBits s (s.chargeZone z upTo e) := by
  have hhorizon : ∀ t : State, Raises chargeBits t (t.modZone z fun zn => { zn with horizon := upTo }) := fun t => .of_ports _ rfl
  rw [chargeZone_eq]
  exact (foldl_keeps _ (Raises chargeBits s) (fun t o ht => ht.trans (chargeIn_raises t z e _ o)) _ s (.refl _ s)).trans
    (hhorizon _)

/-! ### The sample -/

/-- The state once a light reply has ended the READ and its estimate has been taken (R30 to R32). -/
def State.lightTaken (s : State) (n : NodeId) (z : ZoneId) (e uv : Nat) : State :=
  (s.readAnswered n).modZone z fun zn =>
    { zn with est := zn.est.takeLight zn.cfg.eFull zn.cfg.tc (zn.chan .light).applied (zn.chan .shade).applied e (min 2000 uv) }

/-- The state in which a light reply's values are tested: the estimate taken, and the zone charged (R34, R63). -/
def State.lightCharged (s : State) (n : NodeId) (z : ZoneId) (e uv : Nat) : State :=
  (s.lightTaken n z e uv).chargeZone z (s.lightTaken n z e uv).clock (max (((s.readAnswered n).zone z).est.eMeas.getD e) e)

section

variable (s : State) (n : NodeId) (z : ZoneId) (e uv : Nat)

theorem lightTaken_touches : Touches (.est :: readParts) s (s.lightTaken n z e uv) :=
  ((readAnswered_touches s n).mono (by decide)).then_mono (modEst_touches _ z _) (by decide)

/-- What a light sample touches before its tests. -/
abbrev lightIntake : List Part := .est :: readParts ++ zoneChargeParts

theorem lightCharged_touches : Touches lightIntake s (s.lightCharged n z e uv) :=
  ((lightTaken_touches s n z e uv).mono (by decide)).then_mono (chargeZone_inZone _ z _ _).touches (by decide)

theorem lightCharged_sameWatch : SameWatch z s (s.lightCharged n z e uv) := by
  have htaken : Raises (.node :: chargeBits) s (s.lightTaken n z e uv) :=
    ((readAnswered_raises s n).mono (by decide)).trans (.of_ports _ rfl)
  exact .of_touches (lightCharged_touches s n z e uv) (htaken.then_mono (chargeZone_raises _ z _ _) (by decide))

/-- R34: DI and EM take a light sample only in a zone that is ON. -/
theorem lightSample_readAnswered : (s.readAnswered n).lightSample z e uv =
    (if (s.zone z).cfg.use = true then
      (((s.lightCharged n z e uv).testLux z e).testUv z (min 2000 uv)).computeOverride z
      else s.lightTaken n z e uv).countLight z := by
  rw [← (lightTaken_touches s n z e uv).zoneCfg z]
  rfl

end

/-- The LUX test of a zone rests on its excursion and its pending start (R129). -/
theorem LuxTested.congr {now : GTime} {grace c e : Nat} {a a' b b' : Zone} (h : LuxTested now grace c e a b) (ha : a'.det = a.det)
    (hexc : b'.exc .lux = b.exc .lux) (hq : b'.det.luxPending = b.det.luxPending) : LuxTested now grace c e a' b' := by
  have hexca : a'.exc .lux = a.exc .lux := by simp only [Zone.exc, ha]
  obtain ⟨hidle, hpending, hrunning⟩ := h
  refine ⟨?_, ?_, ?_⟩
  · rwa [hexca, ha, hexc, hq]
  · rwa [hexca, ha, hexc, hq]
  · rwa [hexca, ha, hexc, hq]

/-- The UV test of a zone rests on its excursion and its one over-sample (R131). -/
theorem UvTested.congr {now : GTime} {c uv : Nat} {a a' b : Zone} (h : UvTested now c uv a b) (hexc : a'.exc .uv = a.exc .uv)
    (hfirst : a'.det.uvFirst = a.det.uvFirst) : UvTested now c uv a' b := by
  obtain ⟨hunder, hfirst', hsecond, hrunning⟩ := h
  refine ⟨hunder, ?_, ?_, ?_⟩
  · rwa [hexc, hfirst]
  · rwa [hexc, hfirst]
  · rwa [hexc, hfirst]

/-- What the two light tests leave of a zone (R129, R131). -/
structure LightsTested (z : ZoneId) (e uv : Nat) (s t : State) : Prop where
  watched : Watched z [.lux, .uv] s t
  lux     : LuxTested s.clock (s.zone z).cfg.lightGrace (t.zone z).ceiling e (s.zone z) (t.zone z)
  uv      : UvTested s.clock (s.zone z).eff.uv uv (s.zone z) (t.zone z)

theorem lightTests_tested (s : State) (z : ZoneId) (e uv : Nat) : LightsTested z e uv s ((s.testLux z e).testUv z uv) := by
  obtain ⟨⟨hlux, hluxTested⟩, hfirst⟩ := testLux_tested s z e
  obtain ⟨⟨huv, huvTested⟩, hpending⟩ := testUv_tested (s.testLux z e) z uv
  have hboth := hlux.trans huv
  have hclock : (s.testLux z e).clock = s.clock := hlux.inZone.touches .clock (by decide)
  rw [hclock, hlux.inZone.touches.zoneEff z] at huvTested
  refine ⟨hboth, ?_, huvTested.congr (hlux.others .uv (by decide)).symm hfirst.symm⟩
  rw [hboth.inZone.touches.zoneCeiling z]
  exact hluxTested.congr rfl (huv.others .lux (by decide)) hpending

/-- What a test reads of a zone, and so what it makes of the parts of its override, stands while its detection and override do. -/
theorem partsLeft_congr {a a' : Zone} (b : Zone) (hdet : a'.det = a.det) (hovr : a'.ovr = a.ovr) :
    a'.partsLeft b = a.partsLeft b := by
  have hexc : ∀ k, a'.exc k = a.exc k := fun k => by simp only [Zone.exc, hdet]
  simp only [Zone.partsLeft, hexc, hovr]

end Sys2Proof.Machine

open Sys2Proof Sys2Proof.Machine

set_option Elab.async false

/-- Settles O51: LUX and UV are tested in turn on the charged zone, and what the end of the READ, the intake of the sample and the
charge do before them moves no detection and no override and makes no EXCURSION pending. -/
theorem lightSamplesTestExcursions : Obligations.LightSamplesTestExcursions := by
  intro s n value e uv z htxn hkind he huv hbound
  have hexec := exec_lightReply htxn hkind hbound he huv
  rw [lightSample_readAnswered] at hexec
  refine ⟨fun huse => ?on, fun huse => ?off⟩
  case on =>
    rw [if_pos huse] at hexec
    have hcharged := lightCharged_touches s n z e uv
    have hwatch := lightCharged_sameWatch s n z e uv
    obtain ⟨hwatched, hlux, huv⟩ := lightTests_tested (s.lightCharged n z e uv) z e (min 2000 uv)
    rw [hwatch.clock, hcharged.zoneCfg z] at hlux
    rw [hwatch.clock, hcharged.zoneEff z] at huv
    refine ⟨_, hexec, hlux.congr hwatch.det.symm rfl rfl, huv.congr (hwatch.exc .uv).symm (by rw [hwatch.det]), fun k hk => ?_,
      hwatch.reported hwatched.reported, ?_⟩
    · refine (hwatched.others k ?_).trans (hwatch.exc k)
      revert hk
      cases k <;> decide
    · rw [hwatched.ovr]
      exact partsLeft_congr _ hwatch.det (hcharged.zoneOvr z)
  case off =>
    have htaken := lightTaken_touches s n z e uv
    rw [huse, if_neg Bool.false_ne_true] at hexec
    exact ⟨_, hexec, ((countLight_touches _ z).zoneDet z).trans (htaken.zoneDet z),
      ((countLight_touches _ z).zoneOvr z).trans (htaken.zoneOvr z)⟩

end

section
/-! ## Due times and the arbiter (R148, R152 to R154) -/

namespace Sys2Proof.Machine

open Sys2Proof

set_option Elab.async false

/-! ### What the words of the statement are in the model -/

theorem nodeOf?_address (n : NodeId) : nodeOf? (n.val + 1) = some n := dif_pos ⟨by omega, by omega⟩

section

variable {s : State} {n : NodeId}

theorem reached_iff {t : Option GTime} : s.reached t = true ↔ Reached s t := by
  cases t <;> simp [State.reached, Reached, GTime.notAfter]

theorem addressed_iff {z : ZoneId} {ch : ChanKind} :
    Addressed s n z ch ↔ s.boundChan n = some (z, ch) ∧ s.addressable z ch = true := by
  rw [addressable_iff]
  refine and_congr_right fun hbound => ?_
  rw [boundChan_act hbound, Option.isSome_some, and_iff_left rfl]

theorem actuatorOpen_iff : s.actuatorOpen n = true ↔ ∃ z ch, Addressed s n z ch := by
  unfold State.actuatorOpen
  simp only [addressed_iff]
  split
  · next z ch hbound => simp [hbound]
  · next hbound => simp [hbound]

theorem statusWaits_iff : s.statusWaits n = true ↔ StatusWaits s n := by
  have hopen : s.statusWaits n = ((s.node n).waiting && s.actuatorOpen n) := rfl
  rw [hopen, Bool.and_eq_true, actuatorOpen_iff]
  rfl

theorem readWaits_iff : s.readWaits n = true ↔ ReadWaits s n := by
  simp only [State.readWaits, ReadWaits, Bool.and_eq_true, decide_eq_true_eq, and_assoc]

/-- R154: the command of an eligible channel. -/
theorem commandOf_eligible {z : ZoneId} {ch : ChanKind} {v : Int} (h : Eligible s (z, ch)) (hact : (s.zone z).cfg.act ch = some n)
    (hpending : (s.chan z ch).pending = some v) : s.commandOf (z, ch) = some (.command z ch n v) := by
  obtain ⟨hsup, huse, hbound, -⟩ := h
  have haddressable : s.addressable z ch = true := addressable_iff.mpr ⟨hsup, huse, hbound⟩
  have hnode : s.actNode z ch = some n := hact
  simp only [State.commandOf, haddressable, hnode, hpending, if_true]

/-- A channel that is not eligible has no command. -/
theorem commandOf_ineligible {zc : ZoneId × ChanKind} (h : ¬ Eligible s zc) : s.commandOf zc = none := by
  unfold State.commandOf
  split
  · next haddressable =>
    obtain ⟨hsup, huse, hbound⟩ := addressable_iff.mp haddressable
    split
    · next v _ hpending => exact absurd ⟨hsup, huse, hbound, Option.isSome_iff_exists.mpr ⟨v, hpending⟩⟩ h
    · rfl
  · rfl

end

/-! ### The events of the timers -/

section

variable (s : State) (n : NodeId)

theorem exec_sensorPollDue : exec (.sensorPollDue (n.val + 1)) s =
    .next (if isSensor (s.node n).kind && decide (0 < (s.node n).code) && s.reached (s.node n).due then s.wait n else s) := by
  show execSensorPollDue (n.val + 1) s = _
  simp only [execSensorPollDue, nodeOf?_address]
  split <;> rfl

theorem exec_statusDue : exec (.statusDue (n.val + 1)) s =
    .next (if s.actuatorOpen n && s.reached (s.node n).due then s.wait n else s) := by
  show execStatusDue (n.val + 1) s = _
  simp only [execStatusDue, nodeOf?_address]
  split <;> rfl

theorem exec_actuatorRetry : exec (.actuatorRetry (n.val + 1)) s =
    .next (if s.actuatorOpen n && decide ((s.node n).state = .silent) && s.reached (s.node n).retry then s.retryNode n else s) := by
  show execActuatorRetry (n.val + 1) s = _
  simp only [execActuatorRetry, nodeOf?_address]
  split <;> rfl

/-- R148: when a READ comes due. -/
theorem pollDue_iff : (isSensor (s.node n).kind && decide (0 < (s.node n).code) && s.reached (s.node n).due) = true ↔
    isSensor (s.node n).kind = true ∧ 0 < (s.node n).code ∧ Reached s (s.node n).due := by
  simp only [Bool.and_eq_true, decide_eq_true_eq, reached_iff, and_assoc]

/-- R153: when a STATUS comes due. -/
theorem statusDue_iff : (s.actuatorOpen n && s.reached (s.node n).due) = true ↔
    (∃ z ch, Addressed s n z ch) ∧ Reached s (s.node n).due := by
  simp only [Bool.and_eq_true, actuatorOpen_iff, reached_iff]

/-- R152: when a retry comes due. -/
theorem retryDue_iff :
    (s.actuatorOpen n && decide ((s.node n).state = .silent) && s.reached (s.node n).retry) = true ↔
      (∃ z ch, Addressed s n z ch) ∧ (s.node n).state = .silent ∧ Reached s (s.node n).retry := by
  simp only [Bool.and_eq_true, decide_eq_true_eq, actuatorOpen_iff, reached_iff, and_assoc]

variable {s n} {z : ZoneId} {ch : ChanKind}

theorem enlist_eq (s : State) (z : ZoneId) (ch : ChanKind) :
    s.enlist z ch = { s with commands := if (z, ch) ∈ s.commands then s.commands else s.commands ++ [(z, ch)] } := by
  unfold State.enlist
  simp only [List.contains_iff_mem]
  split <;> rfl

/-- R152: a value that waits is what is retried. -/
theorem retryNode_command (hbound : s.boundChan n = some (z, ch)) (hpending : (s.chan z ch).pending.isSome = true) :
    s.retryNode n = { s with commands := if (z, ch) ∈ s.commands then s.commands else s.commands ++ [(z, ch)] }.modNode n
      fun nd => { nd with retry := none } := by
  have hkept : (s.modNode n fun nd => { nd with retry := none }).boundChan n = some (z, ch) := hbound
  simp only [State.retryNode, hkept, State.modNode_chan, hpending, if_true, enlist_eq]
  rfl

theorem modNode_modNode (s : State) (n : NodeId) (f g : Node → Node) :
    (s.modNode n f).modNode n g = s.modNode n fun nd => g (f nd) := by
  simp only [State.modNode, State.node, Fin.getElem_fin, Vector.getElem_set_self, Vector.set_set]

/-- R152: with no value waiting, a STATUS is what is retried. -/
theorem retryNode_status (hbound : s.boundChan n = some (z, ch)) (hpending : (s.chan z ch).pending = none) :
    s.retryNode n = s.modNode n fun nd => { nd with retry := none, due := some s.clock, waiting := true } := by
  have hkept : (s.modNode n fun nd => { nd with retry := none }).boundChan n = some (z, ch) := hbound
  have hnow : s.clock.notAfter s.clock = true := decide_eq_true le_rfl
  simp only [State.retryNode, hkept, State.modNode_chan, hpending, Option.isSome_none, Bool.false_eq_true, if_false, State.setDue,
    modNode_modNode, State.modNode_clock, hnow]

end

/-! ### The choice of the arbiter -/

section

variable {s : State} {n : NodeId} {waits : NodeId → Bool}

theorem earliest_none (h : ∀ m, waits m = false) : s.earliest waits = none :=
  Option.eq_none_iff_forall_ne_some.mpr fun m hm => absurd (earliest_waits hm) (by simp [h m])

/-- R154: the node that is due first is found, wherever it stands among the addresses: those before it are due later, and those
after it no sooner. -/
theorem earliest_some (hn : waits n = true)
    (hfirst : ∀ m, waits m = true → s.dueSeconds n < s.dueSeconds m ∨ (s.dueSeconds n = s.dueSeconds m ∧ n ≤ m)) :
    s.earliest waits = some n := by
  obtain ⟨before, after, hsplit⟩ := List.append_of_mem (List.mem_finRange n)
  have hsorted := List.pairwise_lt_finRange 32
  rw [hsplit, List.pairwise_append] at hsorted
  have hbelow : ∀ m ∈ before, m < n := fun m hm => hsorted.2.2 m hm n List.mem_cons_self
  unfold State.earliest allNodes
  rw [hsplit, List.foldl_append, List.foldl_cons]
  generalize hbest : before.foldl _ none = best
  have hlater : ∀ b, best = some b → s.dueSeconds n < s.dueSeconds b := by
    rw [← hbest]
    refine List.foldlRecOn (motive := fun best => ∀ b, best = some b → s.dueSeconds n < s.dueSeconds b) before _
      (fun b hb => by cases hb) fun best hkept m hm => ?_
    have hm' := hbelow m hm
    have hwaits := hfirst m
    grind
  refine List.foldlRecOn (motive := fun best => best = some n) after _ ?_ fun best hkept m _ => ?_
  · cases best with
    | none => simp only [hn, if_true]
    | some b => simp only [hn, if_true, hlater b rfl]
  · have hwaits := hfirst m
    grind

variable {z : ZoneId} {ch : ChanKind} {v : Int}

theorem choice_command {rest : List (ZoneId × ChanKind)} (h : s.commandOf (z, ch) = some (.command z ch n v)) :
    State.choice { s with commands := (z, ch) :: rest } = some (.command z ch n v) := by
  have hkept : State.commandOf { s with commands := (z, ch) :: rest } = s.commandOf := rfl
  simp only [State.choice, hkept, List.findSome?_cons, h]

/-- With no command to begin, a STATUS comes before a READ. -/
theorem choice_idle : State.choice { s with commands := [] } =
    ((s.earliest s.statusWaits).map Choice.status).or ((s.earliest s.readWaits).map Choice.read) := by
  have hstatus : State.earliest { s with commands := [] } (State.statusWaits { s with commands := [] }) =
    s.earliest s.statusWaits := rfl
  have hread : State.earliest { s with commands := [] } (State.readWaits { s with commands := [] }) =
    s.earliest s.readWaits := rfl
  simp only [State.choice, List.findSome?_nil, hstatus, hread]
  cases s.earliest s.statusWaits <;> rfl

theorem FirstDue.earliest {p : NodeId → Prop} (hwaits : ∀ m, waits m = true ↔ p m) (h : FirstDue s p n) :
    s.earliest waits = some n :=
  earliest_some ((hwaits n).mpr h.1) fun m hm => h.2 m ((hwaits m).mp hm)

theorem earliest_of_none {p : NodeId → Prop} (hwaits : ∀ m, waits m = true ↔ p m) (h : ∀ m, ¬ p m) : s.earliest waits = none :=
  earliest_none fun m => Bool.eq_false_iff.mpr fun hm => h m ((hwaits m).mp hm)

/-- Commands no longer eligible leave the head of the list (R154). -/
theorem pruneCommands_eq {before after : List (ZoneId × ChanKind)} (hlist : s.commands = before ++ after)
    (hbefore : ∀ x ∈ before, ¬ Eligible s x) (hafter : ∀ x, after.head? = some x → (s.commandOf x).isSome = true) :
    s.pruneCommands = { s with commands := after } := by
  have hdropped : s.commands.dropWhile (fun zc => (s.commandOf zc).isNone) = after := by
    rw [hlist, List.dropWhile_append_of_pos fun x hx => by rw [commandOf_ineligible (hbefore x hx)]; rfl]
    cases after with
    | nil => rfl
    | cons x after =>
      refine List.dropWhile_cons_of_neg ?_
      rw [Option.isNone_iff_eq_none, ← ne_eq, Option.ne_none_iff_isSome]
      exact hafter x rfl
  rw [State.pruneCommands, hdropped]

theorem pruneCommands_idle (h : ∀ x ∈ s.commands, ¬ Eligible s x) : s.pruneCommands = { s with commands := [] } :=
  pruneCommands_eq (List.append_nil _).symm h fun _ hx => by cases hx

/-- A free loop begins what the arbiter chooses, if it chooses something (R154). -/
theorem exec_loopTransactionStart (htxn : s.txn = none) :
    exec .loopTransactionStart s = .next ((s.pruneCommands.choice.map s.pruneCommands.begin).getD s.pruneCommands) := by
  show execLoopTransactionStart s = _
  simp only [execLoopTransactionStart, htxn]
  cases s.pruneCommands.choice <;> rfl

end

end Sys2Proof.Machine

open Sys2Proof Sys2Proof.Machine

set_option Elab.async false

/-- Settles O46: each timer's event is one test, and the arbiter's choice is settled by the head of the list that eligible commands
leave and by the node that is due first. -/
theorem loopTakesCommandsThenPolls : Obligations.LoopTakesCommandsThenPolls := by
  refine fun s => ⟨fun n => ⟨?poll, ?noPoll, ?status, ?noStatus, ?retry, ?noRetry⟩, ?busy, ?command, ?firstStatus, ?firstRead,
    ?idle⟩
  case poll =>
    intro hkind hcode hdue
    rw [exec_sensorPollDue, if_pos ((pollDue_iff s n).mpr ⟨hkind, hcode, hdue⟩)]
    rfl
  case noPoll =>
    intro h
    rw [exec_sensorPollDue, if_neg]
    rw [pollDue_iff]
    rintro ⟨hkind, hcode, hdue⟩
    obtain hkind' | hcode' | hdue' := h
    · exact absurd (hkind.symm.trans hkind') (by decide)
    · omega
    · exact hdue' hdue
  case status =>
    intro z ch haddressed hdue
    rw [exec_statusDue, if_pos ((statusDue_iff s n).mpr ⟨⟨z, ch, haddressed⟩, hdue⟩)]
    rfl
  case noStatus =>
    intro h
    rw [exec_statusDue, if_neg]
    rw [statusDue_iff]
    rintro ⟨⟨z, ch, haddressed⟩, hdue⟩
    exact h.elim (fun h => h z ch haddressed) fun h => h hdue
  case retry =>
    intro z ch haddressed hsilent hretry
    rw [exec_actuatorRetry, if_pos ((retryDue_iff s n).mpr ⟨⟨z, ch, haddressed⟩, hsilent, hretry⟩)]
    exact ⟨fun hpending => by rw [retryNode_command haddressed.1 hpending],
      fun hpending => by rw [retryNode_status haddressed.1 hpending]⟩
  case noRetry =>
    intro h
    rw [exec_actuatorRetry, if_neg]
    rw [retryDue_iff]
    rintro ⟨⟨z, ch, haddressed⟩, hsilent, hretry⟩
    exact h.elim (fun h => h z ch haddressed) fun h => h.elim (fun h => h hsilent) fun h => h hretry
  case busy =>
    intro hbusy
    obtain ⟨x, hx⟩ := Option.ne_none_iff_exists'.mp hbusy
    show execLoopTransactionStart s = _
    simp only [execLoopTransactionStart, hx]
  case command =>
    intro before z ch after n v htxn hlist hbefore heligible hact hpending
    have hcommand := commandOf_eligible heligible hact hpending
    rw [exec_loopTransactionStart htxn, pruneCommands_eq hlist hbefore (by rintro x ⟨⟩; rw [hcommand]; rfl),
      choice_command hcommand]
    rfl
  case firstStatus =>
    intro n htxn hlist hfirst
    rw [exec_loopTransactionStart htxn, pruneCommands_idle hlist, choice_idle, hfirst.earliest fun _ => statusWaits_iff]
    rfl
  case firstRead =>
    intro n htxn hlist hstatus hfirst
    rw [exec_loopTransactionStart htxn, pruneCommands_idle hlist, choice_idle,
      earliest_of_none (fun _ => statusWaits_iff) hstatus, hfirst.earliest fun _ => readWaits_iff]
    rfl
  case idle =>
    intro htxn hlist hstatus hread
    rw [exec_loopTransactionStart htxn, pruneCommands_idle hlist, choice_idle,
      earliest_of_none (fun _ => statusWaits_iff) hstatus, earliest_of_none (fun _ => readWaits_iff) hread]
    rfl

end

section
/-! ## A node's entry changed, and the change of its state reported (R149)

A change of one node is described by four things: the parts it touches, the entry as it then stands beside the others as they stood,
the NODE records it appends, and the NODE attention bits. -/

namespace Sys2Proof.Machine

open Sys2Proof

set_option Elab.async false

/-! ### One node's entry -/

/-- The record of a change of a node's state, if it changes (R149). -/
def nodeChange (now : GTime) (n : NodeId) (before after : NodeState) : List Record :=
  if before = after then [] else [.node now n before after]

theorem nodeChange_self (now : GTime) (n : NodeId) (st : NodeState) : nodeChange now n st st = [] := if_pos rfl

/-- The entry of the node `n` becomes `new`, every other entry stands, and of nodes nothing but the change of its state is reported,
in at most `c` bytes of records of any kind. -/
structure NodeStep (n : NodeId) (new : Node) (F : List Part) (c : Nat) (s t : State) : Prop where
  touches   : Touches F s t
  node      : t.node n = new
  others    : ∀ m, m ≠ n → t.node m = s.node m
  logs      : LogsOf Record.isNode c s t (nodeChange s.clock n (s.node n).state new.state)
  attention : ∀ p, hasAttn (t.port p).attn .node = true ↔ hasAttn (s.port p).attn .node = true ∨
    ((s.node n).state ≠ new.state ∧ ∀ z, s.boundZone n = some z → (s.port p).zoneSet.getLsbD z.val = true)

theorem Touches.anySubscribed {F : List Part} {s t : State} (h : Touches F s t) (hF : Part.sub ∉ F := by decide) :
    t.anySubscribed = s.anySubscribed := by
  have hsub : ∀ p, (t.port p).sub = (s.port p).sub := congrFun (h .sub hF)
  unfold State.anySubscribed
  simp only [hsub]

theorem Touches.boundZone {F : List Part} {s t : State} (h : Touches F s t) (n : NodeId) (hF : Part.cfg ∉ F := by decide) :
    t.boundZone n = s.boundZone n := congrArg (Option.map Prod.fst) (h.boundAt n hF)

namespace NodeStep

variable {n : NodeId} {new new' : Node} {F G : List Part} {c d : Nat} {s t u : State}

theorem mono (h : NodeStep n new F c s t) (hs : F ⊆ G) : NodeStep n new G c s t :=
  ⟨h.touches.mono hs, h.node, h.others, h.logs, h.attention⟩

theorem widen (h : NodeStep n new F c s t) (hd : c ≤ d) : NodeStep n new F d s t :=
  ⟨h.touches, h.node, h.others, h.logs.mono hd, h.attention⟩

/-- What follows a change with the entry's state as it was, or leaves the state as the change made it, reports no second change. -/
theorem trans (h : NodeStep n new F c s t) (k : NodeStep n new' F d t u)
    (hstate : new.state = (s.node n).state ∨ new'.state = new.state)
    (hF : ∀ k ∈ [Part.clock, .cfg, .settings], k ∉ F := by decide) : NodeStep n new' F (c + d) s u := by
  have hclock : t.clock = s.clock := h.touches .clock (hF _ (by decide))
  have hbound := h.touches.boundZone n (hF _ (by decide))
  have hzones := fun p => h.touches.zoneSets p (hF _ (by decide))
  have hlogs := h.logs.trans k.logs
  rw [h.node, hclock] at hlogs
  refine ⟨h.touches.trans k.touches, k.node, fun m hm => (k.others m hm).trans (h.others m hm), ?_, fun p => ?_⟩
  · obtain hstate | hstate := hstate
    · rwa [hstate, nodeChange_self, List.nil_append] at hlogs
    · rwa [hstate, nodeChange_self, List.append_nil, ← hstate] at hlogs
  · rw [k.attention, h.attention, h.node, hbound, hzones]
    obtain hstate | hstate := hstate
    · simp [hstate]
    · simp [hstate]

theorem then_mono (h : NodeStep n new F c s t) (k : NodeStep n new' G d t u) (hs : G ⊆ F)
    (hstate : new.state = (s.node n).state ∨ new'.state = new.state)
    (hF : ∀ k ∈ [Part.clock, .cfg, .settings], k ∉ F := by decide) : NodeStep n new' F (c + d) s u :=
  h.trans (k.mono hs) hstate hF

/-- What leaves the entry as the change made it follows the change. -/
theorem then_still (h : NodeStep n new F c s t) (k : NodeStep n (t.node n) G d t u) (hs : G ⊆ F)
    (hF : ∀ k ∈ [Part.clock, .cfg, .settings], k ∉ F := by decide) : NodeStep n new F (c + d) s u :=
  h.then_mono (h.node ▸ k) hs (.inr rfl) hF

theorem reported (h : NodeStep n new F c s t) (hc : c ≤ queueCapacity := by decide) : NodeReported s t n :=
  ⟨by rw [h.node]; exact h.logs.recordsOf hc, fun p => by rw [h.node]; exact h.attention p⟩

/-- A change that leaves every node's state and reports nothing of nodes. -/
theorem of_quiet (h : Touches F s t) (hnode : t.node n = new) (hothers : ∀ m, m ≠ n → t.node m = s.node m)
    (hstate : new.state = (s.node n).state) (hlogs : LogsOf Record.isNode c s t [])
    (hattn : ∀ p, hasAttn (t.port p).attn .node = hasAttn (s.port p).attn .node) : NodeStep n new F c s t where
  touches := h
  node := hnode
  others := hothers
  logs := by rwa [hstate, nodeChange_self]
  attention p := by simp [hattn, hstate]

/-- A state that is the one held changes nothing. -/
theorem of_same {st : NodeState} (h : (s.node n).state = st) : NodeStep n { s.node n with state := st } F c s s := by
  subst h
  exact .of_quiet (.refl F s) rfl (fun _ _ => rfl) rfl (.of_silent (.refl s) c) fun _ => rfl

/-- A change of other parts, which may report other things. -/
theorem of_other {B : List AttnBit} (h : Touches F s t) (hlogs : LogsOf Record.isNode c s t []) (hraises : Raises B s t)
    (hF : Part.nodes ∉ F := by decide) (hB : AttnBit.node ∉ B := by decide) : NodeStep n (s.node n) F c s t :=
  .of_quiet h (h.node n hF) (fun m _ => h.node m hF) rfl hlogs fun p => (hraises p).others _ hB

end NodeStep

/-- A change of other parts that reports nothing. -/
theorem Touches.nodeStep {F : List Part} {s t : State} (h : Touches F s t) (n : NodeId)
    (hF : ∀ k ∈ .nodes :: reporting, k ∉ F := by decide) : NodeStep n (s.node n) F 0 s t :=
  have hsilent : Logs s t [] := .of_same (h.anySubscribed (hF _ (by decide))) (h .records (hF _ (by decide)))
  .of_quiet h (h.node n (hF _ (by decide))) (fun m _ => h.node m (hF _ (by decide))) rfl (.of_silent hsilent 0)
    fun p => h.attention p _ (hF _ (by decide))

theorem modNode_step (s : State) (n : NodeId) (f : Node → Node) (hstate : (f (s.node n)).state = (s.node n).state) :
    NodeStep n (f (s.node n)) [.nodes] 0 s (s.modNode n f) :=
  have hsilent : Logs s (s.modNode n f) [] := .of_same rfl rfl
  .of_quiet (modNode_touches s n f) (State.node_modNode_self s n f) (fun _ hm => State.node_modNode_ne s f hm) hstate
    (.of_silent hsilent 0) fun _ => rfl

/-! ### Due times -/

/-- An entry whose due time is set at `now` (R154). -/
def Node.dueAt (nd : Node) (now due : GTime) : Node := { nd with due := some due, waiting := due.notAfter now }

theorem setDue_step (s : State) (n : NodeId) (due : GTime) :
    NodeStep n ((s.node n).dueAt s.clock due) [.nodes] 0 s (s.setDue n due) :=
  modNode_step s n (·.dueAt s.clock due) rfl

/-- The entry of a sensor after a READ: due again, unless its polls are off (R148). -/
def State.repolled (s : State) (nd : Node) : Node :=
  if nd.code = 0 then nd else nd.dueAt s.clock (nextDue s nd.due (pollPeriod nd.code))

theorem repolled_off (s : State) {nd : Node} (h : nd.code = 0) : s.repolled nd = nd := if_pos h

theorem repolled_on (s : State) {nd : Node} (h : 0 < nd.code) :
    s.repolled nd = nd.dueAt s.clock (nextDue s nd.due (pollPeriod nd.code)) := if_neg (by omega)

theorem repolled_state (s : State) (nd : Node) : (s.repolled nd).state = nd.state ∧ (s.repolled nd).misses = nd.misses := by
  unfold State.repolled
  split <;> exact ⟨rfl, rfl⟩

theorem repolled_due (s : State) {nd : Node} (h : 0 < nd.code) :
    (s.repolled nd).due = some (nextDue s nd.due (pollPeriod nd.code)) := by
  rw [repolled_on s h]
  rfl

theorem rescheduleRead_step (s : State) (n : NodeId) :
    NodeStep n (s.repolled (s.node n)) [.nodes] 0 s (s.rescheduleRead n) := by
  unfold State.rescheduleRead
  dsimp only
  split
  · next hoff =>
    rw [repolled_off s hoff]
    exact (Touches.refl [] s).nodeStep n |>.mono (List.nil_subset _)
  · next hon =>
    rw [repolled_on s (by omega)]
    exact setDue_step s n _

/-! ### A change of state -/

/-- The ports on which a change of a node's state makes NODE pending (R149). -/
def State.watchesNode (s : State) (n : NodeId) (pt : Port) : Bool := (s.boundZone n).all fun z => inZoneSet pt.zoneSet z

/-- A new state of a node, with its NODE record and NODE attention (R149). -/
def State.noteState (s : State) (n : NodeId) (st : NodeState) : State :=
  ((s.modNode n fun nd => { nd with state := st }).offer (.node s.clock n (s.node n).state st)).pendWhere .node (s.watchesNode n)

/-- A zone is told that its sensor is lost (R23, R33, R130). -/
def State.tellZone (s : State) (n : NodeId) : State :=
  match s.boundAt n with
  | some (z, 2) => s.unseed z
  | some (z, 3) => s.holdLight z
  | _ => s

theorem setNodeState_same {s : State} {n : NodeId} {st : NodeState} (h : (s.node n).state = st) : s.setNodeState n st = s :=
  if_pos h

theorem setNodeState_changes {s : State} {n : NodeId} {st : NodeState} (h : (s.node n).state ≠ st) :
    s.setNodeState n st = if st = .stale ∨ st = .absent then (s.noteState n st).tellZone n else s.noteState n st := by
  have hbound : ((s.modNode n fun nd => { nd with state := st }).offer (.node s.clock n (s.node n).state st)).boundZone n =
      s.boundZone n :=
    (((modNode_touches s n _).mono (by decide : _ ⊆ .nodes :: reporting)).trans
      ((offer_signalled _ _).touches.mono (by decide))).boundZone n
  unfold State.setNodeState
  dsimp only
  rw [if_neg h, State.modNode_clock, hbound]
  unfold State.noteState State.watchesNode
  cases s.boundZone n <;> rfl

theorem noteState_step {s : State} {n : NodeId} {st : NodeState} (h : (s.node n).state ≠ st) :
    NodeStep n { s.node n with state := st } (.nodes :: reporting) 9 s (s.noteState n st) := by
  have hoffer := offer_signalled (s.modNode n fun nd => { nd with state := st }) (.node s.clock n (s.node n).state st)
  have hpend := pendWhere_signalled ((s.modNode n fun nd => { nd with state := st }).offer (.node s.clock n (s.node n).state st))
    .node (s.watchesNode n)
  have hreported := (hoffer.trans hpend).reported
  refine ⟨(nodeState_noted hoffer (offer_raises _ _) _).1, ?_, fun m hm => ?_, ?_, fun p => ?_⟩
  · exact (hreported.node n).trans (State.node_modNode_self s n _)
  · exact (hreported.node m).trans (State.node_modNode_ne s _ hm)
  · have hset : Logs s (s.modNode n fun nd => { nd with state := st }) [] := .of_same rfl rfl
    have hrecord := (hset.trans (.offer _ (.node s.clock n (s.node n).state st))).trans
      (.of_same (pendWhere_raises _ .node (s.watchesNode n)).anySubscribed (pendWhere_records _ _ _))
    have hchange : nodeChange s.clock n (s.node n).state st = [.node s.clock n (s.node n).state st] := if_neg h
    rw [hchange]
    exact .of_logs hrecord le_rfl
  · rw [State.noteState, hasAttn_pendWhere, (offer_raises _ _ p).others .node (by decide), State.modNode_port]
    simp only [decide_true, Bool.true_and, Bool.or_eq_true, State.watchesNode, Option.all_eq_true, (hoffer.reported.2 p).zoneSet,
      State.modNode_port, ne_eq, h, not_false_eq_true, true_and]
    rfl

theorem tellZone_touches (s : State) (n : NodeId) : Touches [.est, .det] s (s.tellZone n) := by
  unfold State.tellZone
  split
  · exact (unseed_touches s _).mono (by decide)
  · exact holdLight_touches s _
  · exact .refl _ s

/-- A change to a state in which the node answers, or is an actuator's, tells no zone (R149). -/
theorem setNodeState_live_step (s : State) (n : NodeId) {st : NodeState} (hlive : ¬ (st = .stale ∨ st = .absent)) :
    NodeStep n { s.node n with state := st } (.nodes :: reporting) 9 s (s.setNodeState n st) := by
  by_cases h : (s.node n).state = st
  · rw [setNodeState_same h]
    exact .of_same h
  · rw [setNodeState_changes h, if_neg hlive]
    exact noteState_step h

theorem setNodeState_step (s : State) (n : NodeId) (st : NodeState) :
    NodeStep n { s.node n with state := st } nodeEffects 9 s (s.setNodeState n st) := by
  by_cases hlost : st = .stale ∨ st = .absent
  · by_cases h : (s.node n).state = st
    · rw [setNodeState_same h]
      exact .of_same h
    · have hnoted := noteState_step h
      rw [setNodeState_changes h, if_pos hlost]
      exact (hnoted.mono (by decide)).then_still ((tellZone_touches (s.noteState n st) n).nodeStep n) (by decide)
  · exact (setNodeState_live_step s n hlost).mono (by decide)

theorem setNodeState_live_raises (s : State) (n : NodeId) {st : NodeState} (hlive : ¬ (st = .stale ∨ st = .absent)) :
    Raises [.watermark, .watchMatch, .node] s (s.setNodeState n st) := by
  by_cases h : (s.node n).state = st
  · rw [setNodeState_same h]
    exact .refl _ s
  · rw [setNodeState_changes h, if_neg hlive]
    exact (nodeState_noted (offer_signalled _ _) (offer_raises _ _) _).2.1

end Sys2Proof.Machine
end

section
/-! ## What a COMMAND or STATUS that has ended makes of its node (R151 to R153) -/

namespace Sys2Proof.Machine

open Sys2Proof

set_option Elab.async false

/-! ### The end of a transaction (R143, R144) -/

theorem exec_loopReply_live {s : State} {x : Transaction} (htxn : s.txn = some x) (hlive : x.abandoned = false)
    (bytes : List Byte) : exec (.loopReply bytes) s = .next (s.endTransaction x (replyData x.node x.op (s.node x.node).kind bytes)) := by
  show execLoopReply bytes s = _
  simp only [execLoopReply, htxn, hlive, Bool.false_eq_true, if_false]

theorem exec_loopReplyTimeout_live {s : State} {x : Transaction} (htxn : s.txn = some x) (hlive : x.abandoned = false) :
    exec .loopReplyTimeout s = .next (s.endTransaction x none) := by
  show execLoopReplyTimeout s = _
  simp only [execLoopReplyTimeout, htxn, hlive, Bool.false_eq_true, if_false]

/-- The loop is free (R143). -/
def State.loopFreed (s : State) : State := { s with txn := none }

theorem loopFreed_touches (s : State) : Touches [.txn] s s.loopFreed := txn_touches s none

theorem Touches.boundChan {F : List Part} {s t : State} (h : Touches F s t) (n : NodeId) (hF : Part.cfg ∉ F := by decide) :
    t.boundChan n = s.boundChan n := by
  unfold State.boundChan
  rw [h.boundAt n hF]

/-- What the outcome of a COMMAND or STATUS touches, seen from its node (R152, R153). -/
abbrev outcomeParts : List Part := .commands :: .nodes :: reporting

/-! ### An answer (R152) -/

/-- The entry of an actuator that has answered at `now`: READY, and due again in 5 s if it was SILENT (R152, R153). -/
def Node.answered (nd : Node) (now : GTime) : Node :=
  if nd.state = .silent then { nd with attempts := 0, retry := none, state := .ready }.dueAt now (now.plus statusPeriod)
  else { nd with attempts := 0, retry := none, state := .ready }

theorem answered_ready (nd : Node) (now : GTime) : (nd.answered now).state = .ready ∧ (nd.answered now).attempts = 0 ∧
    (nd.answered now).retry = none := by
  unfold Node.answered
  split <;> exact ⟨rfl, rfl, rfl⟩

theorem answered_due (nd : Node) (now : GTime) :
    (nd.answered now).due = if nd.state = .silent then some (now.plus statusPeriod) else nd.due := by
  unfold Node.answered
  split <;> rfl

/-- A node READY with count 0 (R152). -/
def State.markAnswered (s : State) (n : NodeId) : State :=
  (s.modNode n fun nd => { nd with attempts := 0, retry := none }).setNodeState n .ready

/-- The value pending on the channel of a node, if there is one, joins the command list (R152). -/
def State.resumePending (s : State) (n : NodeId) : State :=
  match s.boundChan n with
  | some (z, ch) => if (s.chan z ch).pending.isSome then s.enlist z ch else s
  | none => s

section

variable (s : State) (n : NodeId)

theorem markAnswered_step : NodeStep n { s.node n with attempts := 0, retry := none, state := .ready } (.nodes :: reporting) 9 s
    (s.markAnswered n) := by
  have hcount := modNode_step s n (fun nd => { nd with attempts := 0, retry := none }) rfl
  have hready := setNodeState_live_step (s.modNode n fun nd => { nd with attempts := 0, retry := none }) n
    (st := .ready) (by decide)
  rw [hcount.node] at hready
  exact (hcount.mono (by decide)).trans hready (.inl rfl)

theorem markAnswered_raises : Raises [.watermark, .watchMatch, .node] s (s.markAnswered n) :=
  (Raises.of_ports _ rfl).trans (setNodeState_live_raises (s.modNode n _) n (by decide))

theorem resumePending_touches : Touches [.commands] s (s.resumePending n) := by
  unfold State.resumePending
  split
  · split
    · exact enlist_touches s _ _
    · exact .refl _ s
  · exact .refl _ s

theorem resumePending_ports : (s.resumePending n).ports = s.ports := by
  unfold State.resumePending
  split
  · split
    · exact enlist_ports s _ _
    · rfl
  · rfl

variable {s n}

theorem nodeAnswered_silent (h : (s.node n).state = .silent) :
    s.nodeAnswered n = ((s.markAnswered n).setDue n (s.clock.plus statusPeriod)).resumePending n := by
  have hclock : (s.markAnswered n).clock = s.clock := (markAnswered_step s n).touches .clock (by decide)
  rw [← hclock]
  unfold State.nodeAnswered
  simp only [h, beq_self_eq_true, if_true]
  rfl

theorem nodeAnswered_awake (h : (s.node n).state ≠ .silent) : s.nodeAnswered n = s.markAnswered n := by
  unfold State.nodeAnswered
  simp only [beq_false_of_ne h, Bool.false_eq_true, if_false]
  rfl

variable (s n)

theorem nodeAnswered_step : NodeStep n ((s.node n).answered s.clock) outcomeParts 9 s (s.nodeAnswered n) := by
  have hmarked := markAnswered_step s n
  by_cases h : (s.node n).state = .silent
  · have hclock : (s.markAnswered n).clock = s.clock := hmarked.touches .clock (by decide)
    have hdue := setDue_step (s.markAnswered n) n (s.clock.plus statusPeriod)
    have hresumed := (resumePending_touches ((s.markAnswered n).setDue n (s.clock.plus statusPeriod)) n).nodeStep n
    rw [hdue.node] at hresumed
    rw [hmarked.node, hclock] at hdue hresumed
    rw [nodeAnswered_silent h, Node.answered, if_pos h]
    exact ((hmarked.mono (by decide)).then_mono hdue (by decide) (.inr rfl)).then_mono hresumed (by decide) (.inr rfl)
  · rw [nodeAnswered_awake h, Node.answered, if_neg h]
    exact hmarked.mono (by decide)

theorem nodeAnswered_raises : Raises [.watermark, .watchMatch, .node] s (s.nodeAnswered n) := by
  have hmarked := markAnswered_raises s n
  by_cases h : (s.node n).state = .silent
  · rw [nodeAnswered_silent h]
    exact (hmarked.trans (.of_ports _ rfl)).trans
      (.of_ports _ (resumePending_ports ((s.markAnswered n).setDue n (s.clock.plus statusPeriod)) n))
  · rw [nodeAnswered_awake h]
    exact hmarked

/-- A node whose channel has no value pending puts nothing in the command list. -/
theorem nodeAnswered_commands {z : ZoneId} {ch : ChanKind} (hbound : s.boundChan n = some (z, ch))
    (hpending : (s.chan z ch).pending = none) : (s.nodeAnswered n).commands = s.commands := by
  have hmarked := (markAnswered_step s n).touches
  have hcommands : (s.markAnswered n).commands = s.commands := hmarked .commands (by decide)
  by_cases h : (s.node n).state = .silent
  · have hdue : Touches (.nodes :: reporting) s ((s.markAnswered n).setDue n (s.clock.plus statusPeriod)) :=
      hmarked.then_mono (setDue_touches _ n _) (by decide)
    rw [nodeAnswered_silent h, State.resumePending, hdue.boundChan, hbound]
    simp only [hdue.chan z ch, hpending, Option.isSome_none, Bool.false_eq_true, if_false]
    exact hcommands
  · rw [nodeAnswered_awake h, hcommands]

theorem rescheduleStatus_step : NodeStep n ((s.node n).dueAt s.clock (nextDue s (s.node n).due statusPeriod)) [.nodes] 0 s
    (s.rescheduleStatus n) := setDue_step s n _

end

theorem nextDue_congr {s t : State} (h : t.clock = s.clock) (due : Option GTime) (period : Nat) :
    nextDue t due period = nextDue s due period := by
  simp only [nextDue, h]

end Sys2Proof.Machine
end

section
/-! ## A good reply to a COMMAND or a STATUS (R91, R151 to R153) -/

namespace Sys2Proof.Machine

open Sys2Proof

set_option Elab.async false

/-! ### The frame -/

theorem replyBody_value (n : NodeId) {op : LoopOp} {kind : NodeKind} {ch : ChanKind} {v : Int} (hop : op ≠ .read)
    (hkind : chanOfKind kind = some ch) (hv : inChanRange ch v = true) :
    replyBody n op kind (u1 (n.val + 1 + 0x80) :: 0 :: s2 v) = some (.value v) := by
  have hrange : -0x8000 ≤ v ∧ v < 0x8000 := by
    simp only [inChanRange, Bool.and_eq_true, decide_eq_true_eq] at hv
    cases ch <;> simp only [chanRange] at hv <;> omega
  have hv16 : s16 (u1 ((v % 0x10000).toNat / 0x100)) (u1 (v % 0x10000).toNat) = v := s16_bytes hrange.1 hrange.2
  cases op with
  | read => exact absurd rfl hop
  | status => simp only [s2, u2, replyBody, hv16, hkind, hv, nodeAddr, and_self, if_true]
  | command => simp only [s2, u2, replyBody, hv16, hkind, hv, nodeAddr, and_self, if_true]

/-! ### ACT_LIMITED (R91) -/

/-- ACT_LIMITED joins the sticky set of a zone whose equipment did not take a value (R91). -/
def State.noteLimited (s : State) (z : ZoneId) (limited : Bool) : State := if limited then s.addSticky z .actLimited else s

theorem Touches.stickyReported {F : List Part} {s t : State} (h : Touches F s t) (z : ZoneId)
    (hF : ∀ k ∈ [Part.sticky, .attn], k ∉ F := by decide) : StickyReported s t z :=
  .of_same (h.zoneSticky z (hF _ (by decide))) fun p => h.attention p _ (hF _ (by decide))

section

variable (s : State) (z : ZoneId) (limited : Bool)

theorem noteLimited_touches : Touches (.sticky :: reporting) s (s.noteLimited z limited) := by
  unfold State.noteLimited
  split
  · exact (addSticky_inZone s z _).touches
  · exact .refl _ s

theorem noteLimited_commands : (s.noteLimited z limited).commands = s.commands :=
  noteLimited_touches s z limited .commands (by decide)

theorem noteLimited_chan (x : ZoneId) (ch : ChanKind) : (s.noteLimited z limited).chan x ch = s.chan x ch :=
  (noteLimited_touches s z limited).chan x ch

theorem noteLimited_step (n : NodeId) : NodeStep n (s.node n) (.sticky :: reporting) 0 s (s.noteLimited z limited) := by
  refine .of_other (B := [.zoneCondition]) (noteLimited_touches s z limited) (.of_silent ?_ 0) ?_
  · unfold State.noteLimited
    split
    · exact .of_same (addSticky_raises s z _).anySubscribed (addSticky_records s z _)
    · exact .refl s
  · unfold State.noteLimited
    split
    · exact addSticky_raises s z _
    · exact .refl _ s

theorem noteLimited_stickyReported : StickyReported s (s.noteLimited z limited) z := by
  unfold State.noteLimited
  split
  · exact addSticky_stickyReported s z _
  · exact .refl s z

theorem noteLimited_hasCond :
    hasCond ((s.noteLimited z limited).zone z).sticky .actLimited = (hasCond (s.zone z).sticky .actLimited || limited) := by
  unfold State.noteLimited
  cases limited
  · simp
  · simp [addSticky_hasCond]

end

/-! ### What the reply makes of the channel -/

/-- A channel once a COMMAND with the value `v` has been confirmed (R151). -/
def Channel.confirmed (c : Channel) (v : Int) : Channel :=
  { c with applied := some v, pending := if c.replaced then c.pending else none, sent := none, replaced := false }

/-- A COMMAND that ends leaves no sent value, and, if it was not replaced, no pending value and no place in the command list
(R151). -/
def State.closeCommand (s : State) (z : ZoneId) (ch : ChanKind) (replaced : Bool) : State :=
  (if replaced then s else (s.modChan z ch fun c => { c with pending := none }).delist z ch).modChan z ch
    fun c => { c with sent := none, replaced := false }

/-- The value that the equipment reports is the channel's applied value (R91). -/
def State.setApplied (s : State) (z : ZoneId) (ch : ChanKind) (v : Int) : State :=
  s.modChan z ch fun c => { c with applied := some v }

/-- A COMMAND is confirmed with the value `v` (R91, R151). -/
def State.commandConfirmed (s : State) (z : ZoneId) (ch : ChanKind) (v : Int) : State :=
  ((s.setApplied z ch v).noteLimited z (decide ((s.chan z ch).sent ≠ some v))).closeCommand z ch (s.chan z ch).replaced

/-- Whether a STATUS reports a value other than the one held (R91). -/
def Channel.movedFrom (c : Channel) (v : Int) : Bool := c.applied.any fun a => decide (a ≠ v)

/-- A STATUS reports the value `v` (R91, R153). -/
def State.statusConfirmed (s : State) (z : ZoneId) (ch : ChanKind) (v : Int) : State :=
  (s.noteLimited z ((s.chan z ch).movedFrom v)).setApplied z ch v

/-- What a confirmed value touches. -/
abbrev confirmedParts : List Part := [.delivery, .commands, .sticky] ++ reporting

section

variable (s : State) (z : ZoneId) (ch : ChanKind) (v : Int) (replaced : Bool)

theorem setApplied_touches : Touches [.delivery] s (s.setApplied z ch v) := modChan_touches s z ch _

theorem setApplied_chan : (s.setApplied z ch v).chan z ch = { s.chan z ch with applied := some v } :=
  State.chan_modChan_self s z ch _

theorem closeCommand_touches : Touches [.delivery, .commands] s (s.closeCommand z ch replaced) := by
  unfold State.closeCommand
  cases replaced
  · have hdropped : Touches [.delivery, .commands] s ((s.modChan z ch fun c => { c with pending := none }).delist z ch) :=
      Touches.then_mono (modChan_touches s z ch _) (delist_touches _ z ch) (by decide)
    exact hdropped.trans (modChan_touches _ z ch _)
  · exact modChan_touches s z ch _

theorem closeCommand_chan : (s.closeCommand z ch replaced).chan z ch =
    { s.chan z ch with pending := if replaced then (s.chan z ch).pending else none, sent := none, replaced := false } := by
  unfold State.closeCommand
  rw [State.chan_modChan_self]
  cases replaced
  · have hdropped : ((s.modChan z ch fun c => { c with pending := none }).delist z ch).chan z ch =
        { s.chan z ch with pending := none } := State.chan_modChan_self s z ch _
    simp only [Bool.false_eq_true, if_false, hdropped]
  · simp only [if_true]

theorem closeCommand_commands :
    (s.closeCommand z ch replaced).commands = if replaced then s.commands else s.commands.filter (· != (z, ch)) := by
  unfold State.closeCommand
  cases replaced <;> rfl

theorem commandConfirmed_chan : (s.commandConfirmed z ch v).chan z ch = (s.chan z ch).confirmed v := by
  rw [State.commandConfirmed, closeCommand_chan, noteLimited_chan, setApplied_chan]
  rfl

theorem commandConfirmed_commands : (s.commandConfirmed z ch v).commands =
    if (s.chan z ch).replaced then s.commands else s.commands.filter (· != (z, ch)) := by
  rw [State.commandConfirmed, closeCommand_commands, noteLimited_commands]
  rfl

theorem commandConfirmed_step (n : NodeId) : NodeStep n (s.node n) confirmedParts 0 s (s.commandConfirmed z ch v) :=
  (((setApplied_touches s z ch v).nodeStep n |>.mono (by decide)).then_still (noteLimited_step _ z _ n) (by decide)).then_still
    ((closeCommand_touches _ z ch _).nodeStep n) (by decide)

theorem commandConfirmed_stickyReported : StickyReported s (s.commandConfirmed z ch v) z := by
  have happlied := setApplied_touches s z ch v
  have hlimited := noteLimited_touches (s.setApplied z ch v) z (decide ((s.chan z ch).sent ≠ some v))
  exact ((happlied.stickyReported z).trans happlied (noteLimited_stickyReported _ z _)).trans
    ((happlied.mono (by decide)).then_mono (F := confirmedParts) hlimited (by decide))
    ((closeCommand_touches _ z ch _).stickyReported z)

theorem commandConfirmed_hasCond : hasCond ((s.commandConfirmed z ch v).zone z).sticky .actLimited =
    (hasCond (s.zone z).sticky .actLimited || decide ((s.chan z ch).sent ≠ some v)) := by
  rw [State.commandConfirmed, (closeCommand_touches _ z ch _).zoneSticky z, noteLimited_hasCond,
    (setApplied_touches s z ch v).zoneSticky z]

theorem statusConfirmed_chan : (s.statusConfirmed z ch v).chan z ch = { s.chan z ch with applied := some v } := by
  rw [State.statusConfirmed, setApplied_chan, noteLimited_chan]

theorem statusConfirmed_step (n : NodeId) : NodeStep n (s.node n) confirmedParts 0 s (s.statusConfirmed z ch v) :=
  ((noteLimited_step s z _ n).mono (by decide)).then_still ((setApplied_touches _ z ch v).nodeStep n) (by decide)

theorem statusConfirmed_stickyReported : StickyReported s (s.statusConfirmed z ch v) z :=
  (noteLimited_stickyReported s z _).trans (noteLimited_touches s z _) ((setApplied_touches _ z ch v).stickyReported z)

theorem statusConfirmed_hasCond : hasCond ((s.statusConfirmed z ch v).zone z).sticky .actLimited =
    (hasCond (s.zone z).sticky .actLimited || (s.chan z ch).movedFrom v) := by
  rw [State.statusConfirmed, (setApplied_touches _ z ch v).zoneSticky z, noteLimited_hasCond]

end

theorem movedFrom_iff {c : Channel} {v : Int} : c.movedFrom v = true ↔ ∃ a, c.applied = some a ∧ a ≠ v := by
  simp only [Channel.movedFrom, Option.any_eq_true, decide_eq_true_eq]

/-! ### The outcome as a whole -/

section

variable {s : State} {n : NodeId} {z : ZoneId} {ch : ChanKind}

theorem endCommand_value (hbound : s.boundChan n = some (z, ch)) (v : Int) : s.endCommand n (some (.value v)) =
    ((s.commandConfirmed z ch v).nodeAnswered n).setDue n (s.clock.plus statusPeriod) := by
  have hclock : (s.commandConfirmed z ch v).clock = s.clock := (commandConfirmed_step s z ch v n).touches .clock (by decide)
  rw [← hclock]
  unfold State.endCommand State.commandConfirmed State.noteLimited State.closeCommand
  simp only [hbound, decide_eq_true_eq, ne_eq, ite_not]
  rfl

theorem endStatus_value (hbound : s.boundChan n = some (z, ch)) (v : Int) : s.endStatus n (some (.value v)) =
    if (s.node n).state = .silent then (s.statusConfirmed z ch v).nodeAnswered n
      else ((s.statusConfirmed z ch v).nodeAnswered n).rescheduleStatus n := by
  unfold State.endStatus State.statusConfirmed State.noteLimited Channel.movedFrom
  simp only [hbound, beq_iff_eq]
  cases (s.chan z ch).applied <;> rfl

/-- What an answered COMMAND or STATUS leaves of the node, the channel and the zone's sticky set (R91, R151 to R153). -/
structure ValueTaken (n : NodeId) (new : Node) (z : ZoneId) (ch : ChanKind) (c : Channel) (limited : Bool)
    (s t : State) : Prop where
  node   : NodeStep n new (.nodes :: confirmedParts) 9 s t
  chan   : t.chan z ch = c
  acts   : hasCond (t.zone z).sticky .actLimited = (hasCond (s.zone z).sticky .actLimited || limited)
  sticky : StickyReported s t z

variable {c : Channel} {limited : Bool} {new : Node} {t u : State}

/-- The node has answered, and its value has been taken. -/
theorem ValueTaken.of_confirmed (hstep : NodeStep n (s.node n) confirmedParts 0 s u) (hchan : u.chan z ch = c)
    (hacts : hasCond (u.zone z).sticky .actLimited = (hasCond (s.zone z).sticky .actLimited || limited))
    (hsticky : StickyReported s u z) : ValueTaken n ((s.node n).answered s.clock) z ch c limited s (u.nodeAnswered n) := by
  have hclock : u.clock = s.clock := hstep.touches .clock (by decide)
  have hanswered := nodeAnswered_step u n
  rw [hstep.node, hclock] at hanswered
  have htaken : NodeStep n (s.node n) (.nodes :: confirmedParts) 0 s u := hstep.mono (by decide)
  refine ⟨htaken.then_mono hanswered (by decide) (.inl rfl), (hanswered.touches.chan z ch).trans hchan, ?_, ?_⟩
  · rw [hanswered.touches.zoneSticky z, hacts]
  · exact hsticky.trans hstep.touches
      (.of_same (hanswered.touches.zoneSticky z) fun p => (nodeAnswered_raises u n p).others _ (by decide))

theorem ValueTaken.setDue (h : ValueTaken n new z ch c limited s t) (due : GTime) :
    ValueTaken n (new.dueAt s.clock due) z ch c limited s (t.setDue n due) := by
  have hdue := setDue_step t n due
  rw [h.node.node, show t.clock = s.clock from h.node.touches .clock (by decide)] at hdue
  have htouch := setDue_touches t n due
  refine ⟨h.node.then_mono hdue (by decide) (.inr rfl), (htouch.chan z ch).trans h.chan, ?_, ?_⟩
  · rw [htouch.zoneSticky z, h.acts]
  · exact h.sticky.trans h.node.touches (htouch.stickyReported z)

/-- The loop is freed before the value is taken. -/
theorem ValueTaken.of_freed (h : ValueTaken n new z ch c limited s.loopFreed t) :
    t.txn = none ∧ NodeStep n new (.txn :: .nodes :: confirmedParts) 9 s t ∧ StickyReported s t z := by
  have hfreed := loopFreed_touches s
  exact ⟨h.node.touches .txn (by decide), ((hfreed.nodeStep n).mono (by decide)).then_mono h.node (by decide) (.inl rfl),
    (hfreed.stickyReported z).trans hfreed h.sticky⟩

section

variable (hbound : s.boundChan n = some (z, ch)) (v : Int)

include hbound

/-- R151: a COMMAND confirmed with `v`. -/
theorem endCommand_taken :
    ValueTaken n (((s.node n).answered s.clock).dueAt s.clock (s.clock.plus statusPeriod)) z ch ((s.chan z ch).confirmed v)
      (decide ((s.chan z ch).sent ≠ some v)) s (s.endCommand n (some (.value v))) := by
  rw [endCommand_value hbound]
  exact (ValueTaken.of_confirmed (commandConfirmed_step s z ch v n) (commandConfirmed_chan s z ch v)
    (commandConfirmed_hasCond s z ch v) (commandConfirmed_stickyReported s z ch v)).setDue _

/-- R151: a COMMAND that was not replaced leaves the list. -/
theorem endCommand_delists (hreplaced : (s.chan z ch).replaced = false) :
    (z, ch) ∉ (s.endCommand n (some (.value v))).commands := by
  have hpending : ((s.commandConfirmed z ch v).chan z ch).pending = none := by
    rw [commandConfirmed_chan, Channel.confirmed, hreplaced]
    rfl
  have hconfirmed := ((commandConfirmed_step s z ch v n).touches.boundChan n).trans hbound
  have hcommands : (s.endCommand n (some (.value v))).commands = ((s.commandConfirmed z ch v).nodeAnswered n).commands := by
    rw [endCommand_value hbound]
    rfl
  rw [hcommands, nodeAnswered_commands _ n hconfirmed hpending, commandConfirmed_commands, hreplaced]
  simp

end

/-- The entry of an actuator after an answered STATUS (R153). -/
def State.statusAnswered (s : State) (nd : Node) : Node :=
  if nd.state = .silent then nd.answered s.clock else (nd.answered s.clock).dueAt s.clock (nextDue s nd.due statusPeriod)

theorem statusAnswered_entry (s : State) (nd : Node) : (s.statusAnswered nd).state = .ready ∧ (s.statusAnswered nd).attempts = 0 ∧
    (s.statusAnswered nd).retry = none ∧ (s.statusAnswered nd).due =
      some (if nd.state = .silent then s.clock.plus statusPeriod else nextDue s nd.due statusPeriod) := by
  obtain ⟨hready, hattempts, hretry⟩ := answered_ready nd s.clock
  unfold State.statusAnswered
  by_cases h : nd.state = .silent
  · simp only [h, if_true]
    exact ⟨hready, hattempts, hretry, by rw [answered_due, if_pos h]⟩
  · simp only [h, if_false]
    exact ⟨hready, hattempts, hretry, rfl⟩

/-- R153: a STATUS answered with `v`. -/
theorem endStatus_taken (hbound : s.boundChan n = some (z, ch)) (v : Int) :
    ValueTaken n (s.statusAnswered (s.node n)) z ch { s.chan z ch with applied := some v } ((s.chan z ch).movedFrom v) s
      (s.endStatus n (some (.value v))) := by
  have htaken := ValueTaken.of_confirmed (statusConfirmed_step s z ch v n) (statusConfirmed_chan s z ch v)
    (statusConfirmed_hasCond s z ch v) (statusConfirmed_stickyReported s z ch v)
  rw [endStatus_value hbound, State.statusAnswered]
  by_cases hsilent : (s.node n).state = .silent
  · rw [if_pos hsilent, if_pos hsilent]
    exact htaken
  · have hdue : nextDue ((s.statusConfirmed z ch v).nodeAnswered n) (((s.statusConfirmed z ch v).nodeAnswered n).node n).due
        statusPeriod = nextDue s (s.node n).due statusPeriod := by
      rw [htaken.node.node, answered_due, if_neg hsilent]
      exact nextDue_congr (htaken.node.touches .clock (by decide)) _ _
    rw [if_neg hsilent, if_neg hsilent, ← hdue]
    exact htaken.setDue _

end

/-- The frame of a good reply to a COMMAND or a STATUS (R144, R183). -/
theorem exec_valueReply {s : State} {n : NodeId} {op : LoopOp} {value v : Int} {ch : ChanKind}
    (htxn : s.txn = some { node := n, op := op, value := value, abandoned := false }) (hop : op ≠ .read)
    (hkind : chanOfKind (s.node n).kind = some ch) (hv : inChanRange ch v = true) :
    exec (.loopReply (replyFrame n (s2 v))) s =
      .next (s.endTransaction { node := n, op := op, value := value, abandoned := false } (some (.value v))) := by
  rw [exec_loopReply_live htxn rfl, replyData_replyFrame, replyBody_value n hop hkind hv]

end Sys2Proof.Machine

open Sys2Proof Sys2Proof.Machine

set_option Elab.async false

/-- Settles O48: the value is taken, with its ACT_LIMITED, before the node is marked as having answered, and of these two parts each
leaves what the other reports. -/
theorem actuatorRepliesAreApplied : Obligations.ActuatorRepliesAreApplied := by
  refine fun s n value v z ch hbound hkind hv => ⟨fun htxn => ?command, fun htxn => ?status⟩
  case command =>
    have hexec : exec (.loopReply (replyFrame n (s2 v))) s = .next (s.loopFreed.endCommand n (some (.value v))) :=
      exec_valueReply htxn (by decide) hkind hv
    have htaken : ValueTaken n (((s.node n).answered s.clock).dueAt s.clock (s.clock.plus statusPeriod)) z ch
        ((s.chan z ch).confirmed v) (decide ((s.chan z ch).sent ≠ some v)) s.loopFreed
        (s.loopFreed.endCommand n (some (.value v))) := endCommand_taken (s := s.loopFreed) hbound v
    obtain ⟨hidle, hnode, hsticky⟩ := htaken.of_freed
    obtain ⟨hready, hattempts, hretry⟩ := answered_ready (s.node n) s.clock
    refine ⟨_, hexec, hidle, congrArg Channel.applied htaken.chan, congrArg Channel.sent htaken.chan,
      congrArg Channel.replaced htaken.chan, fun hreplaced => ⟨?_, endCommand_delists (s := s.loopFreed) hbound v hreplaced⟩,
      fun hreplaced => ?_, ?_, (congrArg Node.state hnode.node).trans hready, (congrArg Node.attempts hnode.node).trans hattempts,
      (congrArg Node.retry hnode.node).trans hretry, congrArg Node.due hnode.node, hnode.others, hnode.reported, hsticky,
      hnode.touches.mono (by decide)⟩
    · rw [htaken.chan, Channel.confirmed, hreplaced]
      rfl
    · rw [htaken.chan, Channel.confirmed, hreplaced]
      rfl
    · rw [htaken.acts, Bool.or_eq_true, decide_eq_true_iff]
      rfl
  case status =>
    have hexec : exec (.loopReply (replyFrame n (s2 v))) s = .next (s.loopFreed.endStatus n (some (.value v))) :=
      exec_valueReply htxn (by decide) hkind hv
    have htaken : ValueTaken n (s.statusAnswered (s.node n)) z ch { s.chan z ch with applied := some v }
        ((s.chan z ch).movedFrom v) s.loopFreed (s.loopFreed.endStatus n (some (.value v))) :=
      endStatus_taken (s := s.loopFreed) hbound v
    obtain ⟨hidle, hnode, hsticky⟩ := htaken.of_freed
    obtain ⟨hready, hattempts, hretry, hdue⟩ := statusAnswered_entry s (s.node n)
    refine ⟨_, hexec, hidle, congrArg Channel.applied htaken.chan, by rw [htaken.chan],
      by rw [htaken.chan], ?_, (congrArg Node.state hnode.node).trans hready,
      (congrArg Node.attempts hnode.node).trans hattempts, (congrArg Node.retry hnode.node).trans hretry,
      (congrArg Node.due hnode.node).trans hdue, hnode.others, hnode.reported, hsticky, hnode.touches.mono (by decide)⟩
    rw [htaken.acts, Bool.or_eq_true, movedFrom_iff]
    rfl

end

section
/-! ## Failed transactions (R143, R144, R148, R152) -/

namespace Sys2Proof.Machine

open Sys2Proof

set_option Elab.async false

/-! ### The end of a READ (R148) -/

theorem repolled_congr {s t : State} (h : t.clock = s.clock) (nd : Node) : t.repolled nd = s.repolled nd := by
  simp only [State.repolled, h, nextDue_congr h]

/-- A READ that ends: the misses counted, the state that follows from it, and the next due time (R148). -/
theorem readEnded_step {F : List Part} {n : NodeId} {st : NodeState}
    (hstate : ∀ u : State, NodeStep n { u.node n with state := st } F 9 u (u.setNodeState n st)) (s : State) (misses : Nat)
    (hs : [Part.nodes] ⊆ F := by decide) (hF : ∀ k ∈ [Part.clock, .cfg, .settings], k ∉ F := by decide) :
    NodeStep n (s.repolled { s.node n with misses := misses, state := st }) F 9 s
      (((s.modNode n fun nd => { nd with misses := misses }).setNodeState n st).rescheduleRead n) := by
  have hcount := modNode_step s n (fun nd => { nd with misses := misses }) rfl
  have hset := hstate (s.modNode n fun nd => { nd with misses := misses })
  rw [hcount.node] at hset
  have hended := (hcount.mono hs).trans hset (.inl rfl) hF
  have hdue := rescheduleRead_step ((s.modNode n fun nd => { nd with misses := misses }).setNodeState n st) n
  rw [hended.node, repolled_congr (hended.touches .clock (hF _ (by decide)))] at hdue
  exact hended.then_mono hdue hs (.inr (repolled_state s _).1) hF

/-- The entry of a sensor whose READ has failed, before it is due again (R148). -/
def Node.missed (nd : Node) (limit : Nat) : Node :=
  { nd with misses := min 16 (nd.misses + 1), state := missState nd.state (min 16 (nd.misses + 1)) limit }

/-- R148: a failed READ counts a miss. -/
theorem endRead_missed (s : State) (n : NodeId) :
    NodeStep n (s.repolled ((s.node n).missed (s.staleLimit n))) nodeEffects 9 s (s.endRead n none) :=
  readEnded_step (fun u => setNodeState_step u n _) s _

theorem missed_heard {nd : Node} (h : nd.state = .fresh ∨ nd.state = .late) (limit : Nat) :
    (nd.missed limit).state = if limit ≤ (nd.missed limit).misses then .stale else .late := by
  obtain h | h := h <;> simp only [Node.missed, missState, h]

theorem missed_unheard {nd : Node} (hfresh : nd.state ≠ .fresh) (hlate : nd.state ≠ .late) (limit : Nat) :
    (nd.missed limit).state = nd.state := by
  cases h : nd.state
  case fresh => exact absurd h hfresh
  case late => exact absurd h hlate
  all_goals simp only [Node.missed, missState, h]

/-! ### A failed COMMAND or STATUS (R152) -/

/-- The entry of an actuator whose fourth attempt in a row fails at `now` (R152). -/
def Node.silenced (nd : Node) (now : GTime) : Node :=
  { nd with attempts := 4, state := .silent, due := none, waiting := false, retry := some (now.plus retryPeriod) }

/-- The entry of an actuator whose COMMAND or STATUS has failed at `now`: at the fourth attempt it is SILENT (R152). -/
def Node.failed (nd : Node) (now : GTime) : Node :=
  if 3 ≤ nd.attempts then nd.silenced now else { nd with attempts := nd.attempts + 1 }

/-- A node SILENT at the fourth failure in a row (R152). -/
def State.markSilent (s : State) (n : NodeId) : State :=
  ((s.modNode n fun nd => { nd with attempts := 4 }).setNodeState n .silent).modNode n fun nd =>
    { nd with due := none, waiting := false, retry := some (s.clock.plus retryPeriod) }

/-- The channel of a node leaves the command list (R152). -/
def State.delistNode (s : State) (n : NodeId) : State :=
  match s.boundChan n with
  | some (z, ch) => s.delist z ch
  | none => s

section

variable (s : State) (n : NodeId)

theorem markSilent_step : NodeStep n ((s.node n).silenced s.clock) (.nodes :: reporting) 9 s (s.markSilent n) := by
  have hcount := modNode_step s n (fun nd => { nd with attempts := 4 }) rfl
  have hset := setNodeState_live_step (s.modNode n fun nd => { nd with attempts := 4 }) n (st := .silent) (by decide)
  rw [hcount.node] at hset
  have hsilent := (hcount.mono (by decide : _ ⊆ .nodes :: reporting)).trans hset (.inl rfl)
  have htimes := modNode_step ((s.modNode n fun nd => { nd with attempts := 4 }).setNodeState n .silent) n
    (fun nd => { nd with due := none, waiting := false, retry := some (s.clock.plus retryPeriod) }) rfl
  rw [hsilent.node] at htimes
  exact hsilent.then_mono htimes (by decide) (.inr rfl)

theorem delistNode_touches : Touches [.commands] s (s.delistNode n) := by
  unfold State.delistNode
  split
  · exact delist_touches s _ _
  · exact .refl _ s

variable {s n}

theorem nodeFailed_early (h : (s.node n).attempts < 3) :
    s.nodeFailed n = s.modNode n fun nd => { nd with attempts := (s.node n).attempts + 1 } := by
  have hcount : min silentLimit ((s.node n).attempts + 1) = (s.node n).attempts + 1 := min_eq_right (by unfold silentLimit; omega)
  have hfew : ¬ silentLimit ≤ (s.node n).attempts + 1 := by unfold silentLimit; omega
  unfold State.nodeFailed
  dsimp only
  rw [hcount, if_neg hfew]

theorem nodeFailed_last (h : 3 ≤ (s.node n).attempts) : s.nodeFailed n = (s.markSilent n).delistNode n := by
  have hcount : min silentLimit ((s.node n).attempts + 1) = 4 := min_eq_left (by unfold silentLimit; omega)
  have hclock : ((s.modNode n fun nd => { nd with attempts := 4 }).setNodeState n .silent).clock = s.clock :=
    (setNodeState_touches _ n .silent) .clock (by decide)
  unfold State.nodeFailed State.markSilent
  dsimp only
  rw [hcount, if_pos (show silentLimit ≤ 4 from le_rfl), hclock]
  rfl

variable (s n)

theorem nodeFailed_step : NodeStep n ((s.node n).failed s.clock) outcomeParts 9 s (s.nodeFailed n) := by
  unfold Node.failed
  by_cases h : 3 ≤ (s.node n).attempts
  · rw [if_pos h, nodeFailed_last h]
    exact ((markSilent_step s n).mono (by decide)).then_still ((delistNode_touches _ n).nodeStep n) (by decide)
  · rw [if_neg h, nodeFailed_early (by omega)]
    have hcount := modNode_step s n (fun nd => { nd with attempts := (s.node n).attempts + 1 }) rfl
    have hcounted : NodeStep n _ outcomeParts 0 s _ := hcount.mono (by decide)
    exact hcounted.widen (by decide)

variable {s n} {z : ZoneId} {ch : ChanKind}

/-- R152: the channel of a node that becomes SILENT leaves the command list, and no other failure moves the list. -/
theorem nodeFailed_commands (hbound : s.boundChan n = some (z, ch)) : (s.nodeFailed n).commands =
    if 3 ≤ (s.node n).attempts then s.commands.filter (· != (z, ch)) else s.commands := by
  by_cases h : 3 ≤ (s.node n).attempts
  · have hsilent := (markSilent_step s n).touches
    have hcommands : (s.markSilent n).commands = s.commands := hsilent .commands (by decide)
    rw [if_pos h, nodeFailed_last h, State.delistNode, hsilent.boundChan, hbound]
    exact congrArg _ hcommands
  · rw [if_neg h, nodeFailed_early (by omega), State.modNode_commands]

end

/-! ### The outcome as a whole -/

/-- What a failed attempt makes of an actuator's entry (R152). -/
structure AttemptCounted (now : GTime) (before after : Node) : Prop where
  attempts : after.attempts = min 4 (before.attempts + 1)
  last     : 3 ≤ before.attempts → after.state = .silent ∧ after.retry = some (now.plus 10) ∧ after.due = none
  early    : before.attempts < 3 → after.state = before.state ∧ after.retry = before.retry

theorem failed_counted (nd : Node) (now : GTime) : AttemptCounted now nd (nd.failed now) := by
  unfold Node.failed
  split
  · next h => exact ⟨show 4 = min 4 (nd.attempts + 1) by omega, fun _ => ⟨rfl, rfl, rfl⟩, fun hfew => absurd hfew (by omega)⟩
  · next h => exact ⟨show nd.attempts + 1 = min 4 (nd.attempts + 1) by omega, fun hlast => absurd hlast h, fun _ => ⟨rfl, rfl⟩⟩

/-- What a failed COMMAND or STATUS leaves of the node, its channel and the command list (R151 to R153). -/
structure ActuatorFailed (n : NodeId) (z : ZoneId) (ch : ChanKind) (s t : State) : Prop where
  node     : ∃ new, NodeStep n new (.delivery :: outcomeParts) 9 s t ∧ AttemptCounted s.clock (s.node n) new
  pending  : (t.chan z ch).pending = (s.chan z ch).pending
  applied  : (t.chan z ch).applied = (s.chan z ch).applied
  commands : t.commands = if 3 ≤ (s.node n).attempts then s.commands.filter (· != (z, ch)) else s.commands

/-- The next poll of a node after a failed STATUS, unless it is SILENT (R153). -/
def State.repollStatus (s : State) (n : NodeId) : State := if (s.node n).state = .silent then s else s.rescheduleStatus n

theorem repollStatus_step (s : State) (n : NodeId) : ∃ new, NodeStep n new [.nodes] 0 s (s.repollStatus n) ∧
    new.state = (s.node n).state ∧ new.attempts = (s.node n).attempts ∧ new.retry = (s.node n).retry ∧
    ((s.node n).state = .silent → new.due = (s.node n).due) := by
  unfold State.repollStatus
  split
  · exact ⟨_, .of_same rfl, rfl, rfl, rfl, fun _ => rfl⟩
  · next h => exact ⟨_, rescheduleStatus_step s n, rfl, rfl, rfl, fun hsilent => absurd hsilent h⟩

section

variable {s : State} {n : NodeId} {z : ZoneId} {ch : ChanKind} (hbound : s.boundChan n = some (z, ch))

include hbound

theorem nodeFailed_outcome : ActuatorFailed n z ch s (s.nodeFailed n) := by
  have hstep := nodeFailed_step s n
  have hchan := hstep.touches.chan z ch
  exact ⟨⟨_, hstep.mono (by decide), failed_counted _ _⟩, by rw [hchan], by rw [hchan], nodeFailed_commands hbound⟩

/-- R151: a failed COMMAND has no sent value any more. -/
theorem endCommand_fails : ActuatorFailed n z ch s (s.endCommand n none) ∧
    ((s.endCommand n none).chan z ch).sent = none ∧ ((s.endCommand n none).chan z ch).replaced = false := by
  have hended : s.endCommand n none = (s.modChan z ch fun c => { c with sent := none, replaced := false }).nodeFailed n := by
    simp only [State.endCommand, hbound]
  have hsent : Touches [.delivery] s (s.modChan z ch fun c => { c with sent := none, replaced := false }) :=
    modChan_touches s z ch _
  have hstep := nodeFailed_step (s.modChan z ch fun c => { c with sent := none, replaced := false }) n
  have hchan := hstep.touches.chan z ch
  rw [State.chan_modChan_self] at hchan
  rw [hended, hchan]
  refine ⟨⟨⟨_, ((hsent.nodeStep n).mono (by decide)).then_mono hstep (by decide) (.inl rfl), failed_counted _ _⟩, ?_, ?_, ?_⟩,
    rfl, rfl⟩
  · rw [hchan]
  · rw [hchan]
  · exact nodeFailed_commands ((hsent.boundChan n).trans hbound)

/-- R153: a failed STATUS of a node that is not SILENT is due again. -/
theorem endStatus_fails : ActuatorFailed n z ch s (s.endStatus n none) := by
  have hended : s.endStatus n none = (s.nodeFailed n).repollStatus n := by
    simp only [State.endStatus, hbound, beq_iff_eq]
    rfl
  obtain ⟨⟨new, hstep, hcounted⟩, hpending, happlied, hcommands⟩ := nodeFailed_outcome hbound
  obtain ⟨new', hrepolled, hstate, hattempts, hretry, hdue⟩ := repollStatus_step (s.nodeFailed n) n
  have hchan := hrepolled.touches.chan z ch
  rw [hstep.node] at hstate hattempts hretry hdue
  rw [hended]
  refine ⟨⟨new', hstep.then_mono hrepolled (by decide) (.inr hstate), ?_, fun hlast => ?_, fun hfew => ?_⟩, by rw [hchan, hpending],
    by rw [hchan, happlied], (hrepolled.touches .commands (by decide)).trans hcommands⟩
  · rw [hattempts, hcounted.attempts]
  · obtain ⟨hsilent, hretried, hnever⟩ := hcounted.last hlast
    exact ⟨hstate.trans hsilent, hretry.trans hretried, (hdue hsilent).trans hnever⟩
  · obtain ⟨hkept, hretried⟩ := hcounted.early hfew
    exact ⟨hstate.trans hkept, hretry.trans hretried⟩

end

/-- The loop is freed before the failure is counted. -/
theorem NodeStep.of_freed {n : NodeId} {new : Node} {F : List Part} {c : Nat} {s t : State} (h : NodeStep n new F c s.loopFreed t)
    (hF : ∀ k ∈ [Part.clock, .cfg, .settings], k ∉ F := by decide) : NodeStep n new (.txn :: F) (0 + c) s t :=
  ((loopFreed_touches s).nodeStep n |>.mono (by simp)).then_mono h (by simp) (.inl rfl) (by simpa using hF)

end Sys2Proof.Machine

open Sys2Proof Sys2Proof.Machine

set_option Elab.async false

/-- Settles O49: a bad reply and a closed window end the transaction alike, and what each makes of the node follows from its misses
or attempts alone. -/
theorem failedTransactionsAreCounted : Obligations.FailedTransactionsAreCounted := by
  refine fun s n value bytes => ⟨fun htxn => ?idle, fun x htxn habandoned => ?abandoned, fun op htxn hbad => ?bad,
    fun htxn => ?read, fun op z ch hop htxn hbound => ?actuator⟩
  case idle =>
    show execLoopReplyTimeout s = _
    simp only [execLoopReplyTimeout, htxn]
  case abandoned =>
    show execLoopReplyTimeout s = _
    simp only [execLoopReplyTimeout, htxn, habandoned, if_true]
  case bad => rw [exec_loopReply_live htxn rfl, exec_loopReplyTimeout_live htxn rfl, hbad]
  case read =>
    have hexec : exec .loopReplyTimeout s = .next (s.loopFreed.endRead n none) := exec_loopReplyTimeout_live htxn rfl
    have hnode : NodeStep n (s.repolled ((s.node n).missed (s.staleLimit n))) nodeEffects 9 s.loopFreed
        (s.loopFreed.endRead n none) := endRead_missed s.loopFreed n
    obtain ⟨hstate, hmisses⟩ := repolled_state s ((s.node n).missed (s.staleLimit n))
    rw [← hnode.node] at hstate hmisses
    have hstep := hnode.of_freed
    refine ⟨_, hexec, hnode.touches .txn (by decide), hmisses, fun hheard => ?_, fun hfresh hlate => ?_, fun hpolled => ?_,
      hstep.reported, hstep.others, hstep.touches⟩
    · rw [hstate, hmisses, missed_heard hheard]
    · rw [hstate, missed_unheard hfresh hlate]
    · rw [hnode.node]
      exact repolled_due s hpolled
  case actuator =>
    obtain ⟨t, hexec, hfailed, hsent⟩ : ∃ t, exec .loopReplyTimeout s = .next t ∧ ActuatorFailed n z ch s.loopFreed t ∧
        (op = .command → (t.chan z ch).sent = none ∧ (t.chan z ch).replaced = false) := by
      rw [exec_loopReplyTimeout_live htxn rfl]
      cases op with
      | read => exact absurd rfl hop
      | command =>
        obtain ⟨hfailed, hsent⟩ := endCommand_fails (s := s.loopFreed) hbound
        exact ⟨_, rfl, hfailed, fun _ => hsent⟩
      | status => exact ⟨_, rfl, endStatus_fails (s := s.loopFreed) hbound, fun h => nomatch h⟩
    obtain ⟨⟨new, hnode, hcounted⟩, hpending, happlied, hcommands⟩ := hfailed
    have hstep := hnode.of_freed
    refine ⟨t, hexec, hnode.touches .txn (by decide), (congrArg Node.attempts hnode.node).trans hcounted.attempts, hsent, hpending,
      happlied, fun hlast => ?_, fun hfew => ?_, hstep.reported, hstep.others, hstep.touches.mono (by decide)⟩
    · obtain ⟨hsilent, hretry, hnever⟩ := hcounted.last hlast
      refine ⟨(congrArg Node.state hnode.node).trans hsilent, (congrArg Node.retry hnode.node).trans hretry,
        (congrArg Node.due hnode.node).trans hnever, ?_⟩
      rw [hcommands, if_pos (show 3 ≤ (s.loopFreed.node n).attempts from hlast)]
      simp
    · obtain ⟨hstate, hretry⟩ := hcounted.early hfew
      refine ⟨(congrArg Node.state hnode.node).trans hstate, (congrArg Node.retry hnode.node).trans hretry, ?_⟩
      rw [hcommands, if_neg (show ¬ 3 ≤ (s.loopFreed.node n).attempts from Nat.not_le.2 hfew)]
      rfl

end

section
/-! ## WRITE_NODE (R146, R147)

What the request makes of the entry is a function of the entry, the time, and the kind and code written: the kind that changes acts
first, then the code. -/

namespace Sys2Proof.Machine

open Sys2Proof

set_option Elab.async false

/-! ### The entry (R147) -/

/-- The entry of a node that has not been heard of since its kind became `kind`. -/
def Node.unheard (nd : Node) (kind : NodeKind) (code : Nat) : Node :=
  { nd with kind := kind, code := code, state := .absent, misses := 0, attempts := 0, due := none, waiting := false, retry := none }

/-- The entry of a node whose kind becomes `kind` at `now`. -/
def Node.rekinded (nd : Node) (now : GTime) (kind : NodeKind) (code : Nat) : Node :=
  if isSensor kind && decide (0 < code) then (nd.unheard kind code).dueAt now now else nd.unheard kind code

/-- The entry of a sensor whose code becomes `code` at `now`. -/
def Node.recoded (nd : Node) (now : GTime) (code : Nat) : Node :=
  if code = 0 then { nd with code := code, state := .absent, due := none, waiting := false }
  else { nd with code := code }.dueAt now now

/-- The entry after an accepted WRITE_NODE. -/
def Node.written (nd : Node) (now : GTime) (kind : NodeKind) (code : Nat) : Node :=
  let taken := if nd.kind = kind then nd else nd.rekinded now kind code
  if nd.code ≠ code ∧ isSensor kind = true then taken.recoded now code else taken

section

variable (nd : Node) (now : GTime) (kind : NodeKind) (code : Nat)

theorem rekinded_entry : (nd.rekinded now kind code).kind = kind ∧ (nd.rekinded now kind code).code = code ∧
    (nd.rekinded now kind code).state = .absent ∧ (nd.rekinded now kind code).misses = 0 ∧
    (nd.rekinded now kind code).attempts = 0 ∧ (nd.rekinded now kind code).retry = none := by
  unfold Node.rekinded
  split <;> exact ⟨rfl, rfl, rfl, rfl, rfl, rfl⟩

theorem rekinded_due :
    (nd.rekinded now kind code).due = if isSensor kind = true ∧ 0 < code then some now else none := by
  unfold Node.rekinded
  simp only [Bool.and_eq_true, decide_eq_true_eq]
  split <;> rfl

theorem recoded_keeps : (nd.recoded now code).kind = nd.kind ∧ (nd.recoded now code).code = code ∧
    (nd.recoded now code).misses = nd.misses ∧ (nd.recoded now code).attempts = nd.attempts ∧
    (nd.recoded now code).retry = nd.retry := by
  unfold Node.recoded
  split <;> exact ⟨rfl, rfl, rfl, rfl, rfl⟩

theorem recoded_state : (nd.recoded now code).state = if code = 0 then .absent else nd.state := by
  unfold Node.recoded
  split <;> rfl

theorem recoded_due : (nd.recoded now code).due = if 0 < code then some now else none := by
  unfold Node.recoded
  by_cases h : code = 0
  · rw [if_pos h, if_neg (by omega)]
  · rw [if_neg h, if_pos (by omega)]
    rfl

theorem recoded_waiting (h : 0 < code) : (nd.recoded now code).waiting = true := by
  rw [Node.recoded, if_neg (by omega)]
  exact decide_eq_true le_rfl

variable {nd kind code}

theorem written_as_held (hkind : nd.kind = kind) (hcode : nd.code = code) : nd.written now kind code = nd := by
  unfold Node.written
  rw [if_pos hkind, if_neg fun h => h.1 hcode]

theorem written_rekinded (hkind : nd.kind ≠ kind) : nd.written now kind code =
    if nd.code ≠ code ∧ isSensor kind = true then (nd.rekinded now kind code).recoded now code else nd.rekinded now kind code := by
  unfold Node.written
  rw [if_neg hkind]

theorem written_recoded (hcode : nd.code ≠ code) (hsensor : isSensor kind = true) : nd.written now kind code =
    (if nd.kind = kind then nd else nd.rekinded now kind code).recoded now code := if_pos ⟨hcode, hsensor⟩

variable (nd kind code)

/-- What an accepted WRITE_NODE makes of an entry (R147). -/
structure NodeWritten (before after : Node) : Prop where
  named   : after.kind = kind
  coded   : isSensor kind = true ∨ before.kind ≠ kind → after.code = code
  reset   : before.kind ≠ kind → after.state = .absent ∧ after.misses = 0 ∧ after.attempts = 0 ∧ after.retry = none ∧
    (after.due = if isSensor kind = true ∧ 0 < code then some now else none)
  recoded : isSensor kind = true → before.code ≠ code → (code = 0 → after.state = .absent ∧ after.due = none) ∧
    (0 < code → after.due = some now ∧ after.waiting = true)
  held    : before.kind = kind → before.code = code → after = before

theorem written_nodeWritten : NodeWritten now kind code nd (nd.written now kind code) where
  named := by
    have htaken : (if nd.kind = kind then nd else nd.rekinded now kind code).kind = kind := by
      split
      · next h => exact h
      · exact (rekinded_entry nd now kind code).1
    unfold Node.written
    dsimp only
    split
    · exact (recoded_keeps _ now code).1.trans htaken
    · exact htaken
  coded h := by
    by_cases hrecoded : nd.code ≠ code ∧ isSensor kind = true
    · rw [written_recoded now hrecoded.1 hrecoded.2]
      exact (recoded_keeps _ now code).2.1
    · by_cases hkind : nd.kind = kind
      · have hcode : nd.code = code := not_not.1 fun hcode => hrecoded ⟨hcode, h.resolve_right (not_not.2 hkind)⟩
        rw [written_as_held now hkind hcode, hcode]
      · rw [written_rekinded now hkind, if_neg hrecoded]
        exact (rekinded_entry nd now kind code).2.1
  reset hkind := by
    obtain ⟨-, -, hstate, hmisses, hattempts, hretry⟩ := rekinded_entry nd now kind code
    rw [written_rekinded now hkind]
    split
    · next h =>
      obtain ⟨-, -, hmisses', hattempts', hretry'⟩ := recoded_keeps (nd.rekinded now kind code) now code
      rw [recoded_state, recoded_due, hstate, hmisses', hattempts', hretry']
      exact ⟨ite_self _, hmisses, hattempts, hretry, by simp only [h.2, true_and]⟩
    · exact ⟨hstate, hmisses, hattempts, hretry, rekinded_due nd now kind code⟩
  recoded hsensor hcode := by
    rw [written_recoded now hcode hsensor, recoded_state, recoded_due]
    exact ⟨fun h => ⟨if_pos h, if_neg (by omega)⟩, fun h => ⟨if_pos h, recoded_waiting _ now code h⟩⟩
  held := written_as_held now

end

/-! ### The operation (R146, R147) -/

/-- What the operation touches. -/
abbrev writeParts : List Part := .txn :: nodeEffects

/-- A node whose kind changes goes ABSENT, with no counts and no transaction of its own (R147). -/
def State.forgetNode (s : State) (n : NodeId) (kind : NodeKind) (code : Nat) : State :=
  ((s.setNodeState n .absent).modNode n fun nd =>
    { nd with kind := kind, code := code, misses := 0, attempts := 0, due := none, waiting := false, retry := none }).abandon n

section

variable (s : State) (n : NodeId) (kind : NodeKind) (code : Nat)

theorem forgetNode_step : NodeStep n ((s.node n).unheard kind code) writeParts 9 s (s.forgetNode n kind code) := by
  have habsent : NodeStep n _ writeParts 9 s (s.setNodeState n .absent) := (setNodeState_step s n .absent).mono (by decide)
  have hreset := modNode_step (s.setNodeState n .absent) n (fun nd =>
    { nd with kind := kind, code := code, misses := 0, attempts := 0, due := none, waiting := false, retry := none }) rfl
  rw [habsent.node] at hreset
  exact (habsent.then_mono hreset (by decide) (.inr rfl)).then_still ((abandon_touches _ n).nodeStep n) (by decide)

theorem changeKind_step : NodeStep n ((s.node n).rekinded s.clock kind code) writeParts 9 s (s.changeKind n kind code) := by
  have hforgotten := forgetNode_step s n kind code
  have hchanged : s.changeKind n kind code = if isSensor kind && decide (0 < code) then
      (s.forgetNode n kind code).setDue n (s.forgetNode n kind code).clock else s.forgetNode n kind code := rfl
  rw [hchanged, Node.rekinded]
  split
  · have hdue := setDue_step (s.forgetNode n kind code) n (s.forgetNode n kind code).clock
    have hclock : (s.forgetNode n kind code).clock = s.clock := hforgotten.touches .clock (by decide)
    rw [hforgotten.node, hclock] at hdue
    rw [hclock]
    exact hforgotten.then_mono hdue (by decide) (.inr rfl)
  · exact hforgotten

/-- The new code of a sensor, before the zone that binds it is told of it (R147). -/
def State.writeCode (s : State) (n : NodeId) (code : Nat) : State :=
  if code = 0 then ((s.modNode n fun nd => { nd with code := code }).setNodeState n .absent).modNode n fun nd =>
    { nd with due := none, waiting := false }
  else (s.modNode n fun nd => { nd with code := code }).setDue n s.clock

theorem writeCode_step : NodeStep n ((s.node n).recoded s.clock code) writeParts 9 s (s.writeCode n code) := by
  have hcode := modNode_step s n (fun nd => { nd with code := code }) rfl
  have hcoded : NodeStep n _ writeParts 0 s _ := hcode.mono (by decide)
  unfold State.writeCode Node.recoded
  split
  · have habsent := setNodeState_step (s.modNode n fun nd => { nd with code := code }) n .absent
    rw [hcode.node] at habsent
    have hlost := hcoded.then_mono habsent (by decide) (.inl rfl)
    have hnever := modNode_step ((s.modNode n fun nd => { nd with code := code }).setNodeState n .absent) n
      (fun nd => { nd with due := none, waiting := false }) rfl
    rw [hlost.node] at hnever
    exact hlost.then_mono hnever (by decide) (.inr rfl)
  · have hdue := setDue_step (s.modNode n fun nd => { nd with code := code }) n s.clock
    rw [hcode.node] at hdue
    exact (hcoded.then_mono hdue (by decide) (.inr rfl)).widen (Nat.zero_le 9)

theorem changeCode_step : NodeStep n ((s.node n).recoded s.clock code) writeParts 9 s (s.changeCode n code) :=
  (writeCode_step s n code).then_still ((flagRate_touches (s.writeCode n code) n).nodeStep n) (by decide)

theorem applyNode_step : NodeStep n ((s.node n).written s.clock kind code) writeParts 18 s (s.applyNode n kind code) := by
  have hkind : NodeStep n (if (s.node n).kind = kind then s.node n else (s.node n).rekinded s.clock kind code) writeParts 9 s
      (if (s.node n).kind = kind then s else s.changeKind n kind code) := by
    split
    · exact (NodeStep.of_same rfl : NodeStep n _ writeParts 9 s s)
    · exact changeKind_step s n kind code
  have hclock : (if (s.node n).kind = kind then s else s.changeKind n kind code).clock = s.clock := hkind.touches .clock (by decide)
  have hcode := changeCode_step (if (s.node n).kind = kind then s else s.changeKind n kind code) n code
  rw [hkind.node, hclock] at hcode
  unfold State.applyNode Node.written
  dsimp only
  split
  · refine hkind.trans hcode ?_
    by_cases hnamed : (s.node n).kind = kind
    · rw [if_pos hnamed]
      exact .inl rfl
    · have habsent := (rekinded_entry (s.node n) s.clock kind code).2.2.1
      rw [if_neg hnamed, recoded_state, habsent]
      exact .inr (ite_self _)
  · exact hkind.widen (by decide)

end

/-! ### The request (R146) -/

theorem kindOf?_kindCode (k : NodeKind) : kindOf? (u1 (kindCode k)) = some k := by
  cases k <;> rfl

theorem writeNodeOf?_spelt (n : NodeId) (k : NodeKind) {code : Nat} (h : code ≤ 7) :
    writeNodeOf? [u1 (n.val + 1), u1 (kindCode k), u1 code] = some (n, k, code) := by
  have hcode : within 0 7 (u1 code).toNat = some code := by
    rw [u1_toNat, Nat.mod_eq_of_lt (by omega)]
    exact within_self (Nat.zero_le code) h
  simp only [writeNodeOf?, nodeOf?_u1, kindOf?_kindCode, hcode]

theorem nodeWriteOk_iff {s : State} {n : NodeId} {k : NodeKind} {code : Nat} : s.nodeWriteOk n k code = true ↔
    ((s.node n).kind = k ∨ s.boundZone n = none) ∧ (isSensor k = true ∨ code = 0) := by
  simp only [State.nodeWriteOk, State.boundZone, Bool.and_eq_true, Bool.or_eq_true, decide_eq_true_eq, Option.isNone_iff_eq_none,
    Option.map_eq_none_iff]

section

variable {s : State} {p : PortId} {n : NodeId} {k : NodeKind} {code : Nat} {f : Frame} {rest : List Frame}

theorem exec_writeNode (h : NextRequest s p 0x34 f rest) (hf : f.payload = [u1 (n.val + 1), u1 (kindCode k), u1 code])
    (hcode : code ≤ 7) (hrole : (s.port p).role = .conservation) : exec (.writeNode p) s = .next
      ((if s.nodeWriteOk n k code then ((s.withTaken p rest).applyNode n k code).answer p f .done
          [u1 (kindCode (((s.withTaken p rest).applyNode n k code).node n).kind),
            u1 (((s.withTaken p rest).applyNode n k code).node n).code]
        else s.refusedWith p f rest .badArg none none).countRequest p) := by
  have hnamed : namedBy f = (none, none) := by simp [namedBy, rowOf, h.2]
  have hok : (s.withTaken p rest).nodeWriteOk n k code = s.nodeWriteOk n k code := rfl
  show execWriteNode p s = _
  unfold execWriteNode
  rw [h.serve (by simp [rowOf, h.2]), withTaken_asSystem hrole, hf, writeNodeOf?_spelt n k hcode]
  simp only [State.withArg, hok, refuse_withTaken, hnamed]

/-- A request that has changed one node's entry is answered. -/
theorem NodeStep.answered {new : Node} {c : Nat} {u : State} (h : NodeStep n new writeParts c (s.withTaken p rest) u) (st : Status)
    (payload : List Byte) : NodeStep n new (intake ++ writeParts) c s (u.answer p f st payload) := by
  have htaken : NodeStep n (s.node n) (intake ++ writeParts) 0 s (s.withTaken p rest) :=
    ((withTaken_touches s p rest).nodeStep n).mono (by decide)
  have hanswer := (answer_touches_tx u p f st payload).nodeStep n
  exact ((htaken.then_mono h (by decide) (.inl rfl)).then_still hanswer (by decide)).widen (by omega)

end

end Sys2Proof.Machine

open Sys2Proof Sys2Proof.Machine

set_option Elab.async false

/-- Settles O40: the entry becomes `Node.written`, of which each clause of the statement is a fact. -/
theorem writeNodeChangesTheEntry : Obligations.WriteNodeChangesTheEntry := by
  refine fun s p n k code f rest h hf hcode hrole => ⟨fun hkind hsensor => ?taken, fun hbad => ?refused⟩
  case taken =>
    have hexec := exec_writeNode h hf hcode hrole
    rw [if_pos (nodeWriteOk_iff.2 ⟨hkind, hsensor⟩)] at hexec
    have happlied := applyNode_step (s.withTaken p rest) n k code
    obtain ⟨hnamed, hcoded, hreset, hrecoded, hheld⟩ := written_nodeWritten (s.node n) s.clock k code
    have hentry : ((s.withTaken p rest).applyNode n k code).node n = (s.node n).written s.clock k code := happlied.node
    rw [hentry, hnamed] at hexec
    have hstep := happlied.answered (f := f) .done [u1 (kindCode k), u1 ((s.node n).written s.clock k code).code]
    have hnode := hstep.node
    refine ⟨_, hexec, ?_⟩
    rw [hnode]
    exact ⟨hnamed, hcoded, hreset, hrecoded, hheld, hstep.reported, hstep.others,
      happlied.touches.accepted f .done _, hstep.touches.mono (by decide)⟩
  case refused =>
    have hexec := exec_writeNode h hf hcode hrole
    rwa [if_neg fun hok => ?_] at hexec
    obtain ⟨hkind, hsensor⟩ := nodeWriteOk_iff.1 hok
    obtain ⟨hchanged, hbound⟩ | ⟨hactuator, hcoded⟩ := hbad
    · exact hkind.elim hchanged hbound
    · exact hsensor.elim (by simp [hactuator]) hcoded

end

section
/-! ## What a sample does in its zone, seen from the nodes (R34, R149)

The tests, the charge, the override computation and the sample record that follow a reading stay in the zone and report nothing of
nodes. -/

namespace Sys2Proof.Machine

open Sys2Proof

set_option Elab.async false

/-- The bits that the work of a sample in its zone can make pending. -/
abbrev sampleBits : List AttnBit := [.watermark, .watchMatch, .zoneCondition, .excursion]

/-- A change in the zone `z` that reports nothing of nodes, in at most `c` bytes of records. -/
structure ZoneWork (z : ZoneId) (F : List Part) (c : Nat) (s t : State) : Prop where
  inZone : InZone z F s t
  logs   : LogsOf Record.isNode c s t []
  raises : Raises sampleBits s t

namespace ZoneWork

variable {z : ZoneId} {F G : List Part} {c d : Nat} {s t u : State}

theorem refl (z : ZoneId) (F : List Part) (s : State) : ZoneWork z F 0 s s := ⟨.refl z F s, .refl 0 s, .refl _ s⟩

theorem mono (h : ZoneWork z F c s t) (hs : F ⊆ G) : ZoneWork z G c s t := ⟨h.inZone.mono hs, h.logs, h.raises⟩

theorem widen (h : ZoneWork z F c s t) (hd : c ≤ d) : ZoneWork z F d s t := ⟨h.inZone, h.logs.mono hd, h.raises⟩

theorem then_mono (h : ZoneWork z F c s t) (k : ZoneWork z G d t u) (hs : G ⊆ F) : ZoneWork z F (c + d) s u :=
  ⟨h.inZone.then_mono k.inZone hs, h.logs.trans k.logs, h.raises.trans k.raises⟩

/-- A change of the zone's own record. -/
theorem of_modZone {f : Zone → Zone} (h : Touches F s (s.modZone z f)) : ZoneWork z F 0 s (s.modZone z f) :=
  have hsilent : Logs s (s.modZone z f) [] := .of_same rfl rfl
  ⟨.of_modZone h, .of_silent hsilent 0, .of_ports _ rfl⟩

/-- Work on a zone leaves every node's entry, and is no report of one. -/
theorem nodeStep (h : ZoneWork z F c s t) (n : NodeId) (hF : Part.nodes ∉ F := by decide) : NodeStep n (s.node n) F c s t :=
  .of_other h.inZone.touches h.logs h.raises hF

end ZoneWork

/-! ### The tests (R127 to R131) -/

section

variable (s : State) (z : ZoneId)

theorem openExc_raises (k : ExcKind) (e : Excursion) : Raises sampleBits s (s.openExc z k e) := by
  rw [openExc_eq]
  exact ((Raises.of_ports _ rfl).then_mono (offer_raises (s.setExc z k (some e)) _) (by decide)).then_mono (pendWhere_raises _ _ _)
    (by decide)

theorem testBand_raises (k : ExcKind) (lo hi v : Int) : Raises sampleBits s (s.testBand z k lo hi v) := by
  unfold State.testBand
  split
  · split
    · exact openExc_raises s z k _
    · exact .refl _ s
  · split
    · exact (closeExc_raises s z k _).mono (by decide)
    · split
      · exact .of_ports _ rfl
      · exact .refl _ s

theorem testSwing_raises (atMark : Bool) (k : ExcKind) (swing limit : Int) :
    Raises sampleBits s (s.testSwing atMark z k swing limit) := by
  unfold State.testSwing
  split
  · split
    · exact openExc_raises s z k _
    · exact .refl _ s
  · split
    · exact (closeExc_raises s z k _).mono (by decide)
    · exact .of_ports _ rfl

theorem testClimate_raises : Raises sampleBits s (s.testClimate z) := by
  have hrhBand : ∀ (t : State) (lo hi v : Int),
      Raises sampleBits t (if (t.zone z).conflict then t else t.testBand z .rhBand lo hi v) := fun t lo hi v => by
    split
    · exact .refl _ t
    · exact testBand_raises t z .rhBand lo hi v
  have hswings : ∀ t : State, Raises sampleBits t (t.testSwings false z) := fun t => by
    unfold State.testSwings
    split
    · exact .refl _ t
    · exact (testSwing_raises t z false .tSwing _ _).trans (testSwing_raises _ z false .rhSwing _ _)
  unfold State.testClimate
  split
  · split
    · exact .refl _ s
    · exact ((testBand_raises s z .tBand _ _ _).trans (hrhBand _ _ _ _)).trans (hswings _)
  · exact .refl _ s

theorem testLux_raises (e : Nat) : Raises sampleBits s (s.testLux z e) := by
  have hopened : ∀ (f : Zone → Zone) (x : Excursion), Raises sampleBits s ((s.modZone z f).openExc z .lux x) :=
    fun f x => (Raises.of_ports _ rfl).trans (openExc_raises (s.modZone z f) z .lux x)
  unfold State.testLux
  simp only [luxPending_tracked]
  split
  · split
    · exact .of_ports _ rfl
    · exact (closeExc_raises s z .lux _).mono (by decide)
  · split
    · split
      · exact openExc_raises s z .lux _
      · exact .of_ports _ rfl
    · exact .refl _ s
  · split
    · split
      · exact hopened _ _
      · exact .of_ports _ rfl
    · exact .of_ports _ rfl

theorem testUv_raises (uv : Nat) : Raises sampleBits s (s.testUv z uv) := by
  have hset : ∀ u, Raises sampleBits s (s.setUvFirst z u) := fun u => .of_ports _ rfl
  unfold State.testUv
  dsimp only
  split
  · split
    · exact .of_ports _ rfl
    · exact hset _
    · exact (hset none).trans (openExc_raises _ z .uv _)
  · exact (hset none).then_mono (closeExc_raises _ z .uv _) (by decide)

end

theorem not_isNode_of_mem_excursionRecord {now : GTime} {z : ZoneId} {reason : CloseReason} {k : ExcKind} {a b : Option Excursion}
    {r : Record} (h : r ∈ excursionRecord now z reason k a b) : r.isNode = false := by
  cases a <;> cases b <;> simp [excursionRecord] at h <;> subst h <;> rfl

theorem totalSize_flatMap_le {α : Type} {f : α → List Record} {c : Nat} (h : ∀ a, totalSize (f a) ≤ c) (l : List α) :
    totalSize (l.flatMap f) ≤ c * l.length := by
  induction l with
  | nil => exact Nat.zero_le _
  | cons a l ih =>
    rw [List.flatMap_cons, totalSize_append, List.length_cons, Nat.mul_succ, Nat.add_comm]
    exact Nat.add_le_add ih (h a)

/-- The records of tests of the kinds `ks` are none of nodes. -/
theorem Watched.nodeLogs {z : ZoneId} {ks : List ExcKind} {s t : State} (h : Watched z ks s t) :
    LogsOf Record.isNode (21 * ks.length) s t [] := by
  refine ⟨_, h.logs, ?_, ?_⟩
  · exact totalSize_flatMap_le (fun k => totalSize_excursionRecord s.clock z .returned k ((s.zone z).exc k) ((t.zone z).exc k)) ks
  · refine List.filter_eq_nil_iff.2 fun r hr => ?_
    obtain ⟨k, -, hk⟩ := List.mem_flatMap.1 hr
    simp [not_isNode_of_mem_excursionRecord hk]

theorem Touches.of_part {F : List Part} {k : Part} {s t : State} (h : Touches (k :: F) s t) (hk : t.part k = s.part k) :
    Touches F s t := fun j hj => by
  by_cases hjk : j = k
  · subst hjk
    exact hk
  · exact h j (by simp [hjk, hj])

/-- Tests of climate kinds end no part of an override (R141). -/
theorem Watched.keepsOvr {z : ZoneId} {ks : List ExcKind} {s t : State} (h : Watched z ks s t) (hlux : .lux ∉ ks) (huv : .uv ∉ ks) :
    Touches ([.det] ++ reporting) s t := by
  have hovr : (t.zone z).ovr = (s.zone z).ovr := by
    rw [h.ovr, Zone.partsLeft, h.others .lux hlux, h.others .uv huv, ← Zone.partsLeft, ← (Watched.refl z s).ovr]
  refine Touches.of_part (k := .ovr) (h.inZone.touches.mono (by decide)) (funext fun x => ?_)
  by_cases hx : x = z
  · rw [hx]
    exact hovr
  · exact congrArg Zone.ovr (h.inZone.others x hx)

/-- The tests at a climate output, of a zone that is OFF or has a usable estimate with a filter output and a ring (R136). -/
theorem testClimate_work {s : State} {z : ZoneId} {ft frh : Int} {x : Slot} (husable : s.usable z = true)
    (hfilt : (s.zone z).est.filt = some (ft, frh)) (hx : (s.zone z).est.extremes = some x) :
    ZoneWork z ([.det] ++ reporting) 84 s (s.testClimate z) := by
  cases huse : (s.zone z).cfg.use with
  | false =>
    rw [testClimate_off huse]
    exact (ZoneWork.refl z _ s).widen (Nat.zero_le _)
  | true =>
    have hwatched := (testClimate_tested huse husable hfilt hx).watched
    exact ⟨⟨hwatched.keepsOvr (by decide) (by decide), hwatched.inZone.others⟩, hwatched.nodeLogs, testClimate_raises s z⟩

theorem lightTests_work (s : State) (z : ZoneId) (e uv : Nat) :
    ZoneWork z ([.det, .ovr] ++ reporting) 42 s ((s.testLux z e).testUv z uv) :=
  have hwatched := (lightTests_tested s z e uv).watched
  ⟨hwatched.inZone, hwatched.nodeLogs, (testLux_raises s z e).trans (testUv_raises _ z uv)⟩

/-! ### The charge (R63) -/

theorem ownTest_node (o : ObjId) : OwnTest o Record.isNode :=
  ⟨fun r h => by cases r <;> simp_all [Record.isGrant, Record.isNode], fun _ _ _ _ _ _ _ => rfl, fun _ _ _ _ _ => rfl⟩

theorem filter_isNode_paceChange (now : GTime) (o : ObjId) (z : ZoneId) (p q : Pace) (c : Nat) :
    (paceChange now o z p q c).filter Record.isNode = [] := by
  unfold paceChange
  split <;> rfl

theorem zoneCost_le (s : State) (z : ZoneId) : s.zoneCost z ≤ paceBudget := by
  rw [← sum_pace_costs]
  refine List.sum_le_sum fun o _ => ?_
  unfold chargeCost
  split <;> omega

theorem chargeZone_work (s : State) (z : ZoneId) (upTo : GTime) (e : Nat) :
    ZoneWork z zoneChargeParts paceBudget s (s.chargeZone z upTo e) := by
  have hlogs := chargeZone_logsOf s z upTo e 0 (ownTest_node 0)
  rw [State.chargeRecord, filter_isNode_paceChange] at hlogs
  exact ⟨chargeZone_inZone s z upTo e, hlogs.mono (zoneCost_le s z), (chargeZone_raises s z upTo e).mono (by decide)⟩

/-! ### The override computation (R139) -/

theorem recordEvaluation_work (s : State) (z : ZoneId) (conds : CondSet) :
    ZoneWork z ([.cause, .sticky] ++ reporting) 0 s (s.recordEvaluation z conds) :=
  ⟨recordEvaluation_inZone s z conds, .of_silent (recordEvaluation_logs s z conds) 0,
    (recordEvaluation_raises s z conds).mono (by decide)⟩

theorem grantEntering_work (s : State) (z : ZoneId) (ch : ChanKind) (e : Option Int) :
    ZoneWork z ([.granted, .delivery, .commands] ++ reporting) 14 s (s.grantEntering z ch e) := by
  refine ⟨grantEntering_inZone s z ch e, ⟨_, grantEntering_logs s z ch e, totalSize_partGrant s z ch e, ?_⟩, ?_⟩
  · cases e <;> rfl
  · cases e with
    | none => exact .refl _ s
    | some v => exact (grant_raises s none z ch _ v true).mono (by decide)

theorem evaluatePart_work (s : State) (z : ZoneId) (conds : CondSet) (shade light : Option Int) :
    ZoneWork z followParts 28 s (s.evaluatePart z conds shade light) :=
  (((recordEvaluation_work s z conds).mono (by decide)).then_mono (grantEntering_work _ z .shade shade) (by decide)).then_mono
    (grantEntering_work _ z .light light) (by decide)

theorem computeOverride_work (s : State) (z : ZoneId) : ZoneWork z (.ovr :: followParts) 28 s (s.computeOverride z) := by
  by_cases hidle : s.supervised = false ∨ (s.zone z).cfg.use = false ∨
    ((s.zone z).exc .lux).isSome = false ∧ (s.zone z).exc .uv = none ∨ newParts (s.zone z) = (s.zone z).ovr
  · rw [computeOverride_idle hidle]
    exact (ZoneWork.refl z _ s).widen (Nat.zero_le _)
  · simp only [not_or, not_and, Bool.not_eq_false] at hidle
    obtain ⟨hsup, huse, hopen, hnew⟩ := hidle
    have hopen' : ((s.zone z).exc .lux).isSome = true ∨ ((s.zone z).exc .uv).isSome = true := by
      cases hlux : ((s.zone z).exc .lux).isSome with
      | true => exact .inl rfl
      | false => exact .inr (Option.isSome_iff_ne_none.2 (hopen hlux))
    rw [computeOverride_eq hsup huse hopen' hnew rfl rfl]
    have hovr : Touches [.ovr] s (s.modZone z fun zn => { zn with ovr := newParts (s.zone z) }) := modZone_touches s z _
    exact ((ZoneWork.of_modZone hovr).mono (by decide)).then_mono (evaluatePart_work _ z _ _ _) (by decide)

/-! ### The sample record (R35, R36) -/

/-- What an estimate holds of the readings: all but the counters and the flags of the sample records (R20, R35, R36). -/
def Estimate.readings (e : Estimate) : Estimate :=
  { e with climateCount := 0, lightCount := 0, mark := false, rateClimate := false, rateLight := false }

theorem readings_eq_iff {a b : Estimate} : a.readings = b.readings ↔ a.filt = b.filt ∧ a.seeded = b.seeded ∧ a.raw = b.raw ∧
    a.ring = b.ring ∧ a.eMeas = b.eMeas ∧ a.saturated = b.saturated ∧ a.uv = b.uv ∧ a.d = b.d ∧ a.d0 = b.d0 ∧
    a.d0Status = b.d0Status := by
  simp only [Estimate.readings, Estimate.mk.injEq, and_true]

/-- The counters and flags of a zone's sample records move, or one is offered; its readings stand. -/
structure SampleCounted (z : ZoneId) (c : Nat) (s t : State) : Prop where
  work     : ZoneWork z ([.est, .drops] ++ reporting) c s t
  readings : (t.zone z).est.readings = (s.zone z).est.readings

theorem SampleCounted.trans {z : ZoneId} {c d : Nat} {s t u : State} (h : SampleCounted z c s t) (k : SampleCounted z d t u) :
    SampleCounted z (c + d) s u := ⟨h.work.then_mono k.work (List.Subset.refl _), k.readings.trans h.readings⟩

theorem SampleCounted.widen {z : ZoneId} {c d : Nat} {s t : State} (h : SampleCounted z c s t) (hd : c ≤ d) :
    SampleCounted z d s t := ⟨h.work.widen hd, h.readings⟩

section

variable (s : State) (z : ZoneId)

theorem modEst_counted {f : Zone → Estimate} (h : (f (s.zone z)).readings = (s.zone z).est.readings) :
    SampleCounted z 0 s (s.modZone z fun zn => { zn with est := f zn }) := by
  refine ⟨(ZoneWork.of_modZone (modEst_touches s z f)).mono (by decide), ?_⟩
  rw [State.zone_modZone_self]
  exact h

theorem append_logs (r : Record) : Logs s (s.append r) [r] where
  subscribed := (append_raises s r).anySubscribed
  records _ old kept hold _ := ⟨0, by rw [append_records, hold, List.drop_zero, List.append_assoc]⟩

theorem append_counted {r : Record} (hsize : recordSize r ≤ 15) (hr : r.isNode = false) : SampleCounted z 15 s (s.append r) := by
  have hsignalled := append_signalled s r
  refine ⟨⟨(hsignalled.inZone z).mono (by decide), ⟨_, append_logs s r, ?_, ?_⟩, (append_raises s r).mono (by decide)⟩, ?_⟩
  · simpa only [totalSize, Nat.add_zero] using hsize
  · rw [List.filter_cons_of_neg (by simp [hr]), List.filter_nil]
  · rw [hsignalled.reported.zone]

theorem dropped_counted (k : Nat) : SampleCounted z 0 s { s with sampleDrops := k } := by
  have hdrops : Touches [.drops] s { s with sampleDrops := k } := by
    intro j hj
    cases j with
    | drops => simp at hj
    | _ => rfl
  have hsilent : Logs s { s with sampleDrops := k } [] := .of_same rfl rfl
  exact ⟨⟨(InZone.of_zones hdrops rfl).mono (by decide), .of_silent hsilent 0, .of_ports _ rfl⟩, rfl⟩

theorem offerClimateSample_counted (time : GTime) (t rh : Int) (raw : Option (Int × Int)) :
    SampleCounted z 15 s (s.offerClimateSample z time t rh raw) := by
  have hsize : ∀ m rate, recordSize (.climateSample z time t rh raw m rate) ≤ 15 := fun m rate => by
    cases raw <;> simp [recordSize]
  unfold State.offerClimateSample
  dsimp only
  split
  · split
    · exact (append_counted s z (hsize _ _) rfl).trans
        (modEst_counted (f := fun zn => { zn.est with mark := false, rateClimate := false }) _ z rfl)
    · exact (dropped_counted s z _).widen (Nat.zero_le _)
  · exact ⟨(ZoneWork.refl z _ s).widen (Nat.zero_le _), rfl⟩

theorem offerLightSample_counted (time : GTime) (e uv : Nat) (sat : Bool) :
    SampleCounted z 15 s (s.offerLightSample z time e uv sat) := by
  have hsize : ∀ m rate, recordSize (.lightSample z time e uv sat m rate) ≤ 15 := fun m rate => by
    simp [recordSize]
  unfold State.offerLightSample
  dsimp only
  split
  · split
    · exact (append_counted s z (hsize _ _) rfl).trans
        (modEst_counted (f := fun zn => { zn.est with mark := false, rateLight := false }) _ z rfl)
    · exact (dropped_counted s z _).widen (Nat.zero_le _)
  · exact ⟨(ZoneWork.refl z _ s).widen (Nat.zero_le _), rfl⟩

theorem countClimate_counted : SampleCounted z 15 s (s.countClimate z) := by
  have hcount : ∀ k, SampleCounted z 0 s (s.modZone z fun zn => { zn with est := { zn.est with climateCount := k } }) := fun k =>
    modEst_counted (f := fun zn => { zn.est with climateCount := k }) s z rfl
  unfold State.countClimate
  dsimp only
  split
  · exact ((hcount _).trans (offerClimateSample_counted _ z _ _ _ _)).widen (Nat.le_refl 15)
  · exact (hcount _).widen (Nat.zero_le _)

theorem countLight_counted : SampleCounted z 15 s (s.countLight z) := by
  have hcount : ∀ k, SampleCounted z 0 s (s.modZone z fun zn => { zn with est := { zn.est with lightCount := k } }) := fun k =>
    modEst_counted (f := fun zn => { zn.est with lightCount := k }) s z rfl
  unfold State.countLight
  dsimp only
  split
  · exact ((hcount _).trans (offerLightSample_counted _ z _ _ _ _)).widen (Nat.le_refl 15)
  · exact (hcount _).widen (Nat.zero_le _)

end

end Sys2Proof.Machine
end

section
/-! ## A good reply to a READ (R21, R30 to R32, R63, R144, R148) -/

namespace Sys2Proof.Machine

open Sys2Proof

set_option Elab.async false

/-! ### The node (R148, R149) -/

/-- The entry of a sensor once a good reply has ended a READ of it (R148). -/
def State.heardFrom (s : State) (nd : Node) : Node := s.repolled { nd with misses := 0, state := .fresh }

theorem freedAnswer_step (s : State) (n : NodeId) :
    NodeStep n (s.heardFrom (s.node n)) (.nodes :: reporting) 9 s.loopFreed (s.readAnswered n) :=
  readEnded_step (fun u => setNodeState_live_step u n (by decide)) s.loopFreed 0

/-- What a good reply to a READ leaves of the node and the loop (R143, R148, R149). -/
structure ReadHeard (n : NodeId) (s t : State) : Prop where
  idle     : t.txn = none
  fresh    : (t.node n).state = .fresh
  misses   : (t.node n).misses = 0
  due      : 0 < (s.node n).code → (t.node n).due = some (nextDue s (s.node n).due (pollPeriod (s.node n).code))
  reported : NodeReported s t n
  others   : ∀ m, m ≠ n → t.node m = s.node m

/-- All that the values of a reply can touch. -/
abbrev replyParts : List Part := nodeEffects ++ paceEffects ++ [.ovr, .drops, .horizon, .acct]

section

variable {n : NodeId} {z : ZoneId} {F : List Part} {c : Nat} {s t : State}

/-- The zone's work on the values leaves the node as the reply has made it. -/
theorem ZoneWork.readHeard (h : ZoneWork z F c (s.readAnswered n) t) (hs : F ⊆ replyParts := by decide)
    (hF : Part.nodes ∉ F := by decide) (hc : 0 + (9 + c) ≤ queueCapacity := by decide) : ReadHeard n s t := by
  have hanswer : NodeStep n (s.heardFrom (s.node n)) replyParts 9 s.loopFreed (s.readAnswered n) :=
    (freedAnswer_step s n).mono (by decide)
  have hfreed := hanswer.then_still (h.nodeStep n hF) hs
  have hstep := hfreed.of_freed
  obtain ⟨hstate, hmisses⟩ := repolled_state s { s.node n with misses := 0, state := .fresh }
  exact
    { idle := hfreed.touches .txn (by decide)
      fresh := (congrArg Node.state hstep.node).trans hstate
      misses := (congrArg Node.misses hstep.node).trans hmisses
      due := fun hpolled => (congrArg Node.due hstep.node).trans (repolled_due s hpolled)
      reported := hstep.reported hc
      others := hstep.others }

/-- The work that follows an answered READ touches what the READ does, and what it does itself. -/
theorem ZoneWork.readTouches (h : ZoneWork z F c (s.readAnswered n) t) : Touches (readParts ++ F) s t :=
  ((readAnswered_touches s n).mono (List.subset_append_left _ _)).then_mono h.inZone.touches (List.subset_append_right _ _)

end

theorem noteState_zone (s : State) (n : NodeId) (st : NodeState) (z : ZoneId) : (s.noteState n st).zone z = s.zone z :=
  ((offer_signalled _ _).trans (pendWhere_signalled _ .node (s.watchesNode n))).reported.zone z

/-- No zone is told of a sensor that answers. -/
theorem readAnswered_zone (s : State) (n : NodeId) (z : ZoneId) : (s.readAnswered n).zone z = s.zone z := by
  have hfresh : ∀ t : State, (t.setNodeState n .fresh).zone z = t.zone z := fun t => by
    by_cases h : (t.node n).state = .fresh
    · rw [setNodeState_same h]
    · rw [setNodeState_changes h, if_neg (by decide), noteState_zone]
  have hdue : ∀ t : State, (t.rescheduleRead n).zone z = t.zone z := fun t => by
    unfold State.rescheduleRead
    dsimp only
    split <;> rfl
  exact (hdue _).trans (hfresh _)

/-! ### A sensor that no zone binds -/

theorem endRead_unbound {s : State} {n : NodeId} (h : s.boundAt n = none) (d : ReplyData) :
    s.loopFreed.endRead n (some d) = s.readAnswered n := by
  have hbound := ((readAnswered_touches s n).boundAt n).trans h
  unfold State.readAnswered at hbound ⊢
  unfold State.loopFreed
  simp only [State.endRead, hbound]

/-! ### A climate reply (R21) -/

section

variable (s : State) (n : NodeId) (z : ZoneId)

theorem climateTaken_tested (T rh : Int) (hbound : s.boundAt n = some (z, 2)) :
    ZoneWork z ([.det] ++ reporting) 84 (s.climateTaken n z T rh) ((s.climateTaken n z T rh).testClimate z) := by
  obtain ⟨ft, frh, x, hfilt, hx, -⟩ := takeClimate_output ((s.readAnswered n).zone z).est
    ((s.readAnswered n).zone z).cfg.filterCode T (min 10000 rh)
  rw [← climateTaken_est s n z T rh] at hfilt hx
  exact testClimate_work (climateTaken_usable s n z T rh hbound) hfilt hx

/-- What a climate reply touches in its zone. -/
abbrev climateParts : List Part := [.est, .det, .drops] ++ reporting

theorem climateReply_work (T rh : Int) (hbound : s.boundAt n = some (z, 2)) : ZoneWork z climateParts 99 (s.readAnswered n)
    (((s.climateTaken n z T rh).testClimate z).countClimate z) := by
  have htaken : ZoneWork z climateParts 0 (s.readAnswered n) (s.climateTaken n z T rh) :=
    (ZoneWork.of_modZone (modEst_touches (s.readAnswered n) z _)).mono (by decide)
  exact ((htaken.then_mono (climateTaken_tested s n z T rh hbound) (by decide)).then_mono (countClimate_counted _ z).work
    (by decide)).widen (by decide)

theorem climateReply_readings (T rh : Int) (hbound : s.boundAt n = some (z, 2)) :
    ((((s.climateTaken n z T rh).testClimate z).countClimate z).zone z).est.readings =
      ((s.zone z).est.takeClimate (s.zone z).cfg.filterCode T (min 10000 rh)).readings := by
  rw [(countClimate_counted _ z).readings, (climateTaken_tested s n z T rh hbound).inZone.touches.zoneEst z, climateTaken_est,
    readAnswered_zone]

/-! ### A light reply (R30 to R32, R34, R63) -/

variable (e uv : Nat)

/-- What a light reply does in its zone before its record is counted (R34). -/
def State.lightWorked : State :=
  if (s.zone z).cfg.use = true then (((s.lightCharged n z e uv).testLux z e).testUv z (min 2000 uv)).computeOverride z
  else s.lightTaken n z e uv

theorem lightTested_work (t : State) : ZoneWork z ([.det, .ovr] ++ followParts) 70 t
    (((t.testLux z e).testUv z uv).computeOverride z) :=
  ((lightTests_work t z e uv).mono (by decide)).then_mono (computeOverride_work _ z) (by decide)

theorem lightTaken_zone : (s.lightTaken n z e uv).zone z = { s.zone z with
    est := (s.zone z).est.takeLight (s.zone z).cfg.eFull (s.zone z).cfg.tc (s.chan z .light).applied (s.chan z .shade).applied e
      (min 2000 uv) } := by
  rw [State.lightTaken, State.zone_modZone_self, readAnswered_zone]
  rfl

theorem lightTaken_work : ZoneWork z [.est] 0 (s.readAnswered n) (s.lightTaken n z e uv) :=
  .of_modZone (modEst_touches (s.readAnswered n) z _)

/-- What a light reply touches in its zone. -/
abbrev lightParts : List Part := [.est, .det, .ovr, .drops] ++ zoneChargeParts

theorem lightWorked_work : ZoneWork z lightParts 902 (s.readAnswered n) (s.lightWorked n z e uv) := by
  have htaken : ZoneWork z lightParts 0 _ _ := (lightTaken_work s n z e uv).mono (by decide)
  unfold State.lightWorked
  split
  · exact ((htaken.then_mono (chargeZone_work _ z _ _) (by decide)).then_mono (lightTested_work z e (min 2000 uv) _)
      (by decide)).widen (show 0 + paceBudget + 70 ≤ 902 by decide)
  · exact htaken.widen (Nat.zero_le _)

theorem lightWorked_est : ((s.lightWorked n z e uv).zone z).est = ((s.lightTaken n z e uv).zone z).est := by
  unfold State.lightWorked
  split
  · have hcharged : InZone z zoneChargeParts (s.lightTaken n z e uv) (s.lightCharged n z e uv) := chargeZone_inZone _ z _ _
    have htested := lightTested_work z e (min 2000 uv) (s.lightCharged n z e uv)
    exact (htested.inZone.touches.zoneEst z).trans (hcharged.touches.zoneEst z)
  · rfl

theorem lightWorked_horizon :
    ((s.lightWorked n z e uv).zone z).horizon = if (s.zone z).cfg.use then s.clock else (s.zone z).horizon := by
  have hclock : (s.lightTaken n z e uv).clock = s.clock := lightTaken_touches s n z e uv .clock (by decide)
  unfold State.lightWorked
  split
  · have htested := congrFun ((lightTested_work z e (min 2000 uv) (s.lightCharged n z e uv)).inZone.touches .horizon (by decide)) z
    exact (htested.trans (chargeZone_horizon _ z _ _)).trans hclock
  · rw [lightTaken_zone]

/-- The account of an object after the sample's charge (R63). -/
theorem accountIn_since (ob : Object) (horizon upTo : GTime) : accountIn ob z e (upTo.since horizon) =
    if ob.cfg.use = true ∧ ob.cfg.zone = z then ob.acct.chargedTo horizon upTo e ob.cfg.w else ob.acct := by
  unfold accountIn Account.chargedTo GTime.since faceLux
  simp only [Object.inZone_iff, Nat.mul_comm]

theorem lightWorked_object (o : ObjId) : (s.lightWorked n z e uv).object o =
    if (s.zone z).cfg.use = true then (s.lightTaken n z e uv).charged o (accountIn (s.object o) z
      (max ((s.zone z).est.eMeas.getD e) e) (s.clock.since (s.zone z).horizon)) else s.object o := by
  have hobject := (lightTaken_touches s n z e uv).object o
  have hclock : (s.lightTaken n z e uv).clock = s.clock := lightTaken_touches s n z e uv .clock (by decide)
  unfold State.lightWorked
  split
  · rw [(lightTested_work z e (min 2000 uv) _).inZone.touches.object o, State.lightCharged, chargeZone_object, hobject, hclock,
      lightTaken_zone, readAnswered_zone]
  · exact hobject

/-- R63: the ON objects of an ON zone are charged. -/
theorem lightWorked_acct (o : ObjId) : ((s.lightWorked n z e uv).object o).acct =
    if (s.zone z).cfg.use = true ∧ (s.object o).cfg.use = true ∧ (s.object o).cfg.zone = z then
      (s.object o).acct.chargedTo (s.zone z).horizon s.clock (max ((s.zone z).est.eMeas.getD e) e) (s.object o).cfg.w
    else (s.object o).acct := by
  rw [lightWorked_object, ite_and]
  split
  · exact accountIn_since z _ (s.object o) (s.zone z).horizon s.clock
  · rfl

/-- R63: every other object stands. -/
theorem lightWorked_otherObject {o : ObjId}
    (h : (s.zone z).cfg.use = false ∨ (s.object o).cfg.use = false ∨ (s.object o).cfg.zone ≠ z) :
    (s.lightWorked n z e uv).object o = s.object o := by
  rw [lightWorked_object]
  split
  · next hon =>
    have hout : ¬ ((s.object o).cfg.use = true ∧ (s.object o).cfg.zone = z) := by
      simpa [hon, imp_iff_not_or] using h
    have hobject := (lightTaken_touches s n z e uv).object o
    have hself := charged_self (s.lightTaken n z e uv) o
    rw [accountIn_since, if_neg hout]
    rwa [hobject] at hself
  · rfl

theorem updateD0_eq (tc d : Nat) (shade : Option Int) (d0 : Option Nat) (status : D0Status) : updateD0 tc d shade d0 status =
    if 50 ≤ tau tc (shade.getD 0).toNat then (some (d * 1000 / tau tc (shade.getD 0).toNat), .known)
    else if status = .unknown then (none, .unknown) else (d0, .held) := by
  unfold updateD0
  dsimp only
  split
  · rfl
  · cases status <;> rfl

theorem lightReply_readings : (((s.lightWorked n z e uv).countLight z).zone z).est.readings = ((s.zone z).est.takeLight
    (s.zone z).cfg.eFull (s.zone z).cfg.tc (s.chan z .light).applied (s.chan z .shade).applied e (min 2000 uv)).readings := by
  rw [(countLight_counted _ z).readings, lightWorked_est, lightTaken_zone]

end

end Sys2Proof.Machine

open Sys2Proof Sys2Proof.Machine

set_option Elab.async false

/-- Settles O47: the READ ends, and then the zone's work on the values, which leaves the node, and the record of the sample, which
leaves the readings. -/
theorem sensorRepliesReachTheZone : Obligations.SensorRepliesReachTheZone := by
  refine fun s n value => ⟨fun bytes hnone => ?discarded, fun T rh z htxn hkind hlo hhi hrh hbound => ?climate,
    fun data htxn hbound hdata => ?unbound, fun e uv z htxn hkind he huv hbound => ?light⟩
  case discarded =>
    show execLoopReply bytes s = _
    obtain htxn | ⟨x, htxn, habandoned⟩ := hnone
    · simp only [execLoopReply, htxn]
    · simp only [execLoopReply, htxn, habandoned, if_true]
  case climate =>
    have hexec := exec_climateReply htxn hkind hbound hlo hhi hrh
    rw [climateSample_readAnswered] at hexec
    have hwork := climateReply_work s n z T rh hbound
    obtain ⟨hfilt, hseeded, hraw, hring, -⟩ := readings_eq_iff.1 (climateReply_readings s n z T rh hbound)
    obtain ⟨ft, frh, htaken⟩ := takeClimate_eq (s.zone z).est (s.zone z).cfg.filterCode T (min 10000 rh)
    obtain ⟨hidle, hfresh, hmisses, hdue, hreported, hothers⟩ := hwork.readHeard
    exact ⟨_, hexec, hidle, hfresh, hmisses, hdue, hfilt, hring, hraw.trans (congrArg Estimate.raw htaken),
      hseeded.trans (congrArg Estimate.seeded htaken), fun x hx => (hwork.inZone.others x hx).trans (readAnswered_zone s n x),
      hreported, hothers, hwork.readTouches.mono (by decide)⟩
  case unbound =>
    obtain ⟨d, hd⟩ : ∃ d, replyBody n .read (s.node n).kind (u1 (n.val + 1 + 0x80) :: 0 :: data) = some d := by
      obtain ⟨hkind, T, rh, hlo, hhi, hrh, rfl⟩ | ⟨hkind, e, uv, he, huv, rfl⟩ := hdata
      · exact ⟨_, hkind ▸ replyBody_climate n hlo hhi hrh⟩
      · exact ⟨_, hkind ▸ replyBody_light n he huv⟩
    have hexec : exec (.loopReply (replyFrame n data)) s = .next (s.readAnswered n) := by
      rw [exec_loopReply_read htxn, hd]
      exact congrArg Host.Outcome.next (endRead_unbound hbound d)
    obtain ⟨hidle, hfresh, hmisses, hdue, hreported, hothers⟩ := (ZoneWork.refl 0 [] (s.readAnswered n)).readHeard
    exact ⟨_, hexec, hidle, hfresh, hmisses, hdue, hreported, hothers, (readAnswered_touches s n).mono (by decide)⟩
  case light =>
    have hexec : exec (.loopReply (replyFrame n (u2 e ++ u2 uv))) s = .next ((s.lightWorked n z e uv).countLight z) := by
      rw [exec_lightReply htxn hkind hbound he huv, lightSample_readAnswered]
      rfl
    have hcounted := countLight_counted (s.lightWorked n z e uv) z
    have hcount := hcounted.work.inZone.touches
    have hwork : ZoneWork z lightParts 917 (s.readAnswered n) ((s.lightWorked n z e uv).countLight z) :=
      (lightWorked_work s n z e uv).then_mono hcounted.work (by decide)
    obtain ⟨-, -, -, -, heMeas, hsaturated, huv, hd, hd0, hd0Status⟩ := readings_eq_iff.1 (lightReply_readings s n z e uv)
    obtain ⟨hidle, hfresh, hmisses, hdue, hreported, hothers⟩ := hwork.readHeard
    have hobject := fun o => hcount.object o
    refine ⟨_, hexec, hidle, hfresh, hmisses, hdue, heMeas, huv, hsaturated.trans (Bool.beq_eq_decide_eq e 65535), hd, ?_, ?_,
      fun o => ?_, fun hoff o => (hobject o).trans (lightWorked_otherObject s n z e uv (.inl hoff)),
      fun o ho => (hobject o).trans (lightWorked_otherObject s n z e uv (.inr ho)),
      fun x hx => (hwork.inZone.others x hx).trans (readAnswered_zone s n x), hreported, hothers,
      hwork.readTouches.mono (by decide)⟩
    · rw [hd0, hd0Status]
      exact updateD0_eq (s.zone z).cfg.tc _ (s.chan z .shade).applied (s.zone z).est.d0 (s.zone z).est.d0Status
    · exact (congrFun (hcount .horizon (by decide)) z).trans (lightWorked_horizon s n z e uv)
    · rw [hobject]
      exact lightWorked_acct s n z e uv o

end
